-- ==== Sys2Proof/Word.lean ====
section
/-! DEFINITION. The bit-vector types of the wire fields, of the table entries and of the monotonic count. -/

namespace Sys2Proof

/-- One byte of a frame or of a request's arguments (Table 1-1). -/
abbrev Byte := BitVec 8

/-- A two-byte field of a frame, or one entry of a table, 0..65535 (R165). -/
abbrev Word := BitVec 16

/-- A value of the monotonic millisecond count, 0..4,294,967,295, wrapping (R84). -/
abbrev Count := BitVec 32

/-- A 32-bit check or signature (R2, R32). -/
abbrev Check := BitVec 32

/-- One component of a stored sample, 0..4095 (Table 1-4). -/
abbrev Component := BitVec 12

end Sys2Proof
end

