-- ==== Sys2Proof/Syntax.lean ====
section
/-! DEFINITION. The commands of the DK-316: one constructor of `Instr` for each row of the table of operations and
events, and the types of their operands. -/

namespace Sys2Proof

/-- The two ports of the cascade link: U faces the head-end, D the next cabinet down. -/
inductive Port where
  | u
  | d
  deriving DecidableEq, Repr

/-- The eight tables of the Table Store, in the order of their codes 1 to 8 (Table 10-1). -/
inductive Table where
  | layout
  | gamma
  | calibration
  | ambient
  | schedule
  | limits
  | policy
  | groups
  deriving DecidableEq, Repr

/-- The three colours, in the order the manual takes them. -/
inductive Colour where
  | red
  | green
  | blue
  deriving DecidableEq, Repr

/-- One sample: three components, each 0..4095. -/
structure Pixel where
  red : Component
  green : Component
  blue : Component
  deriving DecidableEq, Repr

/-- The destination and tag fields of a MGMT header as sent (Table 1-5); the request code stands apart. -/
structure MgmtHead where
  mode : Byte
  value : Word
  tag : Word
  deriving DecidableEq, Repr

/-- A report record with the fields of Table 1-6 as they stand in a REPORT body, whatever their values (R6). -/
structure ReportRec where
  origin : Byte
  report : Byte
  kind : Byte
  module : Byte
  weekday : Byte
  minute : Word
  ms : Word
  flags : Byte
  detailType : Byte
  detailValue : Word
  active : Byte
  latched : Byte
  blanked : Byte
  lostLocal : Word
  lostForwarded : Word
  level : Word
  deriving DecidableEq, Repr

/-- The fourteen fault kinds, in the order of their codes 1 to 14 (Table 8-2). -/
inductive FaultKind where
  | openString
  | shortString
  | overTemp
  | driverSilent
  | ambientInvalid
  | dwellEarly
  | motion
  | linkCrc
  | downstreamDown
  | streamLost
  | tableEcc
  | clockUnset
  | storeInvalid
  | cabinetDark
  deriving DecidableEq, Repr

/-- The four conditions that the Fault Monitor keeps a flag for (R133). -/
inductive Condition where
  | streamLost
  | clockUnset
  | storeInvalid
  | cabinetDark
  deriving DecidableEq, Repr

/-- The detail of a detection, of a record or of a report (R128). A string set holds string i in bit i, the form
in which a report record carries it (R6). -/
inductive Detail where
  | absent
  | strings (set : Word)
  | temperature (celsius : Int)
  | table (t : Table)
  deriving DecidableEq, Repr

/-- One evaluation of a debounced kind (R124): its scope, a module number or the cabinet (`none`), whether it is a
detection, and its detail. -/
structure Evaluation where
  kind : FaultKind
  module : Option Nat
  detected : Bool
  detail : Detail
  deriving DecidableEq, Repr

/-- The five kinds of report (Table 1-6). -/
inductive ReportKind where
  | raised
  | cleared
  | latched
  | restored
  | summary
  deriving DecidableEq, Repr

/-- A report as the Fault Monitor hands it over (R137): the Report Queue adds origin and time. -/
structure Report where
  report : ReportKind
  kind : Option FaultKind
  module : Option Nat
  detail : Detail
  deriving DecidableEq, Repr

/-- A good frame of a down-bound kind, with every bit that the part passes on (R4, R8): the SYNC's whole flags byte,
the PIXEL coordinates as sent and the four bits that fill its last byte. -/
inductive DownFrame where
  | sync (frame content lux : Word) (flags : Byte)
  | pixel (line column : Word) (samples : List Pixel) (pad : BitVec 4)
  | mgmt (head : MgmtHead) (code : Byte) (args : List Byte)
  | enum (counter : Byte)
  deriving DecidableEq, Repr

/-- The commands: the 64 steps of the table of operations and events, in its order. A request's operands are the MGMT
header of its frame and its argument bytes. A step that one block hands to another carries what is handed over. -/
inductive Instr where
  | powerOnReset
  | pinReset
  | startUpComplete
  | linkUp (p : Port)
  | linkDown (p : Port)
  | frameCheckFailure (p : Port)
  | frameAborted (p : Port)
  | syncFrame (frame content lux : Word) (flags : Byte)
  | frameCaptureSync (frame content : Word)
  | dimmingSync (lux : Word) (valid : Bool)
  | tableStoreSync (frame : Word)
  | streamSync
  | sweepCountSync
  | sweepTick
  | pixelFrame (line column : Word) (samples : List Pixel) (pad : BitVec 4)
  | enumFrame (counter : Byte)
  | mgmtNotTaken (head : MgmtHead) (code : Byte) (args : List Byte)
  | holdFrame (pause : Word)
  | forwardedReply (body : List Byte)
  | forwardedRecord (rec : ReportRec)
  | forwardedFrameSent
  | holdFrameSent
  | replySent
  | reportSent
  | millisecondStep
  | secondEventLink
  | summaryCountAdvance
  | minuteEventCeiling
  | overrideMinute
  | overrideExpiry
  | syncTimeoutExpiry
  | holdExpiry
  | localTickExpiry
  | dimmingLocalTick
  | sweepCountLocalTick
  | lZeroNotice
  | moduleComputation
  | pollResult (module : Nat) (number : Byte) (opens shorts : Word) (temperature : Option Int)
  | faultEvaluationDelivery (evaluations : List Evaluation)
  | conditionDelivery (condition : Condition) (present : Bool)
  | tableEccDelivery (table : Table) (present : Bool)
  | restoreWindowExpiry
  | localReportDelivery (reports : List Report)
  | holdRefreshExpiry
  | inboundHoldExpiry
  | saveWriteSuccess
  | saveWriteFailure
  | unknownRequest (head : MgmtHead) (code : Byte) (args : List Byte)
  | identify (head : MgmtHead) (args : List Byte)
  | statusRead (head : MgmtHead) (args : List Byte)
  | tableWrite (head : MgmtHead) (args : List Byte)
  | tableRead (head : MgmtHead) (args : List Byte)
  | tableCommit (head : MgmtHead) (args : List Byte)
  | tableAbandon (head : MgmtHead) (args : List Byte)
  | ceilingLock (head : MgmtHead) (args : List Byte)
  | timeSet (head : MgmtHead) (args : List Byte)
  | driftSet (head : MgmtHead) (args : List Byte)
  | levelOverride (head : MgmtHead) (args : List Byte)
  | overrideEnd (head : MgmtHead) (args : List Byte)
  | trimNudge (head : MgmtHead) (args : List Byte)
  | faultRead (head : MgmtHead) (args : List Byte)
  | faultClear (head : MgmtHead) (args : List Byte)
  | save (head : MgmtHead) (args : List Byte)
  | softReset (head : MgmtHead) (args : List Byte)
  deriving DecidableEq, Repr

end Sys2Proof
end

