-- ==== Sys2Proof/Decode.lean ====
section
/-! DEFINITION. The command that a word of the table's bits spells. No row of the table of operations and events gives
bits, so no word spells a command. The bytes of the received frames, whose layouts the manual does give, are read in
`Sys2Proof.Machine.Wire`. -/

namespace Sys2Proof

/-- The command that `nbits` bits `w` spell: none, since no row of the table gives bits. -/
def decodeTableWord (_nbits _w : Nat) : Option Instr := none

end Sys2Proof
end

