-- ==== Sys2Proof/Machine/Tables.lean ====
section
/-! DEFINITION. Codes, sizes, built-in defaults and validation of the eight tables; codes of the fault kinds. -/

namespace Sys2Proof

/-! ## Codes -/

/-- The table's code, 1 to 8 (Table 1-8, Table 10-1). -/
def Table.code : Table → Nat
  | .layout => 1
  | .gamma => 2
  | .calibration => 3
  | .ambient => 4
  | .schedule => 5
  | .limits => 6
  | .policy => 7
  | .groups => 8

/-- The eight tables in increasing code. -/
def Table.all : List Table :=
  [.layout, .gamma, .calibration, .ambient, .schedule, .limits, .policy, .groups]

/-- The table a code names, if it is 1 to 8 (R170 to R175). -/
def Table.ofCode (c : Nat) : Option Table := Table.all.find? fun t => t.code == c

/-- The number of entries of a table (Table 10-1). -/
def Table.size : Table → Nat
  | .layout => 11
  | .gamma => 771
  | .calibration => 97
  | .ambient => 33
  | .schedule => 74
  | .limits => 11
  | .policy => 44
  | .groups => 4096

/-- The tables under the ceiling lock (Table 10-1, R176). -/
def Table.lockable : Table → Bool
  | .schedule => true
  | .limits => true
  | _ => false

/-- The tables whose bad marks make the part UNCONFIGURED (R169). -/
def Table.essential : Table → Bool
  | .layout => true
  | .limits => true
  | .policy => true
  | _ => false

/-- The code of a fault kind, 1 to 14 (Table 8-2). -/
def FaultKind.code : FaultKind → Nat
  | .openString => 1
  | .shortString => 2
  | .overTemp => 3
  | .driverSilent => 4
  | .ambientInvalid => 5
  | .dwellEarly => 6
  | .motion => 7
  | .linkCrc => 8
  | .downstreamDown => 9
  | .streamLost => 10
  | .tableEcc => 11
  | .clockUnset => 12
  | .storeInvalid => 13
  | .cabinetDark => 14

/-- The module kinds, codes 1 to 4 (Table 8-2). -/
def FaultKind.moduleScope (k : FaultKind) : Bool := k.code ≤ 4

/-- The debounced kinds, codes 1 to 9 (R124). -/
def FaultKind.debounced (k : FaultKind) : Bool := k.code ≤ 9

/-- The four module kinds in code order. -/
def FaultKind.moduleKinds : List FaultKind := [.openString, .shortString, .overTemp, .driverSilent]

/-- The module kind with a code 1 to 4, as FAULT-CLEAR names it (R144). -/
def FaultKind.ofModuleCode (c : Nat) : Option FaultKind := FaultKind.moduleKinds.find? fun k => k.code == c

/-- The fault kind of a condition. -/
def Condition.kind : Condition → FaultKind
  | .streamLost => .streamLost
  | .clockUnset => .clockUnset
  | .storeInvalid => .storeInvalid
  | .cabinetDark => .cabinetDark

/-- The report codes of Table 1-6. -/
def ReportKind.code : ReportKind → Nat
  | .raised => 1
  | .cleared => 2
  | .latched => 3
  | .restored => 4
  | .summary => 5

/-- The place of a colour in the order red, green, blue. -/
def Colour.index : Colour → Nat
  | .red => 0
  | .green => 1
  | .blue => 2

/-- The three colours in order. -/
def Colour.all : List Colour := [.red, .green, .blue]

/-- The component of a sample for a colour, the p of stage 1 (R45). -/
def Pixel.component (p : Pixel) : Colour → Nat
  | .red => p.red.toNat
  | .green => p.green.toNat
  | .blue => p.blue.toNat

/-- The sample of three components 0, as which an unwritten slot position reads (log entry 6). -/
def Pixel.black : Pixel := ⟨0, 0, 0⟩

namespace Machine

/-! ## Built-in defaults -/

/-- The built-in default of LAYOUT: the Default column of Table 2-1 (R23). -/
def layoutDefault : List Word := [0, 0, 16, 16, 1, 1, 16, 16, 1, 0, 1]

/-- One curve of the built-in default of GAMMA: point j is min(j × 256, 65535) (R46). -/
def gammaDefaultCurve : List Word := (List.range 257).map fun j => BitVec.ofNat 16 (min (j * 256) 65535)

/-- The built-in default of GAMMA (R46). -/
def gammaDefault : List Word := gammaDefaultCurve ++ gammaDefaultCurve ++ gammaDefaultCurve

/-- The built-in default of CALIBRATION: every entry 4095 (R50). -/
def calibrationDefault : List Word := List.replicate 97 4095

/-- The built-in default of AMBIENT (R64). -/
def ambientDefault : List Word := [2, 0, 160, 65535, 160] ++ List.replicate 28 0

/-- The built-in default of SCHEDULE: the Default column of Table 5-2 (R91). -/
def scheduleDefault : List Word := [0, 200] ++ List.replicate 72 0

/-- The built-in default of LIMITS: the Default column of Table 4-2 (R61). -/
def limitsDefault : List Word := [2, 8, 160, 200, 240, 1, 8, 250, 10, 33, 0]

/-- The built-in default of POLICY: the Default column of Table 8-3 (R125). -/
def policyDefault : List Word :=
  List.replicate 14 3 ++ List.replicate 14 8 ++ [0, 2, 1, 2] ++ [1024, 1024, 512, 1024] ++
    [85, 5, 16, 0, 36, 12, 200, 6]

/-- The built-in default of GROUPS: NOT MEMBER, held as 0, for every group (R14, R170). -/
def groupsDefault : List Word := List.replicate 4096 0

/-- The built-in default bank of each table (R190). -/
def defaultBank : Table → List Word
  | .layout => layoutDefault
  | .gamma => gammaDefault
  | .calibration => calibrationDefault
  | .ambient => ambientDefault
  | .schedule => scheduleDefault
  | .limits => limitsDefault
  | .policy => policyDefault
  | .groups => groupsDefault

/-- An entry of a bank as a number; an index beyond the bank gives 0. -/
def entry (bank : List Word) (i : Nat) : Nat := (bank.getD i 0).toNat

/-- The built-in default of one entry, which a reader of a bad entry of LAYOUT, LIMITS or POLICY takes (R167). -/
def defaultEntry (t : Table) (i : Nat) : Nat := entry (defaultBank t) i

/-! ## Validation -/

/-- The number lies in lo..hi, both ends included. -/
def within (lo hi n : Nat) : Bool := lo ≤ n && n ≤ hi

/-- The first index, counted from `i`, whose entry fails the check `ok`. -/
def firstFailing (ok : Nat → Word → Bool) : Nat → List Word → Option Nat
  | _, [] => none
  | i, v :: vs => if ok i v then firstFailing ok (i + 1) vs else some i

/-- The first failing check of a list of (holds, failing index). -/
def firstFailure : List (Bool × Nat) → Option Nat
  | [] => none
  | (ok, i) :: cs => if ok then firstFailure cs else some i

/-- The range of LAYOUT entry i in Table 2-1. -/
def layoutInRange (i : Nat) (v : Word) : Bool :=
  let n := v.toNat
  match i with
  | 0 | 1 => within 0 4095 n
  | 2 => within 1 512 n
  | 3 => within 1 256 n
  | 4 => within 1 8 n
  | 5 => within 1 4 n
  | 6 | 7 => n == 16 || n == 32 || n == 64
  | 8 => n == 1 || n == 2 || n == 4 || n == 8 || n == 16
  | 9 => within 0 1 n
  | _ => within 1 16 n

/-- Validation of LAYOUT (R24): the failing index, or none when the bank is valid. -/
def validateLayout (b : List Word) : Option Nat :=
  match firstFailing layoutInRange 0 b with
  | some i => some i
  | none =>
    firstFailure
      [(entry b 2 == entry b 4 * entry b 6, 2),
       (entry b 3 == entry b 5 * entry b 7, 3),
       (entry b 2 * entry b 3 ≤ 65536, 3),
       (entry b 0 + entry b 2 ≤ 4096, 0),
       (entry b 1 + entry b 3 ≤ 4096, 1),
       (entry b 7 % entry b 8 == 0, 8)]

/-- GAMMA's check over the points from index `j` on, `prev` being the point before (R47): the first points of the
green and blue curves are skipped. -/
def gammaFalling (prev : Word) (j : Nat) : List Word → Option Nat
  | [] => none
  | v :: vs =>
    if j == 257 || j == 514 || prev.toNat ≤ v.toNat then gammaFalling v (j + 1) vs else some j

/-- Validation of GAMMA (R47). -/
def validateGamma : List Word → Option Nat
  | [] => none
  | v :: vs => gammaFalling v 1 vs

/-- Validation of CALIBRATION (R51). -/
def validateCalibration (b : List Word) : Option Nat := firstFailing (fun _ v => v.toNat ≤ 4095) 0 b

/-- The AMBIENT checks of breakpoint j (R65). -/
def ambientPointChecks (b : List Word) (j : Nat) : List (Bool × Nat) :=
  [(j < 2 || entry b (2 * j - 3) < entry b (2 * j - 1), 2 * j - 1), (entry b (2 * j) ≤ 1024, 2 * j)]

/-- Validation of AMBIENT (R65). -/
def validateAmbient (b : List Word) : Option Nat :=
  if within 2 16 (entry b 0) then
    firstFailure ((List.range (entry b 0)).flatMap fun k => ambientPointChecks b (k + 1))
  else some 0

/-- The SCHEDULE range checks of entry j (R92, check 3). -/
def scheduleEntryChecks (b : List Word) (j : Nat) : List (Bool × Nat) :=
  [(entry b (2 + 3 * j) ≤ 1439, 2 + 3 * j), (within 1 127 (entry b (3 + 3 * j)), 3 + 3 * j),
   (entry b (4 + 3 * j) ≤ 1024, 4 + 3 * j)]

/-- Entries i and j of SCHEDULE have different start minutes or no weekday in common (R92, check 4). -/
def scheduleApart (b : List Word) (i j : Nat) : Bool :=
  entry b (2 + 3 * i) != entry b (2 + 3 * j) || entry b (3 + 3 * i) &&& entry b (3 + 3 * j) == 0

/-- Validation of SCHEDULE (R92). -/
def validateSchedule (b : List Word) : Option Nat :=
  firstFailure
    (([(decide (entry b 0 ≤ 24), 0), (decide (entry b 1 ≤ 1024), 1)] : List (Bool × Nat)) ++
      (if entry b 0 ≤ 24 then
        ((List.range (entry b 0)).flatMap fun j => scheduleEntryChecks b j) ++
          (List.range (entry b 0)).map fun j => ((List.range j).all fun i => scheduleApart b i j, 3 + 3 * j)
      else []))

/-- The range of LIMITS entry i in Table 4-2. -/
def limitsInRange (i : Nat) (v : Word) : Bool :=
  let n := v.toNat
  match i with
  | 0 => within 1 64 n
  | 1 => within 1 1024 n
  | 2 | 3 => n ≤ 1024
  | 4 => within 1 65535 n
  | 5 => n ≤ 1
  | 6 => within 1 32 n
  | 7 => within 20 5000 n
  | 8 => n ≤ 600
  | 9 => within 10 100 n
  | _ => n ≤ 1

/-- Validation of LIMITS (R62). -/
def validateLimits (b : List Word) : Option Nat := firstFailing limitsInRange 0 b

/-- The range of POLICY entry i in Table 8-3; entry 36 is a two's complement number (R125), and entry 41 is checked
against 0..46 (R126). -/
def policyInRange (i : Nat) (v : Word) : Bool :=
  let n := v.toNat
  if i < 14 then within 1 15 n
  else if i < 28 then within 1 255 n
  else if i < 32 then n ≤ 2
  else if i < 36 then n ≤ 1024
  else match i with
    | 36 => -40 ≤ v.toInt && v.toInt ≤ 150
    | 37 => within 1 30 n
    | 38 => within 1 65535 n
    | 39 => n ≤ 7
    | 40 => within 8 47 n
    | 41 => n ≤ 46
    | 42 => within 1 65535 n
    | _ => n ≤ 10

/-- Validation of POLICY (R126). -/
def validatePolicy (b : List Word) : Option Nat :=
  match firstFailing policyInRange 0 b with
  | some i => some i
  | none => if entry b 41 < entry b 40 then none else some 41

/-- A table's own checks, in the order its chapter gives (Table 10-1): the failing index, or none. Every bank of GROUPS
is valid (R14). -/
def validate : Table → List Word → Option Nat
  | .layout => validateLayout
  | .gamma => validateGamma
  | .calibration => validateCalibration
  | .ambient => validateAmbient
  | .schedule => validateSchedule
  | .limits => validateLimits
  | .policy => validatePolicy
  | .groups => fun _ => none

end Machine
end Sys2Proof
end

