-- ==== Sys2Proof/Machine/State.lean ====
section
/-! DEFINITION. The state of the DK-316, block by block as Table 1 of the manual names it, the reasons a step can stop,
and the state right after power-on reset. Plain data throughout. -/

namespace Sys2Proof.Machine

/-! ## Timers and time stamps -/

/-- A running timer: the count at which it was started and its duration in ms (R84). A stopped timer is `none`. -/
structure Timer where
  start : Count
  duration : Nat
  deriving DecidableEq, Repr

/-- The time-of-day clock and the clock-set flag at one moment (R128, R149). -/
structure Stamp where
  weekday : Nat
  minute : Nat
  ms : Nat
  clockSet : Bool
  deriving DecidableEq, Repr

/-! ## Names the blocks use -/

/-- The modes of the Dimming Controller (Table 4-1). -/
inductive Mode where
  | auto
  | fallback
  | override
  | forcedDark
  deriving DecidableEq, Repr

/-- The sources of the target (Table 4-1): the modes without FORCED_DARK. -/
inductive Source where
  | auto
  | fallback
  | override
  deriving DecidableEq, Repr

/-- Where the present ceiling came from (Table 5-1). -/
inductive CeilingSource where
  | unset
  | entry (j : Nat)
  | default
  | unreadable
  deriving DecidableEq, Repr

/-- The stream states (R112). -/
inductive StreamState where
  | live
  | holding
  | darkening
  | dark
  deriving DecidableEq, Repr

/-- The states of a fault record (R128). -/
inductive RecordState where
  | suspect
  | active
  | clearing
  | latched
  deriving DecidableEq, Repr

/-- The severities of the fault kinds (Table 8-2). -/
inductive Severity where
  | critical
  | major
  | minor
  deriving DecidableEq, Repr

/-- The states of a module (R138). -/
inductive ModuleState where
  | lit
  | derated
  | blanked
  | restoreWait
  deriving DecidableEq, Repr

/-- A bank as a request or a storage error names it (R165, R171). -/
inductive BankName where
  | active
  | shadow
  deriving DecidableEq, Repr

/-- The shadow states by name (R165). -/
inductive ShadowName where
  | clean
  | editing
  | posted
  deriving DecidableEq, Repr

/-- How start-up obtained a table (Table 11-1). -/
inductive TableResult where
  | loaded
  | default
  | kept
  deriving DecidableEq, Repr

/-- How start-up obtained the trim array (Table 11-1). -/
inductive TrimResult where
  | loaded
  | zero
  deriving DecidableEq, Repr

/-! ## Storage errors -/

/-- What the storage shows at one consulted read of an entry (section 10.2). -/
inductive StorageOutcome where
  | sound
  | correctable
  | uncorrectable
  deriving DecidableEq, Repr

/-- One outcome to come: the next read of this entry of this bank that consults the storage shows it (log entry 3). -/
structure StorageEvent where
  table : Table
  bank : BankName
  index : Nat
  outcome : StorageOutcome
  deriving DecidableEq, Repr

/-- The last-corrected record (R165). -/
structure Corrected where
  table : Table
  bank : BankName
  index : Nat
  deriving DecidableEq, Repr

/-! ## Table Store -/

/-- The shadow bank with its state (R165): CLEAN has no contents, EDITING has contents and damage marks, POSTED has
contents and its effective frame E. A POSTED shadow has no damage marks: validation refuses one (R172) and a read that
finds one withdraws the post (R168). -/
inductive Shadow where
  | clean
  | editing (bank : List Word) (damage : List Nat)
  | posted (bank : List Word) (e : Word)
  deriving DecidableEq, Repr

/-- The record the Table Store holds for one table (R165). -/
structure TableRec where
  active : List Word
  shadow : Shadow
  generation : Word
  bad : List Nat
  deriving DecidableEq, Repr

/-- The eight table records. -/
structure Banks where
  layout : TableRec
  gamma : TableRec
  calibration : TableRec
  ambient : TableRec
  schedule : TableRec
  limits : TableRec
  policy : TableRec
  groups : TableRec
  deriving DecidableEq, Repr

/-- The state of the Table Store (R165). -/
structure Tables where
  banks : Banks
  lock : Bool
  corrected : Nat
  lastCorrected : Option Corrected
  layoutMissing : Bool
  deriving DecidableEq, Repr

/-! ## Frame Capture -/

/-- Entries 0 to 7 of LAYOUT, as a frame keeps them from its opening (R28). -/
structure Geometry where
  x0 : Nat
  y0 : Nat
  width : Nat
  height : Nat
  cols : Nat
  rows : Nat
  moduleWidth : Nat
  moduleHeight : Nat
  deriving DecidableEq, Repr

/-- The displayed content record, present while DISPLAY is not EMPTY (R26). -/
structure Displayed where
  content : Word
  signature : Check
  frame : Word
  dwell : Nat
  deriving DecidableEq, Repr

/-- The open-frame record (R28). The coverage map holds the slot position (line × window width + column) of every
window pixel written, in rising order and each once. -/
structure OpenFrame where
  frame : Word
  content : Word
  geometry : Geometry
  coverage : List Nat
  deriving DecidableEq, Repr

/-- The samples of one slot: (slot position, sample) pairs, positions strictly rising, a black sample never listed. -/
abbrev Slot := List (Nat × Pixel)

/-- The state of Frame Capture. The two slots are held by role: a swap exchanges them (R36). -/
structure Capture where
  displayed : Option Displayed
  opened : Option OpenFrame
  display : Slot
  fill : Slot
  incomplete : Nat
  deriving DecidableEq, Repr

/-! ## Dimming Controller -/

/-- The override record (Table 4-1). -/
structure Override where
  level : Nat
  minutes : Nat
  deriving DecidableEq, Repr

/-- The state of the Dimming Controller (Table 4-1), with the ceiling as it holds it (R75, R82). -/
structure Dimming where
  level : Nat
  target : Nat
  mode : Mode
  source : Source
  override : Option Override
  lux : Word
  luxValid : Bool
  ceiling : Nat
  deriving DecidableEq, Repr

/-! ## Time Base -/

/-- The state of the Time Base (Table 5-1). -/
structure TimeBase where
  count : Count
  weekday : Nat
  minute : Nat
  ms : Nat
  clockSet : Bool
  drift : Int
  accumulator : Nat
  ceiling : Nat
  source : CeilingSource
  deriving DecidableEq, Repr

/-! ## Drive Port -/

/-- The drive geometry (Table 6-1, R99). -/
structure DriveGeometry where
  modules : Nat
  cols : Nat
  moduleWidth : Nat
  moduleHeight : Nat
  group : Nat
  interleaved : Bool
  strings : Nat
  deriving DecidableEq, Repr

/-- The poll in flight (Table 6-1). -/
structure Poll where
  module : Nat
  number : Byte
  sentAt : Count
  deriving DecidableEq, Repr

/-- The words of one module computation, from the computation until the last of them has been emitted (R100, R103): the
module, and its lines in emission order, each with its number and its pixels' red, green and blue words. -/
structure Emission where
  module : Nat
  lines : List (Nat × List (Nat × Nat × Nat))
  deriving DecidableEq, Repr

/-- The state of the Drive Port (Table 6-1). The pass position is the module whose words are being
emitted, or are to be computed where there are none. -/
structure Drive where
  geometry : DriveGeometry
  position : Nat
  startLine : Nat
  sweepCount : Nat
  sweepPointer : Nat
  nextPoll : Byte
  inFlight : Option Poll
  unemitted : Option Emission
  deriving DecidableEq, Repr

/-! ## Stream Supervision -/

/-- The state of Stream Supervision (Table 7-1). `ticks` is the model's own: for each local tick that has been delivered to the
Dimming Controller and not yet taken, oldest first, the stream state in which it was delivered (R72, R116; log entry 43). -/
structure Stream where
  state : StreamState
  timeout : Option Timer
  hold : Option Timer
  localTick : Option Timer
  lastSync : Option Count
  ticks : List StreamState
  deriving DecidableEq, Repr

/-! ## Fault Monitor -/

/-- A fault record (R128). Its scope is a module, or the cabinet (`none`). -/
structure FaultRecord where
  slot : Nat
  scope : Option Nat
  kind : FaultKind
  state : RecordState
  hits : Nat
  misses : Nat
  first : Stamp
  last : Stamp
  detail : Detail
  deriving DecidableEq, Repr

/-- A module's state and derate (Table 8-1). -/
structure ModuleStatus where
  state : ModuleState
  derate : Nat
  deriving DecidableEq, Repr

/-- The four condition flags (R133). -/
structure ConditionFlags where
  streamLost : Bool
  clockUnset : Bool
  storeInvalid : Bool
  cabinetDark : Bool
  deriving DecidableEq, Repr

/-- The state of the Fault Monitor (Table 8-1). The records stand in the order of their creation, oldest first (R129);
the flap counter of module m and kind code k is number 4 m + k − 1; there is one status per existing module. -/
structure Faults where
  records : List FaultRecord
  flaps : List Nat
  flags : ConditionFlags
  affected : List Table
  modules : List ModuleStatus
  restoreQueue : List Nat
  history : List Count
  lostDetections : Nat
  deriving DecidableEq, Repr

/-! ## Report Queue -/

/-- The state of the Report Queue (Table 9-1). -/
structure Reports where
  queue : List ReportRec
  lostLocal : Nat
  lostForwarded : Nat
  summaryCount : Nat
  holdMark : Bool
  lastHold : Option Count
  refresh : Option Timer
  inbound : Option Timer
  deriving DecidableEq, Repr

/-! ## Parameter store -/

/-- The header of the parameter store (R185). `checkGood` says whether its 32-bit check matches it. -/
structure FlashHeader where
  closed : Bool
  saveCount : Word
  checkGood : Bool
  deriving DecidableEq, Repr

/-- A table record of the parameter store (R185). -/
structure FlashTable where
  code : Nat
  count : Nat
  values : List Word
  isVoid : Bool
  checkGood : Bool
  deriving DecidableEq, Repr

/-- The trim record of the parameter store (R185). -/
structure FlashTrims where
  values : List Int
  checkGood : Bool
  deriving DecidableEq, Repr

/-- The parameter store on the serial flash: one header, the table records of codes 1 to 8 in order, one trim
record (R185). -/
structure Flash where
  header : FlashHeader
  tables : List FlashTable
  trims : FlashTrims
  deriving DecidableEq, Repr

/-- A record that a SAVE hands to the side port (R187). -/
inductive StoreItem where
  | headerOpen (saveCount : Word)
  | table (t : Table) (record : FlashTable)
  | trims (values : List Int)
  | headerClosed (saveCount : Word)
  deriving DecidableEq, Repr

/-! ## Management Agent -/

/-- A SAVE in flight: the record being written, the codes of the tables written void so far, and, when it was taken
under POSITION, the tag its reply echoes (R186, R187). -/
structure SaveRun where
  writing : StoreItem
  voids : List Nat
  replyTag : Option Word
  deriving DecidableEq, Repr

/-- The state of the Management Agent (Table 11-1). A SAVE is in flight while `save` is present; the start-up results
stand in table-code order. -/
structure Agent where
  save : Option SaveRun
  saveCount : Word
  storeInvalid : Bool
  results : List TableResult
  trimResult : TrimResult
  deriving DecidableEq, Repr

/-! ## Replies -/

/-- The reply statuses (Table 11-2). -/
inductive Status where
  | ok
  | posted
  | badArgs
  | range
  | locked
  | busy
  | invalid
  | notFound
  | storeFail
  | unknownRequest
  deriving DecidableEq, Repr

/-- The mark TABLE-READ gives an entry (R171). -/
inductive EntryMark where
  | good
  | corrected
  | bad
  deriving DecidableEq, Repr

/-- The stage of validation that failed (R172). -/
inductive Stage where
  | damaged
  | check
  deriving DecidableEq, Repr

/-- One fault record as FAULT-READ returns it (R143). -/
structure FaultEntry where
  record : FaultRecord
  severity : Severity
  flap : Option Nat
  deriving DecidableEq, Repr

/-- STATUS-READ, the Link Interface fields (R1, R3, R13). -/
structure LinkStatus where
  portUpU : Bool
  portUpD : Bool
  uDiscard : Nat
  dDiscard : Nat
  forwardOverflow : Nat
  repliesLost : Nat
  uFailures : Nat
  position : Nat
  deriving DecidableEq, Repr

/-- STATUS-READ, the Frame Capture fields (R42). -/
structure CaptureStatus where
  held : Bool
  content : Word
  frame : Word
  signature : Check
  dwell : Nat
  frameOpen : Bool
  openContent : Word
  incomplete : Nat
  deriving DecidableEq, Repr

/-- STATUS-READ, the Dimming Controller fields (R82). -/
structure DimmingStatus where
  level : Nat
  target : Nat
  ceiling : Nat
  mode : Mode
  source : Source
  lux : Word
  luxValid : Bool
  overridePresent : Bool
  overrideLevel : Nat
  overrideMinutes : Nat
  deriving DecidableEq, Repr

/-- STATUS-READ, the Time Base fields (R97). The source's entry number is the entry in force. -/
structure TimeStatus where
  count : Count
  weekday : Nat
  minute : Nat
  ms : Nat
  clockSet : Bool
  drift : Int
  ceiling : Nat
  source : CeilingSource
  entryInForce : Nat
  deriving DecidableEq, Repr

/-- STATUS-READ, the Drive Port fields (R110). -/
structure DriveStatus where
  modules : Nat
  startLine : Nat
  sweepPointer : Nat
  sweepCount : Nat
  inFlight : Bool
  polledModule : Nat
  pollNumber : Byte
  pollAge : Count
  deriving DecidableEq, Repr

/-- STATUS-READ, the Stream Supervision fields (R122). -/
structure StreamStatus where
  state : StreamState
  sinceSync : Count
  syncSeen : Bool
  holdRemaining : Nat
  deriving DecidableEq, Repr

/-- STATUS-READ, the Fault Monitor fields (R145). -/
structure FaultStatus where
  records : Nat
  active : Nat
  latched : Nat
  blanked : Nat
  cabinetDark : Bool
  modules : List (Option ModuleState)
  restoreQueue : List Nat
  historyAges : List Count
  affected : List Table
  lostDetections : Nat
  deriving DecidableEq, Repr

/-- STATUS-READ, the Report Queue fields (R163). -/
structure ReportStatus where
  depth : Nat
  lostLocal : Nat
  lostForwarded : Nat
  holdAsserted : Bool
  lastHoldAge : Count
  inboundRemaining : Nat
  summaryCount : Nat
  deriving DecidableEq, Repr

/-- STATUS-READ, the fields of one table (R179). -/
structure TableStatus where
  shadow : ShadowName
  e : Word
  generation : Word
  badMarks : Nat
  damageMarks : Nat
  deriving DecidableEq, Repr

/-- The causes of UNCONFIGURED (R179). -/
structure Causes where
  layoutMissing : Bool
  layoutMarks : Bool
  limitsMarks : Bool
  policyMarks : Bool
  deriving DecidableEq, Repr

/-- STATUS-READ, the Table Store fields (R179). -/
structure StoreStatus where
  tables : List TableStatus
  lock : Bool
  corrected : Nat
  lastCorrected : Option Corrected
  unconfigured : Bool
  causes : Causes
  deriving DecidableEq, Repr

/-- STATUS-READ, the Management Agent fields (R184). -/
structure AgentStatus where
  saveInFlight : Bool
  saveCount : Word
  storeInvalid : Bool
  results : List TableResult
  trimResult : TrimResult
  deriving DecidableEq, Repr

/-- The payload of STATUS-READ, chapter by chapter (R184). -/
structure StatusReport where
  link : LinkStatus
  capture : CaptureStatus
  dimming : DimmingStatus
  time : TimeStatus
  drive : DriveStatus
  stream : StreamStatus
  faults : FaultStatus
  reports : ReportStatus
  store : StoreStatus
  agent : AgentStatus
  deriving DecidableEq, Repr

/-- The payload of a reply, by its named fields (R182). -/
inductive Payload where
  | empty
  | identity (vendor part : Word) (revision : Byte) (serial : BitVec 32)
  | status (report : StatusReport)
  | written (table : Nat) (first count damaged : Nat)
  | entries (table bank first count : Nat) (shadow : ShadowName) (generation e : Word) (values : List (Word × EntryMark))
  | nothingToCommit (generation : Word)
  | posted (e generation : Word)
  | invalid (index : Nat) (stage : Stage)
  | abandoned (before : ShadowName)
  | locked (already : Bool) (abandoned : Nat)
  | clock (weekday minute ms : Nat) (clockSet : Bool) (ceiling : Nat)
  | drift (ppm : Int)
  | overrideSet (level minutes target ceiling : Nat) (mode : Mode)
  | overrideEnded (ended : Bool) (target : Nat)
  | trims (module : Nat) (red green blue : Int)
  | faults (total : Nat) (records : List FaultEntry) (more : Bool) (next : Nat)
  | cleared (freed : Nat)
  | saved (saveCount : Word) (voids lowest : Nat)
  | saveFailed (saveCount : Word) (record : Nat)
  deriving DecidableEq, Repr

/-- An own reply (R16). -/
structure Reply where
  origin : Nat
  tag : Word
  code : Byte
  status : Status
  payload : Payload
  deriving DecidableEq, Repr

/-- A frame of the upstream reply buffer: an own reply, or a forwarded one with its body unread (R7, R18). -/
inductive ReplyFrame where
  | own (r : Reply)
  | forwarded (body : List Byte)
  deriving DecidableEq, Repr

/-! ## Link Interface -/

/-- The HOLD frame in the HOLD slot (R10). `started` says that this frame, and not an earlier one that it replaced, is
the one being sent (log entry 13). -/
structure HoldSlot where
  pause : Word
  started : Bool
  deriving DecidableEq, Repr

/-- What the downstream transmitter is sending (R9): nothing, the HOLD frame, or the head of the forward queue. -/
inductive SendingD where
  | idle
  | hold
  | forwarded
  deriving DecidableEq, Repr

/-- What is being sent out of U (R19): nothing, the head of the reply buffer, or a REPORT frame. `counts` is no for a
REPORT frame started before a soft reset, whose completion removes no record (R152). -/
inductive SendingU where
  | idle
  | reply
  | report (counts : Bool)
  deriving DecidableEq, Repr

/-- The state of the Link Interface. `partnerU` and `partnerD` hold whether the physical layer sees a partner (R191). -/
structure Link where
  upU : Bool
  upD : Bool
  partnerU : Bool
  partnerD : Bool
  dHasBeenUp : Bool
  position : Nat
  uDiscard : Nat
  dDiscard : Nat
  forwardOverflow : Nat
  repliesLost : Nat
  uFailures : Nat
  forwardQueue : List DownFrame
  holdSlot : Option HoldSlot
  sendingD : SendingD
  replies : List ReplyFrame
  sendingU : SendingU
  deriving DecidableEq, Repr

/-! ## What the part puts on its three connections -/

/-- One output: a frame started or abandoned with an abort mark on a port, the words of one module, all emitted in emission
order (each line with its pixels' red, green and blue words), or cut off with only the first `sent` of them emitted (all, where
there are not so many) and the rest discarded (R103), a poll, or a record handed to the side port. -/
inductive Output where
  | sendD (f : DownFrame)
  | sendHold (pause : Word)
  | abortD
  | sendReply (r : ReplyFrame)
  | sendReport (r : ReportRec)
  | abortU
  | driveWords (module : Nat) (lines : List (Nat × List (Nat × Nat × Nat)))
  | driveWordsCut (module : Nat) (lines : List (Nat × List (Nat × Nat × Nat))) (sent : Nat)
  | poll (module : Nat) (number : Byte)
  | storeWrite (item : StoreItem)
  deriving DecidableEq, Repr

/-! ## The whole state -/

/-- The state of the part. The last five fields are the model's own: the storage outcomes to come, the hand-overs
between blocks not yet taken, the trace of outputs, and the commands waiting, first in first out; `started` is no from a
power-on or pin reset until start-up completes (R191). -/
structure State where
  started : Bool
  link : Link
  capture : Capture
  trims : List Int
  dimming : Dimming
  time : TimeBase
  drive : Drive
  stream : Stream
  faults : Faults
  reports : Reports
  tables : Tables
  agent : Agent
  flash : Flash
  storage : List StorageEvent
  handed : List Instr
  out : List Output
  pending : List Instr
  deriving DecidableEq, Repr

/-- The reasons a step stops with a fault. There are none: every command of this part has an effect that the manual gives
(`NOTES.md`, Stops). Raised by no meaning; safe. -/
inductive Fault where
  deriving DecidableEq, Repr

/-- The reasons a step is refused. -/
inductive Refusal where
  /-- Raised by an arm of `exec` whose command has no meaning yet, with the row's mnemonic; safe. No arm raises it. -/
  | notModelled (mnemonic : String)
  deriving DecidableEq, Repr

/-! ## Power-on values -/

/-- A table record that holds `bank` as a start-up leaves it: generation 0, no bad marks, a CLEAN shadow (R190). -/
def TableRec.fresh (bank : List Word) : TableRec := ⟨bank, .clean, 0, []⟩

/-- The eight table records at their built-in defaults (log entry 4). -/
def Banks.defaults : Banks :=
  ⟨.fresh layoutDefault, .fresh gammaDefault, .fresh calibrationDefault, .fresh ambientDefault,
   .fresh scheduleDefault, .fresh limitsDefault, .fresh policyDefault, .fresh groupsDefault⟩

/-- The Link Interface after power-on reset (R22). -/
def Link.reset : Link :=
  ⟨false, false, false, false, false, 0, 0, 0, 0, 0, 0, [], none, .idle, [], .idle⟩

/-- Frame Capture after power-on reset (R43; the slots' samples are not in use, log entry 6). -/
def Capture.reset : Capture := ⟨none, none, [], [], 0⟩

/-- Every trim 0 (R58). -/
def zeroTrims : List Int := List.replicate 96 0

/-- The Dimming Controller after any reset, with the ceiling 0 it holds until one is handed over (R83, R96). -/
def Dimming.reset : Dimming := ⟨0, 0, .forcedDark, .fallback, none, 0, false, 0⟩

/-- The Time Base after power-on reset (R98). -/
def TimeBase.reset : TimeBase := ⟨0, 1, 0, 0, false, 0, 0, 0, .unset⟩

/-- The geometry of the built-in default LAYOUT: one module of 16 by 16, G = 1, SEQUENTIAL, S = 1 (R99). -/
def DriveGeometry.builtIn : DriveGeometry := ⟨1, 1, 16, 16, 1, false, 1⟩

/-- The Drive Port after power-on reset (R111; its geometry until start-up completes, log entry 7). -/
def Drive.reset : Drive := ⟨.builtIn, 0, 0, 0, 0, 0, none, none⟩

/-- Stream Supervision after power-on reset (R123). -/
def Stream.reset : Stream := ⟨.dark, none, none, none, none, []⟩

/-- No condition held. -/
def ConditionFlags.clear : ConditionFlags := ⟨false, false, false, false⟩

/-- A module that is LIT, with d[m] = 1024 (R138). -/
def ModuleStatus.lit : ModuleStatus := ⟨.lit, 1024⟩

/-- The Fault Monitor after a reset that leaves `modules` existing modules and this restore history (R147). -/
def Faults.cleared (modules : Nat) (history : List Count) : Faults :=
  ⟨[], List.replicate 128 0, .clear, [], List.replicate modules .lit, [], history, 0⟩

/-- The Report Queue after any reset (R164). -/
def Reports.reset : Reports := ⟨[], 0, 0, 0, false, none, none, none⟩

/-- The Table Store after power-on reset (R180; the banks until start-up loads them, log entry 4). -/
def Tables.reset : Tables := ⟨.defaults, false, 0, none, false⟩

/-- The Management Agent after power-on reset (Table 11-1; what start-up sets, log entry 33). -/
def Agent.reset : Agent := ⟨none, 0, false, List.replicate 8 .default, .zero⟩

/-- A parameter store that has never been written (R185; log entry 5): nothing in it passes its check. -/
def Flash.unwritten : Flash :=
  ⟨⟨false, 0, false⟩, List.replicate 8 ⟨0, 0, [], false, false⟩, ⟨[], false⟩⟩

/-- The part right after power-on reset, start-up begun and not completed. -/
def State.reset : State where
  started := false
  link := .reset
  capture := .reset
  trims := zeroTrims
  dimming := .reset
  time := .reset
  drive := .reset
  stream := .reset
  faults := .cleared 1 []
  reports := .reset
  tables := .reset
  agent := .reset
  flash := .unwritten
  storage := []
  handed := []
  out := []
  pending := []

end Sys2Proof.Machine
end

