-- ==== Sys2Proof/Machine/Ops.lean ====
section
/-! DEFINITION. The named operations over the state's plain data: table records, slots, counters, timers, hand-overs and
outputs. -/

namespace Sys2Proof.Machine

/-! ## Counters -/

/-- A counter that saturates at `bound` (Conventions, Arithmetic). -/
def saturate (bound n : Nat) : Nat := min bound (n + 1)

/-- The bound of the two-byte counters. -/
def counterMax : Nat := 65535

/-! ## Timers (R84) -/

/-- The elapsed time of a timer: the present count less its start, modulo 2^32. -/
def Timer.elapsed (t : Timer) (now : Count) : Nat := (now - t.start).toNat

/-- The elapsed time has reached the duration. -/
def Timer.expired (t : Timer) (now : Count) : Bool := t.duration ≤ t.elapsed now

/-- A timer slot holds a running timer that has expired. -/
def timerDue (t : Option Timer) (now : Count) : Bool :=
  match t with
  | some t => t.expired now
  | none => false

/-- What is left of a running timer, 0 while it is stopped. -/
def timerRemaining (t : Option Timer) (now : Count) : Nat :=
  match t with
  | some t => t.duration - t.elapsed now
  | none => 0

/-- The monotonic count. -/
def State.now (s : State) : Count := s.time.count

/-- A timer started at the present count. -/
def State.timer (s : State) (duration : Nat) : Timer := ⟨s.now, duration⟩

/-- The clock and the clock-set flag as they stand. -/
def State.stamp (s : State) : Stamp := ⟨s.time.weekday, s.time.minute, s.time.ms, s.time.clockSet⟩

/-! ## Table records -/

/-- The record of a table. -/
def Banks.get (b : Banks) : Table → TableRec
  | .layout => b.layout
  | .gamma => b.gamma
  | .calibration => b.calibration
  | .ambient => b.ambient
  | .schedule => b.schedule
  | .limits => b.limits
  | .policy => b.policy
  | .groups => b.groups

/-- The records with one replaced. -/
def Banks.set (b : Banks) (t : Table) (r : TableRec) : Banks :=
  match t with
  | .layout => { b with layout := r }
  | .gamma => { b with gamma := r }
  | .calibration => { b with calibration := r }
  | .ambient => { b with ambient := r }
  | .schedule => { b with schedule := r }
  | .limits => { b with limits := r }
  | .policy => { b with policy := r }
  | .groups => { b with groups := r }

/-- The record the Table Store holds for a table. -/
def State.table (s : State) (t : Table) : TableRec := s.tables.banks.get t

/-- The state with one table record replaced. -/
def State.setTable (s : State) (t : Table) (r : TableRec) : State :=
  { s with tables := { s.tables with banks := s.tables.banks.set t r } }

/-- The shadow state by name. -/
def Shadow.name : Shadow → ShadowName
  | .clean => .clean
  | .editing _ _ => .editing
  | .posted _ _ => .posted

/-- The damage marks of a shadow (R165). -/
def Shadow.damage : Shadow → List Nat
  | .clean => []
  | .editing _ d => d
  | .posted _ _ => []

/-- The effective frame of a posted record, 0 while there is none (R171, R179). -/
def Shadow.e : Shadow → Word
  | .clean => 0
  | .editing _ _ => 0
  | .posted _ e => e

/-- The table is POSTED. -/
def Shadow.isPosted : Shadow → Bool
  | .posted _ _ => true
  | _ => false

/-! ## Slots and sets of positions -/

/-- The sample at a slot position: an unlisted position reads as black (log entry 6). -/
def readSlot (a : Nat) : Slot → Pixel
  | [] => Pixel.black
  | (b, v) :: rest => if a = b then v else readSlot a rest

/-- A slot with one sample written, in its one canonical form. -/
def writeSlot (a : Nat) (v : Pixel) : Slot → Slot
  | [] => if v = Pixel.black then [] else [(a, v)]
  | (b, w) :: rest =>
    if a < b then (if v = Pixel.black then (b, w) :: rest else (a, v) :: (b, w) :: rest)
    else if a = b then (if v = Pixel.black then rest else (a, v) :: rest)
    else (b, w) :: writeSlot a v rest

/-- The canonical form of a slot: positions strictly rising, no black sample listed. -/
abbrev SlotWf (m : Slot) : Prop := m.Pairwise (fun p q => p.1 < q.1) ∧ ∀ p ∈ m, p.2 ≠ Pixel.black

/-- A rising list of numbers with one added, once. -/
def addSorted (a : Nat) : List Nat → List Nat
  | [] => [a]
  | b :: rest => if a < b then a :: b :: rest else if a = b then b :: rest else b :: addSorted a rest

/-! ## Hand-overs and outputs -/

/-- One block hands an event to another, which takes it as an event of its own (R8, R124). -/
def State.hand (s : State) (c : Instr) : State := { s with handed := s.handed ++ [c] }

/-- An event handed over has been taken: its first entry leaves the list of those not yet taken. -/
def State.take (s : State) (c : Instr) : State := { s with handed := s.handed.erase c }

/-- The part puts something on one of its connections. -/
def State.emit (s : State) (o : Output) : State := { s with out := s.out ++ [o] }

/-! ## Requests and replies -/

/-- The outcome of a request: its status and payload (R182). -/
structure Answer where
  status : Status
  payload : Payload
  deriving DecidableEq, Repr

/-- A refusal, whose payload is empty (R182). -/
def refusal (st : Status) : Answer := ⟨st, .empty⟩

/-- The code a status is sent as (Table 11-2). -/
def Status.code : Status → Nat
  | .ok => 0
  | .posted => 1
  | .badArgs => 2
  | .range => 3
  | .locked => 4
  | .busy => 5
  | .invalid => 6
  | .notFound => 7
  | .storeFail => 8
  | .unknownRequest => 9

end Sys2Proof.Machine
end

