-- ==== Sys2Proof/Machine/Wire.lean ====
section
/-! DEFINITION. Frames as bytes (Tables 1-1 to 1-7): the frame check, the layouts, the checks a received frame passes
(R2), and the command that a received frame is. -/

namespace Sys2Proof.Machine

/-! ## Multi-byte fields, most significant byte first -/

/-- The two bytes of a word. -/
def wordBytes (w : Word) : List Byte := [w.extractLsb' 8 8, w.extractLsb' 0 8]

/-- The four bytes of a check. -/
def checkBytes (c : Check) : List Byte :=
  [c.extractLsb' 24 8, c.extractLsb' 16 8, c.extractLsb' 8 8, c.extractLsb' 0 8]

/-- The word of two bytes. -/
def wordOf (hi lo : Byte) : Word := hi ++ lo

/-! ## The frame check (R2) -/

/-- The generator polynomial. -/
def crcPolynomial : Check := 0x04C11DB7

/-- One bit of the division. -/
def crcBit (r : Check) : Check := if r.msb then (r <<< 1) ^^^ crcPolynomial else r <<< 1

/-- One byte, most significant bit first. -/
def crcByte (r : Check) (b : Byte) : Check :=
  crcBit (crcBit (crcBit (crcBit (crcBit (crcBit (crcBit (crcBit (r ^^^ (b ++ (0 : BitVec 24))))))))))

/-- The 32-bit check over a sequence of bytes: all ones at the start, complemented at the end (R2). -/
def crc32 (bytes : List Byte) : Check := ~~~ bytes.foldl crcByte 0xFFFFFFFF

/-! ## Bodies -/

/-- The three half-bytes of a component. -/
def componentNibbles (c : Component) : List (BitVec 4) := [c.extractLsb' 8 4, c.extractLsb' 4 4, c.extractLsb' 0 4]

/-- The nine half-bytes of a sample, red first (Table 1-4). -/
def pixelNibbles (p : Pixel) : List (BitVec 4) :=
  componentNibbles p.red ++ componentNibbles p.green ++ componentNibbles p.blue

/-- Half-bytes packed into bytes end to end; a last one alone is filled with `pad`. -/
def packNibbles (pad : BitVec 4) : List (BitVec 4) → List Byte
  | [] => []
  | [a] => [a ++ pad]
  | a :: b :: rest => (a ++ b) :: packNibbles pad rest

/-- Bytes as half-bytes. -/
def unpackNibbles : List Byte → List (BitVec 4)
  | [] => []
  | b :: rest => b.extractLsb' 4 4 :: b.extractLsb' 0 4 :: unpackNibbles rest

/-- The samples packed in half-bytes, as many as stand there whole. -/
def pixelsOf : List (BitVec 4) → List Pixel
  | a :: b :: c :: d :: e :: f :: g :: h :: i :: rest =>
    ⟨a ++ b ++ c, d ++ e ++ f, g ++ h ++ i⟩ :: pixelsOf rest
  | _ => []

/-- The kind code of a down-bound frame (Table 1-2). -/
def frameKind : DownFrame → Byte
  | .sync _ _ _ _ => 0x01
  | .pixel _ _ _ _ => 0x02
  | .mgmt _ _ _ => 0x03
  | .enum _ => 0x04

/-- The body of a down-bound frame (Tables 1-3 to 1-5, R7). -/
def frameBody : DownFrame → List Byte
  | .sync frame content lux flags => wordBytes frame ++ wordBytes content ++ wordBytes lux ++ [flags]
  | .pixel line column samples pad =>
    wordBytes line ++ wordBytes column ++ wordBytes (BitVec.ofNat 16 samples.length) ++
      packNibbles pad (samples.flatMap pixelNibbles)
  | .mgmt head code args => head.mode :: wordBytes head.value ++ wordBytes head.tag ++ code :: args
  | .enum counter => [counter]

/-- The body of a REPORT frame (Table 1-6). -/
def reportBody (r : ReportRec) : List Byte :=
  [r.origin, r.report, r.kind, r.module, r.weekday] ++ wordBytes r.minute ++ wordBytes r.ms ++
    [r.flags, r.detailType] ++ wordBytes r.detailValue ++ [r.active, r.latched, r.blanked] ++
    wordBytes r.lostLocal ++ wordBytes r.lostForwarded ++ wordBytes r.level

/-- A frame in its envelope, with its check (Table 1-1). -/
def envelope (kind : Byte) (body : List Byte) : List Byte :=
  let content := kind :: wordBytes (BitVec.ofNat 16 body.length) ++ body
  content ++ checkBytes (crc32 content)

/-- The bytes of a down-bound frame. -/
def frameBytes (f : DownFrame) : List Byte := envelope (frameKind f) (frameBody f)

/-! ## Checking (R2) -/

/-- The port that receives a kind, for the kinds of Table 1-2. -/
def kindPort (kind : Byte) : Option Port :=
  if kind = 0x01 ∨ kind = 0x02 ∨ kind = 0x03 ∨ kind = 0x04 ∨ kind = 0x21 then some .u
  else if kind = 0x11 ∨ kind = 0x12 then some .d
  else none

/-- The bytes that n samples take in a PIXEL body. -/
def sampleBytes (n : Nat) : Nat := (9 * n + 1) / 2

/-- The count field of a PIXEL body. -/
def pixelCount (body : List Byte) : Nat := (wordOf (body.getD 4 0) (body.getD 5 0)).toNat

/-- The length lies within the body length given for its kind in Table 1-2 (R2, check 3). -/
def lengthGood (kind : Byte) (body : List Byte) : Bool :=
  let n := body.length
  if kind = 0x01 then n == 7
  else if kind = 0x02 then within 1 1024 (pixelCount body) && n == 6 + sampleBytes (pixelCount body)
  else if kind = 0x03 then within 6 4800 n
  else if kind = 0x04 then n == 1
  else if kind = 0x11 then within 5 4800 n
  else if kind = 0x12 then n == 22
  else n == 2

/-- The kind and body of a received frame whose length field and boundary agree. R2 does not say what a frame is whose
length field disagrees with its boundary, or that is shorter than an envelope: it is not opened, and so is taken as a check
failure and counted (DESIGN CHOICE, log entry 41). -/
def openEnvelope : List Byte → Option (Byte × List Byte)
  | kind :: hi :: lo :: rest =>
    if rest.length = (wordOf hi lo).toNat + 4 then some (kind, rest.take (wordOf hi lo).toNat) else none
  | _ => none

/-- A frame received at a port is good (R2): its kind is one of Table 1-2 and received at this port, its length is
that kind's, and its check matches. -/
def frameGood (p : Port) (bytes : List Byte) : Bool :=
  match openEnvelope bytes with
  | none => false
  | some (kind, body) =>
    kindPort kind == some p && lengthGood kind body && bytes == envelope kind body

/-! ## The command that a received frame is -/

/-- The command of a request taken here, by its request code (Table 1-7). -/
def requestCommand (head : MgmtHead) (code : Byte) (args : List Byte) : Instr :=
  match code.toNat with
  | 0x01 => .identify head args
  | 0x02 => .statusRead head args
  | 0x03 => .tableWrite head args
  | 0x04 => .tableRead head args
  | 0x05 => .tableCommit head args
  | 0x06 => .tableAbandon head args
  | 0x07 => .ceilingLock head args
  | 0x08 => .timeSet head args
  | 0x09 => .driftSet head args
  | 0x0A => .levelOverride head args
  | 0x0B => .overrideEnd head args
  | 0x0C => .trimNudge head args
  | 0x0D => .faultRead head args
  | 0x0E => .faultClear head args
  | 0x0F => .save head args
  | 0x10 => .softReset head args
  | _ => .unknownRequest head code args

/-- The report record of a REPORT body (Table 1-6). -/
def reportOf (b : List Byte) : ReportRec where
  origin := b.getD 0 0
  report := b.getD 1 0
  kind := b.getD 2 0
  module := b.getD 3 0
  weekday := b.getD 4 0
  minute := wordOf (b.getD 5 0) (b.getD 6 0)
  ms := wordOf (b.getD 7 0) (b.getD 8 0)
  flags := b.getD 9 0
  detailType := b.getD 10 0
  detailValue := wordOf (b.getD 11 0) (b.getD 12 0)
  active := b.getD 13 0
  latched := b.getD 14 0
  blanked := b.getD 15 0
  lostLocal := wordOf (b.getD 16 0) (b.getD 17 0)
  lostForwarded := wordOf (b.getD 18 0) (b.getD 19 0)
  level := wordOf (b.getD 20 0) (b.getD 21 0)

/-- The header of a MGMT body (Table 1-5). -/
def headOf (b : List Byte) : MgmtHead :=
  ⟨b.getD 0 0, wordOf (b.getD 1 0) (b.getD 2 0), wordOf (b.getD 3 0) (b.getD 4 0)⟩

/-- The four bits that fill the last byte of a PIXEL body with an odd count; 0 for an even one. -/
def padOf (body : List Byte) : BitVec 4 :=
  if pixelCount body % 2 = 1 then (body.getLastD 0).extractLsb' 0 4 else 0

/-- The command that a good frame is, `taken` saying whether a MGMT frame is taken here (R15). -/
def goodFrameCommand (kind : Byte) (b : List Byte) (taken : Bool) : Instr :=
  if kind = 0x01 then
    .syncFrame (wordOf (b.getD 0 0) (b.getD 1 0)) (wordOf (b.getD 2 0) (b.getD 3 0))
      (wordOf (b.getD 4 0) (b.getD 5 0)) (b.getD 6 0)
  else if kind = 0x02 then
    .pixelFrame (wordOf (b.getD 0 0) (b.getD 1 0)) (wordOf (b.getD 2 0) (b.getD 3 0))
      ((pixelsOf (unpackNibbles (b.drop 6))).take (pixelCount b)) (padOf b)
  else if kind = 0x03 then
    if taken then requestCommand (headOf b) (b.getD 5 0) (b.drop 6)
    else .mgmtNotTaken (headOf b) (b.getD 5 0) (b.drop 6)
  else if kind = 0x04 then .enumFrame (b.getD 0 0)
  else if kind = 0x11 then .forwardedReply b
  else if kind = 0x12 then .forwardedRecord (reportOf b)
  else .holdFrame (wordOf (b.getD 0 0) (b.getD 1 0))

/-- The command that bytes received whole at a port are: a frame that is not good is a check failure (R2). -/
def frameCommand (p : Port) (bytes : List Byte) (taken : Bool) : Instr :=
  if frameGood p bytes then
    match openEnvelope bytes with
    | some (kind, body) => goodFrameCommand kind body taken
    | none => .frameCheckFailure p
  else .frameCheckFailure p

end Sys2Proof.Machine
end

