-- ==== Sys2Proof/Machine/Operands.lean ====
section
/-! DEFINITION. The arguments of the management requests, read from their bytes: `none` is the BAD_ARGS of each
request's first check. -/

namespace Sys2Proof.Machine

/-- The arguments are empty, as IDENTIFY, STATUS-READ, CEILING-LOCK, OVERRIDE-END, SAVE and SOFT-RESET ask. -/
def noArgs (args : List Byte) : Bool := args.isEmpty

/-- Bytes as words, most significant byte first. -/
def wordsOf : List Byte → List Word
  | hi :: lo :: rest => wordOf hi lo :: wordsOf rest
  | _ => []

/-- TABLE-WRITE: table, first index, values (R170). -/
def tableWriteArgs : List Byte → Option (Table × Nat × List Word)
  | code :: hi :: lo :: values =>
    if values.length < 2 ∨ values.length % 2 = 1 then none
    else (Table.ofCode code.toNat).map fun t => (t, (wordOf hi lo).toNat, wordsOf values)
  | _ => none

/-- The bank that TABLE-READ names (R171). -/
def bankOf (b : Byte) : Option BankName :=
  if b = 0 then some .active else if b = 1 then some .shadow else none

/-- The code of a bank (R171). -/
def BankName.code : BankName → Nat
  | .active => 0
  | .shadow => 1

/-- TABLE-READ: table, bank, first index, count (R171). -/
def tableReadArgs : List Byte → Option (Table × BankName × Nat × Nat)
  | [code, bank, ihi, ilo, chi, clo] =>
    match Table.ofCode code.toNat, bankOf bank with
    | some t, some b =>
      if within 1 1024 (wordOf chi clo).toNat then some (t, b, (wordOf ihi ilo).toNat, (wordOf chi clo).toNat) else none
    | _, _ => none
  | _ => none

/-- TABLE-COMMIT: table, effective frame E (R172). -/
def tableCommitArgs : List Byte → Option (Table × Word)
  | [code, hi, lo] => (Table.ofCode code.toNat).map fun t => (t, wordOf hi lo)
  | _ => none

/-- TABLE-ABANDON: table (R175). -/
def tableAbandonArgs : List Byte → Option Table
  | [code] => Table.ofCode code.toNat
  | _ => none

/-- TIME-SET: weekday, minute, ms, each in its range (R89). -/
def timeSetArgs : List Byte → Option (Nat × Nat × Nat)
  | [w, mhi, mlo, shi, slo] =>
    let minute := (wordOf mhi mlo).toNat
    let ms := (wordOf shi slo).toNat
    if within 1 7 w.toNat && minute ≤ 1439 && ms ≤ 59999 then some (w.toNat, minute, ms) else none
  | _ => none

/-- DRIFT-SET: the drift, a two's complement number (R88). -/
def driftSetArgs : List Byte → Option Int
  | [hi, lo] => some (wordOf hi lo).toInt
  | _ => none

/-- LEVEL-OVERRIDE: level and minutes, the minutes in 1..1440 (R79). -/
def levelOverrideArgs : List Byte → Option (Nat × Nat)
  | [lhi, llo, mhi, mlo] =>
    if within 1 1440 (wordOf mhi mlo).toNat then some ((wordOf lhi llo).toNat, (wordOf mhi mlo).toNat) else none
  | _ => none

/-- The colours a TRIM-NUDGE names, in bits 0 to 2 (R59). -/
def coloursOf (b : Byte) : List Colour := Colour.all.filter fun c => b.getLsbD c.index

/-- TRIM-NUDGE: module, colours, direction (UP is yes) (R59). -/
def trimNudgeArgs : List Byte → Option (Nat × List Colour × Bool)
  | [m, c, dir] =>
    if m.toNat ≤ 31 ∧ coloursOf c ≠ [] ∧ dir.toNat ≤ 1 then some (m.toNat, coloursOf c, dir == 0) else none
  | _ => none

/-- FAULT-READ: the cursor (R143). -/
def faultReadArgs : List Byte → Option Nat
  | [c] => if c.toNat ≤ 63 then some c.toNat else none
  | _ => none

/-- The two forms of FAULT-CLEAR (R144). -/
inductive ClearForm where
  | named (module : Nat) (kind : FaultKind)
  | allLatched
  deriving DecidableEq, Repr

/-- FAULT-CLEAR: form 0 with module and kind code, or form 1 alone (R144). -/
def faultClearArgs : List Byte → Option ClearForm
  | [form, m, k] =>
    if form = 0 ∧ m.toNat ≤ 31 then (FaultKind.ofModuleCode k.toNat).map fun k => .named m.toNat k else none
  | [form] => if form = 1 then some .allLatched else none
  | _ => none

end Sys2Proof.Machine
end

