-- ==== Sys2Proof/Machine/Flags.lean ====
section
/-! DEFINITION. The conditions and counts that several blocks read, each derived from the state that holds it. -/

namespace Sys2Proof.Machine

/-- The four causes of UNCONFIGURED as they stand (R169). -/
def State.causes (s : State) : Causes where
  layoutMissing := s.tables.layoutMissing
  layoutMarks := !(s.table .layout).bad.isEmpty
  limitsMarks := !(s.table .limits).bad.isEmpty
  policyMarks := !(s.table .policy).bad.isEmpty

/-- The part is UNCONFIGURED while at least one cause holds (R169). -/
def State.unconfigured (s : State) : Bool :=
  s.tables.layoutMissing || !(s.table .layout).bad.isEmpty || !(s.table .limits).bad.isEmpty ||
    !(s.table .policy).bad.isEmpty

/-- The stream states that are forced-dark conditions (R68, Table 7-2). -/
def StreamState.forcesDark : StreamState → Bool
  | .darkening => true
  | .dark => true
  | _ => false

/-- A forced-dark condition holds while at least one of the three holds (R68). -/
def State.forcedDark (s : State) : Bool :=
  s.faults.flags.cabinetDark || s.unconfigured || s.stream.state.forcesDark

/-- A module whose state is BLANKED or RESTORE_WAIT, dark by policy (R139, R142). -/
def ModuleStatus.isDark (m : ModuleStatus) : Bool :=
  match m.state with
  | .blanked => true
  | .restoreWait => true
  | _ => false

/-- The blanked count (R142). -/
def Faults.blankedCount (f : Faults) : Nat := f.modules.countP ModuleStatus.isDark

/-- The active count: records in ACTIVE or CLEARING (R145). -/
def Faults.activeCount (f : Faults) : Nat := f.records.countP fun r => r.state == .active || r.state == .clearing

/-- The latched count (R145). -/
def Faults.latchedCount (f : Faults) : Nat := f.records.countP fun r => r.state == .latched

/-- A condition flag (R133). -/
def ConditionFlags.get (f : ConditionFlags) : Condition → Bool
  | .streamLost => f.streamLost
  | .clockUnset => f.clockUnset
  | .storeInvalid => f.storeInvalid
  | .cabinetDark => f.cabinetDark

/-- The condition flags with one set to `b`. -/
def ConditionFlags.set (f : ConditionFlags) (c : Condition) (b : Bool) : ConditionFlags :=
  match c with
  | .streamLost => { f with streamLost := b }
  | .clockUnset => { f with clockUnset := b }
  | .storeInvalid => { f with storeInvalid := b }
  | .cabinetDark => { f with cabinetDark := b }

/-- The severity of a fault kind (Table 8-2). -/
def severityOf : FaultKind → Severity
  | .openString => .major
  | .shortString => .critical
  | .overTemp => .major
  | .driverSilent => .critical
  | .ambientInvalid => .minor
  | .dwellEarly => .minor
  | .motion => .minor
  | .linkCrc => .major
  | .downstreamDown => .major
  | .streamLost => .critical
  | .tableEcc => .major
  | .clockUnset => .minor
  | .storeInvalid => .critical
  | .cabinetDark => .critical

/-- A SAVE is in flight (Table 11-1). -/
def State.saving (s : State) : Bool := s.agent.save.isSome

end Sys2Proof.Machine
end

