-- ==== Sys2Proof/Machine/Storage.lean ====
section
/-! DEFINITION. Reads of the banks: storage errors, bad and damage marks, and what the start of UNCONFIGURED does at once
at the Dimming Controller and at Frame Capture. -/

namespace Sys2Proof.Machine

/-! ## Forced dark (R69, R76) -/

/-- The source as it is selected without computing the curve (R69): from the override record, the valid flag and the bad
marks of AMBIENT as they stand. -/
def State.selectSource (s : State) : Source :=
  if s.dimming.override.isSome then .override
  else if s.dimming.luxValid && (s.table .ambient).bad.isEmpty then .auto
  else .fallback

/-- A recomputation of T while a forced-dark condition holds (R69, Table 4-3): T is 0 and the mode FORCED_DARK, and the
source is selected anew. -/
def State.darkTarget (s : State) : State :=
  { s with dimming := { s.dimming with target := 0, mode := .forcedDark, source := s.selectSource } }

/-- L takes a value at or below the one it has; when it becomes 0 Stream Supervision is notified (R77). -/
def State.lowerLevel (s : State) (l : Nat) : State :=
  let s' := { s with dimming := { s.dimming with level := l } }
  if l = 0 ∧ s.dimming.level ≠ 0 then s'.hand .lZeroNotice else s'

/-- CABINET_DARK becomes active or the part enters UNCONFIGURED (R76): L is 0 at once, T is 0, the mode FORCED_DARK. -/
def State.darkAtOnce (s : State) : State := (s.lowerLevel 0).darkTarget

/-- The start of UNCONFIGURED as the Table Store hands it on, to the Dimming Controller (R76) and then to Frame Capture,
which discards an open frame uncounted (R40, R169). -/
def State.beginUnconfigured (s : State) : State :=
  let s := s.darkAtOnce
  { s with capture := { s.capture with opened := none } }

/-! ## The storage (section 10.2) -/

/-- The first outcome listed for an entry of a bank, and the outcomes with it taken out; with none listed the read finds
no error (log entry 3). -/
def popOutcome (t : Table) (b : BankName) (i : Nat) : List StorageEvent → StorageOutcome × List StorageEvent
  | [] => (.sound, [])
  | e :: es =>
    if e.table = t ∧ e.bank = b ∧ e.index = i then (e.outcome, es)
    else ((popOutcome t b i es).1, e :: (popOutcome t b i es).2)

/-- One read consults the storage. -/
def State.consult (s : State) (t : Table) (b : BankName) (i : Nat) : StorageOutcome × State :=
  ((popOutcome t b i s.storage).1, { s with storage := (popOutcome t b i s.storage).2 })

/-- A correctable error: the count of them and the last-corrected record (R166, R168). The bank holds the correct value,
which is what is written back. -/
def State.noteCorrected (s : State) (t : Table) (b : BankName) (i : Nat) : State :=
  { s with tables := { s.tables with corrected := saturate counterMax s.tables.corrected, lastCorrected := some ⟨t, b, i⟩ } }

/-- An uncorrectable error in an active bank (R166): the index joins the bad marks, TABLE_ECC is handed over as present,
and UNCONFIGURED begins if this is its first cause (R169). -/
def State.markBad (s : State) (t : Table) (i : Nat) : State :=
  let s' := (s.setTable t { s.table t with bad := (s.table t).bad ++ [i] }).hand (.tableEccDelivery t true)
  if !s.unconfigured && s'.unconfigured then s'.beginUnconfigured else s'

/-- What a read yields: a value, marked as corrected or not, or none. -/
inductive ReadResult where
  | good (v : Word)
  | corrected (v : Word)
  | bad
  deriving DecidableEq, Repr

/-- The value a read yields, if any. -/
def ReadResult.value : ReadResult → Option Word
  | .good v => some v
  | .corrected v => some v
  | .bad => none

/-- A read of an entry of an active bank (R166). -/
def State.readActive (s : State) (t : Table) (i : Nat) : ReadResult × State :=
  if i ∈ (s.table t).bad then (.bad, s)
  else
    let v := (s.table t).active.getD i 0
    let r := s.consult t .active i
    match r.1 with
    | .sound => (.good v, r.2)
    | .correctable => (.corrected v, r.2.noteCorrected t .active i)
    | .uncorrectable => (.bad, r.2.markBad t i)

/-- A read of an active entry as a number, none where the entry is bad. -/
def State.readEntry (s : State) (t : Table) (i : Nat) : Option Nat × State :=
  let r := s.readActive t i
  (r.1.value.map BitVec.toNat, r.2)

/-- A read of an active entry whose reader takes the built-in default in place of a bad one (R118, R127, R153, R167). -/
def State.readOrDefault (s : State) (t : Table) (i : Nat) : Nat × State :=
  let r := s.readEntry t i
  (r.1.getD (defaultEntry t i), r.2)

/-- Reads of several active entries, in the order listed. -/
def State.readEntries (s : State) (t : Table) : List Nat → List (Option Nat) × State
  | [] => ([], s)
  | i :: is =>
    let r := s.readEntry t i
    let rest := r.2.readEntries t is
    (r.1 :: rest.1, rest.2)

/-- Reads of active entries with what each found, in the order listed. -/
def State.readResults (s : State) (t : Table) : List Nat → List ReadResult × State
  | [] => ([], s)
  | i :: is =>
    let r := s.readActive t i
    let rest := r.2.readResults t is
    (r.1 :: rest.1, rest.2)

/-- A shadow entry is lost to an uncorrectable error (R168): it joins the damage marks, and a post is withdrawn. -/
def Shadow.damaged (i : Nat) : Shadow → Shadow
  | .clean => .clean
  | .editing b d => .editing b (d ++ [i])
  | .posted b _ => .editing b [i]

/-- A read of an entry of a shadow bank with contents of its own (R168); of a CLEAN shadow it is a read of the active
bank (R165). -/
def State.readShadow (s : State) (t : Table) (i : Nat) : ReadResult × State :=
  let go (bank : List Word) : ReadResult × State :=
    let r := s.consult t .shadow i
    match r.1 with
    | .sound => (.good (bank.getD i 0), r.2)
    | .correctable => (.corrected (bank.getD i 0), r.2.noteCorrected t .shadow i)
    | .uncorrectable => (.bad, r.2.setTable t { s.table t with shadow := (s.table t).shadow.damaged i })
  match (s.table t).shadow with
  | .clean => s.readActive t i
  | .editing bank damage => if i ∈ damage then (.bad, s) else go bank
  | .posted bank _ => go bank

/-- Reads of shadow entries with what each found, in the order listed. -/
def State.readShadows (s : State) (t : Table) : List Nat → List ReadResult × State
  | [] => ([], s)
  | i :: is =>
    let r := s.readShadow t i
    let rest := r.2.readShadows t is
    (r.1 :: rest.1, rest.2)

end Sys2Proof.Machine
end

