-- ==== Sys2Proof/Machine/Link.lean ====
section
/-! DEFINITION. The Link Interface: the downstream transmitter, the upstream arbiter, the check counters, addressing, and
the commands of the two ports. -/

namespace Sys2Proof.Machine

/-! ## The downstream transmitter (R9, R10) -/

/-- Whenever D is UP and no frame is being sent, the transmitter starts the frame in the HOLD slot, or else the head of
the forward queue (R9). -/
def State.grantD (s : State) : State :=
  if s.link.upD = true ∧ s.link.sendingD = .idle then
    match s.link.holdSlot with
    | some h => { s with link := { s.link with holdSlot := some ⟨h.pause, true⟩, sendingD := .hold } }.emit (.sendHold h.pause)
    | none =>
      match s.link.forwardQueue with
      | f :: _ => { s with link := { s.link with sendingD := .forwarded } }.emit (.sendD f)
      | [] => s
  else s

/-- The frames that the forward queue holds at most (R9). -/
def forwardMax : Nat := 4

/-- A good frame that R8 forwards arrives at the forward queue (R9). -/
def State.forward (s : State) (f : DownFrame) : State :=
  if s.link.upD then
    if s.link.forwardQueue.length < forwardMax then
      { s with link := { s.link with forwardQueue := s.link.forwardQueue ++ [f] } }.grantD
    else { s with link := { s.link with forwardOverflow := saturate counterMax s.link.forwardOverflow } }
  else s

/-- A HOLD frame is handed to the downstream transmitter (R10): it takes the HOLD slot, replacing an unsent one, or is
discarded while D is DOWN. -/
def State.handHold (s : State) (pause : Word) : State :=
  if s.link.upD then { s with link := { s.link with holdSlot := some ⟨pause, false⟩ } }.grantD else s

/-! ## The upstream arbiter (R18, R19) -/

/-- Whenever U is UP and no frame is being sent, the arbiter starts the head of the reply buffer, or else, while the
inbound hold timer is stopped, a REPORT frame with the record at the head of the report queue (R19). -/
def State.grantU (s : State) : State :=
  if s.link.upU = true ∧ s.link.sendingU = .idle then
    match s.link.replies with
    | r :: _ => { s with link := { s.link with sendingU := .reply } }.emit (.sendReply r)
    | [] =>
      match s.reports.queue, s.reports.inbound with
      | r :: _, none => { s with link := { s.link with sendingU := .report true } }.emit (.sendReport r)
      | _, _ => s
  else s

/-- The frames that the upstream reply buffer holds at most (R18). -/
def replyMax : Nat := 4

/-- A reply joins the tail of the reply buffer (R18). -/
def State.joinReply (s : State) (r : ReplyFrame) : State :=
  { s with link := { s.link with replies := s.link.replies ++ [r] } }.grantU

/-- An own reply is offered to the reply buffer (R18). -/
def State.offerOwn (s : State) (r : Reply) : State :=
  if s.link.upU then
    if s.link.replies.length < replyMax then s.joinReply (.own r)
    else { s with link := { s.link with repliesLost := saturate counterMax s.link.repliesLost } }
  else s

/-- A forwarded reply is offered to the reply buffer (R17, R18). -/
def State.offerForwarded (s : State) (body : List Byte) : State :=
  if s.link.upU then
    if s.link.replies.length < replyMax then s.joinReply (.forwarded body)
    else { s with link := { s.link with dDiscard := saturate counterMax s.link.dDiscard } }
  else s

/-- The inbound hold timer has started: a REPORT frame being sent is abandoned with an abort mark (R19). -/
def State.abandonReport (s : State) : State :=
  match s.link.sendingU with
  | .report _ => ({ s with link := { s.link with sendingU := .idle } }.emit .abortU).grantU
  | _ => s

/-! ## Addressing (R14, R15) and replying (R16) -/

/-- The group's entry in the active GROUPS bank counts as MEMBER (R14). -/
def State.isMember (s : State) (g : Nat) : Bool × State :=
  let r := s.readEntry .groups g
  (match r.1 with | some v => v != 0 | none => false, r.2)

/-- Whether a MGMT frame is taken here (R5, R15). -/
def State.takenHere (s : State) (h : MgmtHead) : Bool × State :=
  if h.mode = 0x02 then (true, s)
  else if h.mode = 0x00 then (within 1 63 h.value.toNat && h.value.toNat == s.link.position, s)
  else if h.mode = 0x01 ∧ h.value.toNat ≤ 4095 then s.isMember h.value.toNat
  else (false, s)

/-- The body of an own REPLY up to its payload: origin position, request tag, request code echoed, status (R7). The payload
follows by its fields (log entry 27). -/
def replyHead (r : Reply) : List Byte :=
  [BitVec.ofNat 8 r.origin] ++ wordBytes r.tag ++ [r.code, BitVec.ofNat 8 r.status.code]

/-- A reply is formed for a request taken under POSITION, and for no other (R16). -/
def State.reply (s : State) (h : MgmtHead) (code : Byte) (a : Answer) : State :=
  if h.mode = 0x00 then s.offerOwn ⟨s.link.position, h.tag, code, a.status, a.payload⟩ else s

/-- A good MGMT frame arrives at U: it is forwarded, and it is decided whether it is taken here (R8, R15). While U is
DOWN no frame is received (R1). -/
def State.arriveMgmt (s : State) (h : MgmtHead) (code : Byte) (args : List Byte) : Bool × State :=
  if s.link.upU then (s.forward (.mgmt h code args)).takenHere h else (false, s)

/-- A request that finishes in the event that takes it (R181): it is checked and carried out, and its reply is formed. Its frame
is forwarded first, so that a STATUS-READ shows the forward overflow count with its own frame counted; R8 has neither wait for
the other (DESIGN CHOICE, log entry 51). -/
def State.request (s : State) (h : MgmtHead) (code : Byte) (args : List Byte) (carryOut : State → Answer × State) : State :=
  let r := s.arriveMgmt h code args
  if r.1 then
    let a := carryOut r.2
    a.2.reply h code a.1
  else r.2

/-- The command that bytes received at a port are in a state (R2, R15). -/
def State.frameReceived (s : State) (p : Port) (bytes : List Byte) : Instr :=
  frameCommand p bytes
    (match openEnvelope bytes with
      | some (_, body) => (s.takenHere (headOf body)).1
      | none => false)

/-! ## The commands of the ports -/

/-- D becomes UP: the D-has-been-UP flag is set and sending begins (R1, R11). -/
def State.raiseD (s : State) : State :=
  { s with link := { s.link with upD := true, dHasBeenUp := true } }.grantD

/-- U becomes UP: the arbiter resumes (R1, R21). -/
def State.raiseU (s : State) : State := { s with link := { s.link with upU := true } }.grantU

/-- LINK_UP (R1, R191): a DOWN port becomes UP; before start-up completes only the partner is noted. -/
def execLinkUp (p : Port) (s : State) : Host.Outcome State Fault Refusal :=
  match p with
  | .u =>
    let s := { s with link := { s.link with partnerU := true } }
    .next (if s.started && !s.link.upU then s.raiseU else s)
  | .d =>
    let s := { s with link := { s.link with partnerD := true } }
    .next (if s.started && !s.link.upD then s.raiseD else s)

/-- D goes from UP to DOWN (R11). -/
def State.dropD (s : State) : State :=
  let s' := { s with link := { s.link with upD := false, forwardQueue := [], holdSlot := none, sendingD := .idle } }
  if s.link.sendingD = .idle then s' else s'.emit .abortD

/-- U goes from UP to DOWN (R21). -/
def State.dropU (s : State) : State :=
  let s' := { s with link := { s.link with upU := false, replies := [], sendingU := .idle } }
  if s.link.sendingU = .idle then s' else s'.emit .abortU

/-- LINK_DOWN (R1, R11, R21). -/
def execLinkDown (p : Port) (s : State) : Host.Outcome State Fault Refusal :=
  match p with
  | .u =>
    let s := { s with link := { s.link with partnerU := false } }
    .next (if s.link.upU then s.dropU else s)
  | .d =>
    let s := { s with link := { s.link with partnerD := false } }
    .next (if s.link.upD then s.dropD else s)

/-- FRAME_CHECK_FAILURE (R2, R3): counted at its port; a DOWN port receives no frames (R1). -/
def execFrameCheckFailure (p : Port) (s : State) : Host.Outcome State Fault Refusal :=
  match p with
  | .u =>
    .next (if s.link.upU then
      { s with link := { s.link with
          uDiscard := saturate counterMax s.link.uDiscard, uFailures := saturate counterMax s.link.uFailures } }
    else s)
  | .d =>
    .next (if s.link.upD then
      { s with link := { s.link with dDiscard := saturate counterMax s.link.dDiscard } }
    else s)

/-- FRAME_ABORTED (R2): discarded, and not counted. -/
def execFrameAborted (_p : Port) (s : State) : Host.Outcome State Fault Refusal := .next s

/-- The ambient valid flag of a SYNC's flags byte (R4). -/
def ambientValid (flags : Byte) : Bool := flags.getLsbD 0

/-- SYNC_FRAME (R8): forwarded unchanged and delivered to the five blocks that take it, each as an event of its own. -/
def execSyncFrame (frame content lux : Word) (flags : Byte) (s : State) : Host.Outcome State Fault Refusal :=
  .next (if s.link.upU then
    (((((s.forward (.sync frame content lux flags)).hand (.frameCaptureSync frame content)).hand
      (.dimmingSync lux (ambientValid flags))).hand (.tableStoreSync frame)).hand .streamSync).hand .sweepCountSync
  else s)

/-- ENUM_FRAME (R7, R12): the position is set and the frame forwarded with its counter rewritten. -/
def execEnumFrame (counter : Byte) (s : State) : Host.Outcome State Fault Refusal :=
  let c := min counter.toNat 63
  .next (if s.link.upU then
    if c ≤ 62 then
      { s with link := { s.link with position := c + 1 } }.forward (.enum (BitVec.ofNat 8 (c + 1)))
    else { s with link := { s.link with position := 0 } }.forward (.enum 63)
  else s)

/-- MGMT_NOT_TAKEN (R14, R15): forwarded only; a GROUP frame's entry has been read to decide it. -/
def execMgmtNotTaken (h : MgmtHead) (code : Byte) (args : List Byte) (s : State) : Host.Outcome State Fault Refusal :=
  .next (s.arriveMgmt h code args).2

/-- FORWARDED_REPLY (R17, R18). -/
def execForwardedReply (body : List Byte) (s : State) : Host.Outcome State Fault Refusal :=
  .next (if s.link.upD then s.offerForwarded body else s)

/-- FORWARDED_FRAME_SENT (R9): the frame leaves the forward queue and the next is started. -/
def execForwardedFrameSent (s : State) : Host.Outcome State Fault Refusal :=
  .next (match s.link.sendingD with
    | .forwarded => { s with link := { s.link with forwardQueue := s.link.forwardQueue.tail, sendingD := .idle } }.grantD
    | _ => s)

/-- The HOLD slot after the HOLD frame being sent has left: empty, unless a later HOLD frame took it meanwhile. -/
def slotAfterSending : Option HoldSlot → Option HoldSlot
  | some h => if h.started then none else some h
  | none => none

/-- HOLD_FRAME_SENT (R9, R10): the frame leaves the HOLD slot and the next is started. -/
def execHoldFrameSent (s : State) : Host.Outcome State Fault Refusal :=
  .next (match s.link.sendingD with
    | .hold => { s with link := { s.link with holdSlot := slotAfterSending s.link.holdSlot, sendingD := .idle } }.grantD
    | _ => s)

/-- REPLY_SENT (R19): the reply leaves the buffer and U is granted again. -/
def execReplySent (s : State) : Host.Outcome State Fault Refusal :=
  .next (match s.link.sendingU with
    | .reply => { s with link := { s.link with replies := s.link.replies.tail, sendingU := .idle } }.grantU
    | _ => s)

end Sys2Proof.Machine
end

