-- ==== Sys2Proof/Machine/Capture.lean ====
section
/-! DEFINITION. Frame Capture: PIXEL frames, the open frame and its close, and what a LAYOUT swap does here. -/

namespace Sys2Proof.Machine

/-! ## PIXEL frames (R29, R30) -/

/-- The columns and lines of the picture (R4, R29). -/
def pictureSize : Nat := 4096

/-- The samples of a segment from a picture column on, written on one window line: columns above 4095 are dropped, and
columns outside the window are not written (R29). -/
def writeSegment (g : Geometry) (wy : Nat) : Nat → List Pixel → Slot × List Nat → Slot × List Nat
  | _, [], acc => acc
  | col, p :: ps, acc =>
    if col < pictureSize ∧ g.x0 ≤ col ∧ col < g.x0 + g.width then
      writeSegment g wy (col + 1) ps
        (writeSlot (wy * g.width + (col - g.x0)) p acc.1, addSorted (wy * g.width + (col - g.x0)) acc.2)
    else writeSegment g wy (col + 1) ps acc

/-- A PIXEL frame delivered to Frame Capture (R29, R30), its line and column taken modulo 4096 (R4). -/
def Capture.pixel (c : Capture) (line column : Word) (samples : List Pixel) : Capture :=
  match c.opened with
  | none => c
  | some o =>
    let y := line.toNat % pictureSize
    if o.geometry.y0 ≤ y ∧ y < o.geometry.y0 + o.geometry.height then
      let r := writeSegment o.geometry (y - o.geometry.y0) (column.toNat % pictureSize) samples (c.fill, o.coverage)
      { c with fill := r.1, opened := some { o with coverage := r.2 } }
    else c

/-! ## The signature (R32) -/

/-- A component as two bytes, the top four bits 0. -/
def componentBytes (c : Component) : List Byte := wordBytes (c.setWidth 16)

/-- The six bytes a sample contributes to the signature. -/
def sampleSignatureBytes (p : Pixel) : List Byte :=
  componentBytes p.red ++ componentBytes p.green ++ componentBytes p.blue

/-- The number of pixels of a window. -/
def Geometry.area (g : Geometry) : Nat := g.width * g.height

/-- The signature of a complete frame over its samples in FILL, in raster order. -/
def frameSignature (g : Geometry) (fill : Slot) : Check :=
  crc32 ((List.range g.area).flatMap fun i => sampleSignatureBytes (readSlot i fill))

/-- Every pixel of the window has been written since the frame was opened. -/
def OpenFrame.complete (o : OpenFrame) : Bool := o.coverage == List.range o.geometry.area

/-! ## The decision (R31 to R36, R41) -/

/-- The outcomes of the close (R31, step 1). -/
inductive CloseOutcome where
  | noFrame
  | incomplete
  | early
  | motion
  | swap
  | stopped
  deriving DecidableEq, Repr

/-- The slots swap and the displayed content record is set (R36). -/
def State.swapSlots (s : State) (d : Displayed) : State :=
  { s with capture := { s.capture with displayed := some d, display := s.capture.fill, fill := s.capture.display } }

/-- The decision on a complete frame that finds content displayed (R34, R35, R36, R41). -/
def State.decideHeld (s : State) (o : OpenFrame) (sig : Check) (d : Displayed) : CloseOutcome × State :=
  if o.content = d.content then
    let r := s.readEntry .limits 5
    match r.1 with
    | none => (.stopped, r.2)
    | some enforced =>
      if enforced ≠ 0 ∧ sig ≠ d.signature then (.motion, r.2)
      else (.swap, r.2.swapSlots { d with signature := sig, frame := o.frame })
  else
    let r := s.readEntry .limits 4
    match r.1 with
    | none => (.stopped, r.2)
    | some dwell => if d.dwell < dwell then (.early, r.2) else (.swap, r.2.swapSlots ⟨o.content, sig, o.frame, 0⟩)

/-- The decision on a complete frame (Table 2-2). -/
def State.decideComplete (s : State) (o : OpenFrame) : CloseOutcome × State :=
  let sig := frameSignature o.geometry s.capture.fill
  match s.capture.displayed with
  | none => (.swap, s.swapSlots ⟨o.content, sig, o.frame, 0⟩)
  | some d => s.decideHeld o sig d

/-- Step 1 of R31: the open frame, if any, is closed and decided. -/
def State.closeFrame (s : State) : CloseOutcome × State :=
  match s.capture.opened with
  | none => (.noFrame, s)
  | some o =>
    let s := { s with capture := { s.capture with opened := none } }
    if o.complete then s.decideComplete o
    else
      (.incomplete, { s with capture := { s.capture with incomplete := saturate counterMax s.capture.incomplete } })

/-- Step 2 of R31: the dwell count of a DISPLAY that holds a frame advances (R37). -/
def Capture.advanceDwell (c : Capture) : Capture :=
  { c with displayed := c.displayed.map fun d => { d with dwell := saturate counterMax d.dwell } }

/-- Step 3 of R31: the two evaluations (R38). -/
def closeEvaluations (o : CloseOutcome) : List Evaluation :=
  [⟨.dwellEarly, none, o == .early, .absent⟩, ⟨.motion, none, o == .motion, .absent⟩]

/-- The geometry that eight entries of LAYOUT give, when all eight yielded a value. -/
def geometryOf : List (Option Nat) → Option Geometry
  | [some x0, some y0, some width, some height, some cols, some rows, some moduleWidth, some moduleHeight] =>
    some ⟨x0, y0, width, height, cols, rows, moduleWidth, moduleHeight⟩
  | _ => none

/-- Step 4 of R31: a new frame is opened, unless the part is UNCONFIGURED (R28, R40). -/
def State.openFrame (s : State) (frame content : Word) : State :=
  if s.unconfigured then s
  else
    let r := s.readEntries .layout (List.range 8)
    match geometryOf r.1 with
    | some g => { r.2 with capture := { r.2.capture with opened := some ⟨frame, content, g, []⟩ } }
    | none => r.2

/-! ## A LAYOUT swap (R39) -/

/-- The open frame is discarded uncounted, the coverage map with it, and DISPLAY is EMPTY; the counter is kept. -/
def Capture.layoutSwap (c : Capture) : Capture := { c with displayed := none, opened := none }

/-! ## The commands of Frame Capture -/

/-- FRAME_CAPTURE_SYNC (R31): the four steps, in order. -/
def execFrameCaptureSync (frame content : Word) (s : State) : Host.Outcome State Fault Refusal :=
  let s := s.take (.frameCaptureSync frame content)
  .next (if s.started then
    let r := s.closeFrame
    let s := { r.2 with capture := r.2.capture.advanceDwell }
    (s.hand (.faultEvaluationDelivery (closeEvaluations r.1))).openFrame frame content
  else s)

/-- PIXEL_FRAME (R8, R29, R30): forwarded as received, and delivered to Frame Capture. -/
def execPixelFrame (line column : Word) (samples : List Pixel) (pad : BitVec 4) (s : State) :
    Host.Outcome State Fault Refusal :=
  .next (if s.link.upU then
    let s := s.forward (.pixel line column samples pad)
    { s with capture := s.capture.pixel line column samples }
  else s)

end Sys2Proof.Machine
end

