-- ==== Sys2Proof/Machine/Dimming.lean ====
section
/-! DEFINITION. The Dimming Controller: the AMBIENT curve, the target, ticks, the ceiling clamp and the override. -/

namespace Sys2Proof.Machine

/-! ## The AMBIENT curve (R66, R67) -/

/-- The value on the segment between two breakpoints for a reading on it, truncated toward zero (R66). -/
def segmentValue (lux0 level0 lux1 level1 a : Nat) : Nat :=
  ((level0 : Int) + (((level1 : Int) - level0) * ((a : Int) - lux0)).tdiv ((lux1 : Int) - lux0)).toNat

/-- The curve from a breakpoint at or below the reading on. -/
def curveFrom (a lux0 level0 : Nat) : List (Nat × Nat) → Nat
  | [] => level0
  | (lux1, level1) :: rest =>
    if a < lux1 then segmentValue lux0 level0 lux1 level1 a else curveFrom a lux1 level1 rest

/-- The curve value for a reading, over breakpoints (lux, level) in order (R66). -/
def curveValue (points : List (Nat × Nat)) (a : Nat) : Nat :=
  match points with
  | [] => 0
  | (lux1, level1) :: rest => if a ≤ lux1 then level1 else curveFrom a lux1 level1 rest

/-- The entries of a curve, lux and level by turns, as breakpoints. -/
def breakpoints : List Nat → List (Nat × Nat)
  | lux :: level :: rest => (lux, level) :: breakpoints rest
  | _ => []

/-- Reads of active entries in the order listed, up to the first that finds a bad entry, where they stop: none then. -/
def State.readUntilBad (s : State) (t : Table) : List Nat → Option (List Nat) × State
  | [] => (some [], s)
  | i :: is =>
    let r := s.readEntry t i
    match r.1 with
    | none => (none, r.2)
    | some v =>
      let rest := r.2.readUntilBad t is
      (rest.1.map (v :: ·), rest.2)

/-- The curve computation (R67): entry 0, then entries 1 to 2n, stopping at a read that finds an error it cannot correct. -/
def State.ambientCurve (s : State) : Option Nat × State :=
  let n := s.readEntry .ambient 0
  match n.1 with
  | none => (none, n.2)
  | some count =>
    let r := n.2.readUntilBad .ambient ((List.range (2 * count)).map (· + 1))
    (r.1.map fun es => curveValue (breakpoints es) s.dimming.lux.toNat, r.2)

/-! ## The target (R69, R70) -/

/-- The mode that a source gives while no forced-dark condition holds. -/
def Source.mode : Source → Mode
  | .auto => .auto
  | .fallback => .fallback
  | .override => .override

/-- T is taken from a base through the ceiling that the controller holds (Table 4-3). -/
def State.setTarget (s : State) (src : Source) (base : Nat) : State :=
  { s with dimming := { s.dimming with target := min base s.dimming.ceiling, mode := src.mode, source := src } }

/-- A recomputation in FALLBACK reads F; a read that finds F bad has begun UNCONFIGURED, and the recomputation ends
with its effects (R63). -/
def State.fallbackTarget (s : State) : State :=
  let r := s.readEntry .limits 2
  match r.1 with
  | some f => r.2.setTarget .fallback f
  | none => r.2

/-- The recomputation of T (R70), with the source and the mode selected anew (R69). -/
def State.recompute (s : State) : State :=
  if s.forcedDark then s.darkTarget
  else
    match s.dimming.override with
    | some o => s.setTarget .override o.level
    | none =>
      if s.dimming.luxValid && (s.table .ambient).bad.isEmpty then
        let r := s.ambientCurve
        match r.1 with
        | some v => r.2.setTarget .auto v
        | none => r.2.fallbackTarget
      else s.fallbackTarget

/-! ## Ticks (R72, R73) -/

/-- L rises. -/
def State.raiseLevel (s : State) (l : Nat) : State := { s with dimming := { s.dimming with level := l } }

/-- One tick (R73). A slew entry found bad is not used: its read has begun UNCONFIGURED (R63). -/
def State.levelTick (s : State) : State :=
  if s.dimming.level < s.dimming.target then
    let r := s.readEntry .limits 0
    match r.1 with
    | some up => r.2.raiseLevel (min s.dimming.target (s.dimming.level + up))
    | none => r.2
  else if s.dimming.target < s.dimming.level then
    let r := s.readEntry .limits 1
    match r.1 with
    | some down => r.2.lowerLevel (max s.dimming.target (s.dimming.level - down))
    | none => r.2
  else s

/-! ## The ceiling (R75) -/

/-- The controller holds the new C, and L is clamped to it at once (R75, steps 1 and 2). -/
def State.clampLevel (s : State) (c : Nat) : State :=
  let s := { s with dimming := { s.dimming with ceiling := c } }
  if c < s.dimming.level then s.lowerLevel c else s

/-- A change of C reaches the controller (R75). -/
def State.ceilingChange (s : State) (c : Nat) : State := (s.clampLevel c).recompute

/-! ## The override (R79, R80, R81) -/

/-- The override record is set, or made absent, and T recomputed. -/
def State.setOverride (s : State) (o : Option Override) : State :=
  ({ s with dimming := { s.dimming with override := o } }).recompute

/-- The highest level. -/
def fullLevel : Nat := 1024

/-- LEVEL-OVERRIDE carried out (R79). -/
def levelOverride (args : List Byte) (s : State) : Answer × State :=
  match levelOverrideArgs args with
  | none => (refusal .badArgs, s)
  | some (level, minutes) =>
    let m := min level fullLevel
    let s := s.setOverride (some ⟨m, minutes⟩)
    (⟨.ok, .overrideSet m minutes s.dimming.target s.dimming.ceiling s.dimming.mode⟩, s)

/-- OVERRIDE-END carried out (R81). -/
def overrideEnd (args : List Byte) (s : State) : Answer × State :=
  if noArgs args then
    let present := s.dimming.override.isSome
    let s := if present then s.setOverride none else s
    (⟨.ok, .overrideEnded present s.dimming.target⟩, s)
  else (refusal .badArgs, s)

/-! ## The commands of the Dimming Controller -/

/-- DIMMING_SYNC (R71): the reading, the evaluation, the target, and a tick when the stream is LIVE. -/
def execDimmingSync (lux : Word) (valid : Bool) (s : State) : Host.Outcome State Fault Refusal :=
  let s := s.take (.dimmingSync lux valid)
  .next (if s.started then
    let s := { s with dimming := { s.dimming with lux := lux, luxValid := valid } }
    let s := s.hand (.faultEvaluationDelivery [⟨.ambientInvalid, none, !valid, .absent⟩])
    let s := s.recompute
    if s.stream.state = .live then s.levelTick else s
  else s)

/-- The oldest local tick that waits is a tick of the controller: it was delivered in DARKENING (R72), and it is not taken in
HOLDING or DARK, where there are no level ticks. One that Stream Supervision has not delivered, in a run that starts with it, is
judged by the present state (DEDUCED, log entry 43). -/
def Stream.tickCounts (x : Stream) : Bool :=
  match x.ticks with
  | delivered :: _ => delivered == .darkening && x.state != .holding && x.state != .dark
  | [] => x.state == .darkening

/-- DIMMING_LOCAL_TICK (R72, R74, R77): a local tick delivered in DARKENING moves L toward T, the released one where the stream
has become LIVE in between (Table 4-4, last row). -/
def execDimmingLocalTick (s : State) : Host.Outcome State Fault Refusal :=
  let s := s.take .dimmingLocalTick
  let t := { s with stream := { s.stream with ticks := s.stream.ticks.tail } }
  .next (if s.stream.tickCounts then t.levelTick else t)

/-- OVERRIDE_MINUTE (R80): one minute less, and the record absent at 0. -/
def execOverrideMinute (s : State) : Host.Outcome State Fault Refusal :=
  let s := s.take .overrideMinute
  .next (match s.dimming.override with
    | none => s
    | some o =>
      if o.minutes ≤ 1 then s.setOverride none
      else { s with dimming := { s.dimming with override := some ⟨o.level, o.minutes - 1⟩ } })

/-- OVERRIDE_EXPIRY (R80): the record becomes absent and T is recomputed; nothing where it is absent already (R81). -/
def execOverrideExpiry (s : State) : Host.Outcome State Fault Refusal :=
  .next (if s.dimming.override.isSome then s.setOverride none else s)

/-- LEVEL-OVERRIDE (R79). -/
def execLevelOverride (head : MgmtHead) (args : List Byte) (s : State) : Host.Outcome State Fault Refusal :=
  .next (s.request head 0x0A args (levelOverride args))

/-- OVERRIDE-END (R81). -/
def execOverrideEnd (head : MgmtHead) (args : List Byte) (s : State) : Host.Outcome State Fault Refusal :=
  .next (s.request head 0x0B args (overrideEnd args))

end Sys2Proof.Machine
end

