-- ==== Sys2Proof/Config.lean ====
section
/-! DEFINITION. What one part fixes at manufacture and the manual leaves open: free constants with no body. -/

namespace Sys2Proof

/-- FREE VALUE. The silicon revision less 1: R183 gives the revision as 0..255 "counted from 1" and no value, so the
revision is this number plus 1, in 1..255. Log entry 1. -/
opaque Config.revisionsBefore : Fin 255

/-- FREE VALUE. The serial number, "unique to each part" (R183), 0..4,294,967,295. Log entry 1. -/
opaque Config.serialNumber : BitVec 32

/-- FREE VALUE. How many words of a module have been emitted when a LAYOUT swap or a reset ends its pass (R103, R111), for an
end that is the n-th output of the part: the manual gives no durations. Log entry 18. -/
opaque Config.wordsSent : Nat → Nat

end Sys2Proof
end

