-- ==== Sys2Proof/Machine/Pipeline.lean ====
section
/-! DEFINITION. The Luminance Pipeline: the module computation, its six stages, the substitutes of GAMMA and
CALIBRATION, and the trim array. -/

namespace Sys2Proof.Machine

/-! ## Stage 1 (R46, R48, R167) -/

/-- The index of point i of a colour's curve (R46). -/
def gammaIndex (c : Colour) (i : Nat) : Nat := 257 * c.index + i

/-- The substitute of a bad point (R167), computed at the read. -/
def State.gammaSubstitute (s : State) (c : Colour) (i : Nat) : Nat × State :=
  if i = 0 then (0, s)
  else if i = 256 then
    let r := s.readEntry .gamma (gammaIndex c 255)
    (r.1.getD 65535, r.2)
  else
    let before := s.readEntry .gamma (gammaIndex c (i - 1))
    let after := before.2.readEntry .gamma (gammaIndex c (i + 1))
    (match before.1, after.1 with
      | some a, some b => (a + b) / 2
      | some a, none => a
      | none, some b => b
      | none, none => min (i * 256) 65535, after.2)

/-- One point of a curve, its substitute where it is bad (R49). -/
def State.gammaPoint (s : State) (c : Colour) (i : Nat) : Nat × State :=
  let r := s.readEntry .gamma (gammaIndex c i)
  match r.1 with
  | some v => (v, r.2)
  | none => r.2.gammaSubstitute c i

/-- Several points of a curve, in the order listed, each with its place. -/
def State.gammaPoints (s : State) (c : Colour) : List Nat → List (Nat × Nat) × State
  | [] => ([], s)
  | i :: is =>
    let r := s.gammaPoint c i
    let rest := r.2.gammaPoints c is
    ((i, r.1) :: rest.1, rest.2)

/-- The points that the components of a colour read, p/16 and the next for each, in rising order and each once
(R48, log entry 17). -/
def pointsNeeded (components : List Nat) : List Nat :=
  (List.range 257).filter fun i => components.any fun p => p / 16 == i || p / 16 + 1 == i

/-- The value of a point among those read. -/
def pointValue (points : List (Nat × Nat)) (i : Nat) : Nat :=
  match points.find? fun q => q.1 == i with
  | some q => q.2
  | none => 0

/-- Stage 1 (R48): the value between the two points that a component reads. -/
def gammaStage (low high p : Nat) : Nat := if low ≤ high then low + (high - low) * (p % 16) / 16 else low

/-! ## Stages 2 to 6 -/

/-- The largest coefficient (R50). -/
def coefficientMax : Int := 4095

/-- Stage 2 (R52): the coefficient trimmed, clamped to 0..4095. -/
def trimStage (k : Nat) (t : Int) : Nat := (max 0 (min coefficientMax ((k : Int) + 8 * t))).toNat

/-- Stage 3 (R53). -/
def calibrationStage (g k : Nat) : Nat := g * k / 4096

/-- Stage 4 (R54). -/
def levelStage (s1 level : Nat) : Nat := s1 * level / 1024

/-- Stage 5 (R55), with d 1024 for a LIT module. -/
def derateStage (s2 d : Nat) : Nat := s2 * d / 1024

/-- Stages 3 to 5 for one component: the drive word of a module that is not dark (R53 to R56). -/
def driveWord (g k level d : Nat) : Nat := derateStage (levelStage (calibrationStage g k) level) d

/-! ## The inputs of one computation (R44) -/

/-- The coefficient k[m][c], or the fallback coefficient in place of a bad one; none where that is bad too (R49, R50). -/
def State.coefficient (s : State) (m : Nat) (c : Colour) : Option Nat × State :=
  let r := s.readEntry .calibration (3 * m + c.index)
  match r.1 with
  | some k => (some k, r.2)
  | none => r.2.readEntry .calibration 96

/-- The effective coefficient (R52). With neither coefficient left it is 0 whatever the trim, so that the colour is dark
(R49; R52 trims a substituted coefficient, log entry 49). -/
def effective (k : Option Nat) (t : Int) : Nat :=
  match k with
  | some k => trimStage k t
  | none => 0

/-- The trim t[m][c] (R58). -/
def trimOf (trims : List Int) (m : Nat) (c : Colour) : Int := trims.getD (3 * m + c.index) 0

/-- What one colour of the module's words is computed from: the points read and the effective coefficient. -/
structure ColourInput where
  points : List (Nat × Nat)
  coefficient : Nat
  deriving DecidableEq, Repr

/-- The readings for one colour of module m, whose samples are given (R44). -/
def State.colourInput (s : State) (m : Nat) (samples : List Pixel) (c : Colour) : ColourInput × State :=
  let k := s.coefficient m c
  let g := k.2.gammaPoints c (pointsNeeded (samples.map fun p => p.component c))
  (⟨g.1, effective k.1 (trimOf s.trims m c)⟩, g.2)

/-- The word of one component. -/
def ColourInput.word (i : ColourInput) (level d p : Nat) : Nat :=
  driveWord (gammaStage (pointValue i.points (p / 16)) (pointValue i.points (p / 16 + 1)) p) i.coefficient level d

/-! ## The pixels of a module (R45) -/

/-- The LAYOUT entries of the mapping: window width, cols, module width, module height (R44). -/
structure Mapping where
  width : Nat
  cols : Nat
  moduleWidth : Nat
  moduleHeight : Nat
  deriving DecidableEq, Repr

/-- The slot position of the pixel at column u and line v of module m (R45). -/
def Mapping.position (g : Mapping) (m u v : Nat) : Nat :=
  (m / g.cols * g.moduleHeight + v) * g.width + (m % g.cols * g.moduleWidth + u)

/-- The mapping that the four entries read give; none where one is bad. -/
def mappingOf : List (Option Nat) → Option Mapping
  | [some width, some cols, some moduleWidth, some moduleHeight] => some ⟨width, cols, moduleWidth, moduleHeight⟩
  | _ => none

/-- The three words of a pixel, red, green and blue. -/
abbrev Words := Nat × Nat × Nat

/-- The words of a module: one list of pixels for each line in order, each pixel a column in order (R44). -/
abbrev ModuleWords := List (List Words)

/-- A module's words all 0. -/
def blackWords (width height : Nat) : ModuleWords := List.replicate height (List.replicate width (0, 0, 0))

/-- The samples of a module, line by line, read from the DISPLAY slot (R45). -/
def moduleSamples (display : Slot) (g : Mapping) (m width height : Nat) : List (List Pixel) :=
  (List.range height).map fun v => (List.range width).map fun u => readSlot (g.position m u v) display

/-- The words of a module that is lit or derated, over DISPLAY as it stands, with L and d read at the start (R44). -/
def State.litWords (s : State) (m level d : Nat) (lines : List (List Pixel)) : ModuleWords × State :=
  let red := s.colourInput m lines.flatten .red
  let green := red.2.colourInput m lines.flatten .green
  let blue := green.2.colourInput m lines.flatten .blue
  (lines.map fun line => line.map fun p =>
    (red.1.word level d (p.component .red), green.1.word level d (p.component .green),
      blue.1.word level d (p.component .blue)), blue.2)

/-- The status of module m, LIT for a module that has none. -/
def Faults.moduleStatus (f : Faults) (m : Nat) : ModuleStatus := f.modules.getD m .lit

/-- The module computation (R44): every input is read once; every word is 0 where a LAYOUT entry is bad, DISPLAY is EMPTY,
or the module is BLANKED or RESTORE_WAIT (R56), and no GAMMA or CALIBRATION entry is read then. -/
def State.computeModule (s : State) (m : Nat) : ModuleWords × State :=
  let width := s.drive.geometry.moduleWidth
  let height := s.drive.geometry.moduleHeight
  let status := s.faults.moduleStatus m
  let r := s.readEntries .layout [2, 4, 6, 7]
  match mappingOf r.1, s.capture.displayed with
  | some g, some _ =>
    if status.isDark then (blackWords width height, r.2)
    else r.2.litWords m s.dimming.level status.derate (moduleSamples s.capture.display g m width height)
  | _, _ => (blackWords width height, r.2)

/-! ## The trim array (R58 to R60) -/

/-- The trims of a module, red, green and blue. -/
def moduleTrims (trims : List Int) (m : Nat) : Int × Int × Int :=
  (trimOf trims m .red, trimOf trims m .green, trimOf trims m .blue)

/-- One trim moved by a step, saturating (R60). -/
def nudge (up : Bool) (t : Int) : Int := if up then min 15 (t + 1) else max (-16) (t - 1)

/-- The named trims of a module moved by one step (R60). -/
def nudgeTrims (trims : List Int) (m : Nat) (colours : List Colour) (up : Bool) : List Int :=
  colours.foldl (fun ts c => ts.set (3 * m + c.index) (nudge up (trimOf ts m c))) trims

/-- A LAYOUT swap that takes the module count from `old` to `new`: the trims of modules at or above the new count become 0,
and a swap that leaves the count unchanged changes no trim, even where start-up has loaded trims for modules above it (R58;
its last sentence taken as the exception to its first, DEDUCED, log entry 52). -/
def zeroRemovedTrims (trims : List Int) (old new : Nat) : List Int :=
  if new = old then trims else trims.take (3 * new) ++ List.replicate (trims.length - 3 * new) 0

/-- TRIM-NUDGE carried out (R59, R60). -/
def trimNudge (args : List Byte) (s : State) : Answer × State :=
  match trimNudgeArgs args with
  | none => (refusal .badArgs, s)
  | some (m, colours, up) =>
    if s.drive.geometry.modules ≤ m then (refusal .range, s)
    else
      let trims := nudgeTrims s.trims m colours up
      let t := moduleTrims trims m
      (⟨.ok, .trims m t.1 t.2.1 t.2.2⟩, { s with trims := trims })

/-- TRIM-NUDGE (R59, R60). -/
def execTrimNudge (head : MgmtHead) (args : List Byte) (s : State) : Host.Outcome State Fault Refusal :=
  .next (s.request head 0x0C args (trimNudge args))

end Sys2Proof.Machine
end

