-- ==== Sys2Proof/Machine/DrivePort.lean ====
section
/-! DEFINITION. The Drive Port: the drive geometry, refresh passes and scan order, the diagnostic sweep and poll
results. -/

namespace Sys2Proof.Machine

/-! ## The drive geometry (R99) -/

/-- The drive geometry that entries 4 to 10 of LAYOUT give, or the built-in default's where one is bad (R99). -/
def driveGeometryOf : List (Option Nat) → DriveGeometry
  | [some cols, some rows, some moduleWidth, some moduleHeight, some group, some order, some strings] =>
    ⟨rows * cols, cols, moduleWidth, moduleHeight, group, order != 0, strings⟩
  | _ => .builtIn

/-- The Drive Port takes its geometry from the active LAYOUT bank (R99). -/
def State.takeGeometry (s : State) : State :=
  let r := s.readEntries .layout ((List.range 7).map (· + 4))
  { r.2 with drive := { r.2.drive with geometry := driveGeometryOf r.1 } }

/-- Where a LAYOUT swap leaves the pass, the sweep pointer and the poll in flight, once the geometry is new (R103, steps
3 to 7). -/
def Drive.layoutSwap (d : Drive) : Drive :=
  { d with
    position := 0
    startLine := 0
    sweepPointer := if d.geometry.modules ≤ d.sweepPointer then 0 else d.sweepPointer
    inFlight := d.inFlight.filter fun p => p.module < d.geometry.modules }

/-- What has gone out of a module whose words are cut off: a free number of them (R103, R111; log entry 18). -/
def State.cutWords (s : State) : List Output :=
  match s.drive.unemitted with
  | none => []
  | some e => [.driveWordsCut e.module e.lines (Config.wordsSent s.out.length)]

/-- The pass in progress ends, and the words not yet emitted are discarded (R103, step 2). -/
def State.endPass (s : State) : State :=
  { s with out := s.out ++ s.cutWords, drive := { s.drive with unemitted := none } }

/-- The Drive Port at a LAYOUT swap (R103). -/
def State.driveLayoutSwap (s : State) : State :=
  let s := s.takeGeometry.endPass
  { s with drive := s.drive.layoutSwap }

/-! ## Refresh passes (R100, R101) -/

/-- The line offset visited at step j of a scan group (R101). -/
def scanOffset (g : DriveGeometry) (startLine j : Nat) : Nat :=
  if g.interleaved then startLine ^^^ j else (startLine + j) % g.group

/-- The lines of a module in the order in which they are emitted (R101). -/
def scanOrder (g : DriveGeometry) (startLine : Nat) : List Nat :=
  (List.range (g.moduleHeight / g.group)).flatMap fun b =>
    (List.range g.group).map fun j => b * g.group + scanOffset g startLine j

/-- A module's words in scan order, each line with its number (R101). -/
def inScanOrder (g : DriveGeometry) (startLine : Nat) (words : ModuleWords) : List (Nat × List Words) :=
  (scanOrder g startLine).map fun v => (v, words.getD v [])

/-- The pass goes on to the next module, or ends and the next begins at module 0 (R100). -/
def Drive.nextModule (d : Drive) : Drive :=
  if d.position + 1 < d.geometry.modules then { d with position := d.position + 1 }
  else { d with position := 0, startLine := (d.startLine + 1) % d.geometry.group }

/-- The last word of the module computed has been emitted, and the pass goes on (R100). -/
def State.wordsEmitted (s : State) : State :=
  match s.drive.unemitted with
  | none => s
  | some e => { s.emit (.driveWords e.module e.lines) with drive := { s.drive.nextModule with unemitted := none } }

/-- The words of the module at the pass position are computed and stand to be emitted in scan order (R44, R101). -/
def State.computeWords (s : State) : State :=
  let r := s.computeModule s.drive.position
  { r.2 with drive := { r.2.drive with
      unemitted := some ⟨s.drive.position, inScanOrder s.drive.geometry s.drive.startLine r.1⟩ } }

/-- MODULE_COMPUTATION (R44, R100, R101). The Drive Port requests it when the last word of the module before has been
emitted, so the words that stand to be emitted are out by then (log entry 18). No pass runs before start-up completes. -/
def execModuleComputation (s : State) : Host.Outcome State Fault Refusal :=
  .next (if s.started then s.wordsEmitted.computeWords else s)

/-! ## The diagnostic sweep (R104, R105) -/

/-- The evaluation of a poll found unanswered (R105, R109). -/
def silentEvaluation (m : Nat) : Evaluation := ⟨.driverSilent, some m, true, .absent⟩

/-- Step 1 of R105: a poll in flight is reported silent and becomes absent. -/
def State.sweepSilence (s : State) : State :=
  match s.drive.inFlight with
  | none => s
  | some p =>
    { s with drive := { s.drive with inFlight := none } }.hand (.faultEvaluationDelivery [silentEvaluation p.module])

/-- Steps 2 and 3 of R105: a poll is sent to the module at the sweep pointer, and the pointer advances. -/
def State.sweepSend (s : State) : State :=
  { s with drive := { s.drive with
      inFlight := some ⟨s.drive.sweepPointer, s.drive.nextPoll, s.now⟩
      nextPoll := s.drive.nextPoll + 1
      sweepPointer := (s.drive.sweepPointer + 1) % s.drive.geometry.modules } }.emit
    (.poll s.drive.sweepPointer s.drive.nextPoll)

/-- A sweep tick (R105). -/
def State.sweepTick (s : State) : State := s.sweepSilence.sweepSend

/-- A counted event (R104): n is read, taken as 0 where its entry is bad, and the count compared with 2^n. -/
def State.sweepCounted (s : State) : State :=
  let r := s.readEntry .policy 39
  let s' := r.2
  if 2 ^ r.1.getD 0 ≤ s'.drive.sweepCount + 1 then { s' with drive := { s'.drive with sweepCount := 0 } }.sweepTick
  else { s' with drive := { s'.drive with sweepCount := s'.drive.sweepCount + 1 } }

/-- SWEEP_COUNT_SYNC (R104). -/
def execSweepCountSync (s : State) : Host.Outcome State Fault Refusal :=
  let s := s.take .sweepCountSync
  .next (if s.started then s.sweepCounted else s)

/-- SWEEP_COUNT_LOCAL_TICK (R104). -/
def execSweepCountLocalTick (s : State) : Host.Outcome State Fault Refusal :=
  let s := s.take .sweepCountLocalTick
  .next (if s.started then s.sweepCounted else s)

/-- SWEEP_TICK (R105): the three steps by themselves. The part makes them in the counted event that brings the tick
(R104, log entry 10). -/
def execSweepTick (s : State) : Host.Outcome State Fault Refusal :=
  .next (if s.started then s.sweepTick else s)

/-! ## Poll results (R106 to R109) -/

/-- A string set limited to the strings 0 to S − 1 (R107). -/
def limitStrings (strings : Nat) (set : Word) : Word := set &&& BitVec.ofNat 16 (2 ^ strings - 1)

/-- The evaluation of a string kind (R107). -/
def stringEvaluation (k : FaultKind) (m : Nat) (set : Word) : Evaluation :=
  if set = 0 then ⟨k, some m, false, .absent⟩ else ⟨k, some m, true, .strings set⟩

/-- A temperature reading; a value outside −40..150 is taken as sensor silent (R106). -/
def sensorReading (t : Option Int) : Option Int :=
  t.filter fun c => decide (-40 ≤ c ∧ c ≤ 150)

/-- T_hot, a two's complement number, and the hysteresis, read in turn; none where either is bad (R108, R125). -/
def State.readHot (s : State) : Option (Int × Int) × State :=
  let hot := s.readActive .policy 36
  let hyst := hot.2.readEntry .policy 37
  (match hot.1.value, hyst.1 with
    | some h, some y => some (h.toInt, (y : Int))
    | _, _ => none, hyst.2)

/-- The OVER_TEMP evaluation of a reading against T_hot and the hysteresis, if there is one (R108). -/
def overTempOf (m : Nat) (t hot hyst : Int) : List Evaluation :=
  if hot ≤ t then [⟨.overTemp, some m, true, .temperature t⟩]
  else if t < hot - hyst then [⟨.overTemp, some m, false, .absent⟩]
  else []

/-- The OVER_TEMP evaluation of a matched result, if there is one (R108). -/
def State.overTempEvaluation (s : State) (m : Nat) (t : Option Int) : List Evaluation × State :=
  match t with
  | none => ([⟨.overTemp, some m, true, .absent⟩], s)
  | some c =>
    let r := s.readHot
    (match r.1 with | some (hot, hyst) => overTempOf m c hot hyst | none => [], r.2)

/-- A matched result is evaluated and its evaluations handed over as one delivery (R107 to R109). -/
def State.pollMatched (s : State) (m : Nat) (opens shorts : Word) (t : Option Int) : State :=
  let s := { s with drive := { s.drive with inFlight := none } }
  let heat := s.overTempEvaluation m (sensorReading t)
  let strings := s.drive.geometry.strings
  heat.2.hand (.faultEvaluationDelivery
    ([stringEvaluation .openString m (limitStrings strings opens), stringEvaluation .shortString m (limitStrings strings shorts)] ++
      heat.1 ++ [⟨.driverSilent, some m, false, .absent⟩]))

/-- POLL_RESULT (R106): taken when it matches the poll in flight, discarded otherwise. A result carries nothing else that tells
its poll, so one of a poll sent before a reset, which R111 has discarded, is taken where a poll sent since has its module and
number (DEDUCED, log entry 54). -/
def execPollResult (module : Nat) (number : Byte) (opens shorts : Word) (temperature : Option Int) (s : State) :
    Host.Outcome State Fault Refusal :=
  .next (match s.drive.inFlight with
    | none => s
    | some p =>
      if p.module = module ∧ p.number = number then s.pollMatched module opens shorts temperature else s)

end Sys2Proof.Machine
end

