-- ==== Sys2Proof/Machine/FaultMonitor.lean ====
section
/-! DEFINITION. The Fault Monitor: the fault table, debouncing and latching, conditions, module states, the restore
queue, CABINET_DARK, and the reports of one event. -/

namespace Sys2Proof.Machine

/-! ## Records and slots (R128, R129) -/

/-- A record in one of these states acts on its module (R138). -/
def RecordState.acts : RecordState → Bool
  | .suspect => false
  | _ => true

/-- The slots of the fault table. -/
def tableSlots : Nat := 64

/-- The record of a pair of scope and kind. -/
def Faults.recordOf (f : Faults) (scope : Option Nat) (k : FaultKind) : Option FaultRecord :=
  f.records.find? fun r => r.scope == scope && r.kind == k

/-- The record of a condition kind. -/
def Faults.conditionRecord (f : Faults) (k : FaultKind) : Option FaultRecord := f.recordOf none k

/-- The lowest-numbered free slot. -/
def Faults.freeSlot (f : Faults) : Option Nat :=
  (List.range tableSlots).find? fun n => !(f.records.any fun r => r.slot == n)

/-- The record in a slot. -/
def Faults.inSlot (f : Faults) (n : Nat) : Option FaultRecord := f.records.find? fun r => r.slot == n

/-- The records in increasing slot order. -/
def Faults.bySlot (f : Faults) : List FaultRecord := (List.range tableSlots).filterMap f.inSlot

/-- The records with the one in `r`'s slot replaced by `r`. -/
def Faults.replace (f : Faults) (r : FaultRecord) : Faults :=
  { f with records := f.records.map fun q => if q.slot = r.slot then r else q }

/-- The records with the one in a slot removed. -/
def Faults.remove (f : Faults) (slot : Nat) : Faults :=
  { f with records := f.records.filter fun q => q.slot != slot }

/-- The bound of the hits and misses of a record. -/
def hitsMax : Nat := 255

/-! ## Flap counters (R132) -/

/-- The place of the flap counter of a module and a module kind. -/
def flapIndex (m : Nat) (k : FaultKind) : Nat := 4 * m + (k.code - 1)

/-- The flap counter of a module and a module kind. -/
def Faults.flap (f : Faults) (m : Nat) (k : FaultKind) : Nat := f.flaps.getD (flapIndex m k) 0

/-- The faults with one flap counter set. -/
def Faults.setFlap (f : Faults) (m : Nat) (k : FaultKind) (n : Nat) : Faults :=
  { f with flaps := f.flaps.set (flapIndex m k) n }

/-- The flap count at which a record latches. -/
def flapLatch : Nat := 3

/-! ## One event of the Fault Monitor -/

/-- An event under way: the state so far, the reports handed over so far in order, and whether a record has been freed
since the unrecorded conditions were last examined. -/
structure Work where
  st : State
  reports : List Report
  freed : Bool
  deriving DecidableEq, Repr

/-- The Fault Monitor's state within an event. -/
def Work.faults (w : Work) : Faults := w.st.faults

/-- The Fault Monitor's state replaced. -/
def Work.setFaults (w : Work) (f : Faults) : Work := { w with st := { w.st with faults := f } }

/-- A report is handed over (R137). -/
def Work.say (w : Work) (r : Report) : Work := { w with reports := w.reports ++ [r] }

/-- A report of a record's transition (Table 8-5). -/
def Work.sayRecord (w : Work) (k : ReportKind) (r : FaultRecord) : Work := w.say ⟨k, some r.kind, r.scope, r.detail⟩

/-- An event of the Fault Monitor: its reports form one delivery to the Report Queue (R149). -/
def State.faultEvent (s : State) (f : Work → Work) : State :=
  let w := f ⟨s, [], false⟩
  if w.reports = [] then w.st else w.st.hand (.localReportDelivery w.reports)

/-! ## Module states (R138, R139) -/

/-- What one acting record of a module does to it: the action and the derate value of its kind (R127). -/
structure Action where
  action : Nat
  derate : Nat
  deriving DecidableEq, Repr

/-- The actions and derate values of records, read in the order listed (R127). -/
def State.readActions (s : State) : List FaultRecord → List Action × State
  | [] => ([], s)
  | r :: rs =>
    let a := s.readOrDefault .policy (27 + r.kind.code)
    let d := a.2.readOrDefault .policy (31 + r.kind.code)
    let rest := d.2.readActions rs
    (⟨a.1, d.1⟩ :: rest.1, rest.2)

/-- Some action is BLANK. -/
def blanks (as : List Action) : Bool := as.any fun a => a.action == 2

/-- The derate values of the DERATE actions. -/
def derates (as : List Action) : List Nat := (as.filter fun a => a.action == 1).map Action.derate

/-- The state of a module by the first case that applies (R138). -/
def moduleStatusOf (as : List Action) (waiting : Bool) : ModuleStatus :=
  if blanks as then ⟨.blanked, 1024⟩
  else if waiting then ⟨.restoreWait, 1024⟩
  else
    match derates as with
    | [] => .lit
    | d :: ds => ⟨.derated, ds.foldl min d⟩

/-- The restore queue once a module's actions are known: a module that blanks is not in it, and one that stops being
BLANKED joins its tail (R139). -/
def restoreQueueOf (queue : List Nat) (m : Nat) (wasBlanked blank : Bool) : List Nat :=
  if blank then queue.filter (· != m) else if wasBlanked && !queue.contains m then queue ++ [m] else queue

/-- The records of module m that act on it. -/
def Faults.acting (f : Faults) (m : Nat) : List FaultRecord :=
  f.records.filter fun r => r.scope == some m && r.state.acts

/-- Module m is BLANKED as it stands. -/
def Faults.isBlanked (f : Faults) (m : Nat) : Bool :=
  match f.modules[m]? with
  | some x => x.state == .blanked
  | none => false

/-- The state of module m is derived anew (R138), with its joining or leaving of the restore queue (R139). -/
def State.deriveModule (s : State) (m : Nat) : State :=
  let r := s.readActions (s.faults.acting m)
  let f := r.2.faults
  let queue := restoreQueueOf f.restoreQueue m (f.isBlanked m) (blanks r.1)
  { r.2 with faults := { f with
      restoreQueue := queue, modules := f.modules.set m (moduleStatusOf r.1 (queue.contains m)) } }

/-- The states of the modules numbered in the list are derived, in its order. -/
def State.deriveModules (s : State) : List Nat → State
  | [] => s
  | m :: ms => (s.deriveModule m).deriveModules ms

/-- The state of a record's module is derived anew; a record of cabinet scope has none. -/
def Work.deriveScope (w : Work) : Option Nat → Work
  | some m => { w with st := w.st.deriveModule m }
  | none => w

/-! ## Freeing and creating records (R129, R136) -/

/-- A record is freed; when it acted on its module, the module's state is derived anew. -/
def Work.free (w : Work) (r : FaultRecord) : Work :=
  let w' := { w.setFaults (w.faults.remove r.slot) with freed := true }
  if r.state.acts then w'.deriveScope r.scope else w'

/-- Room is made for a record when every slot is in use (R136). -/
def Work.makeRoom (w : Work) : Work :=
  match w.faults.freeSlot with
  | some _ => w
  | none =>
    match w.faults.records.find? fun r => r.state == .clearing with
    | some r => (w.sayRecord .cleared r).free r
    | none =>
      match w.faults.records.find? fun r => r.state == .suspect with
      | some r => w.free r
      | none => w.setFaults { w.faults with lostDetections := saturate counterMax w.faults.lostDetections }

/-- A record is put in the lowest-numbered free slot, if there is one; the record as it stands there, if so. -/
def Work.place (w : Work) (r : FaultRecord) : Option FaultRecord × Work :=
  match w.faults.freeSlot with
  | some n => (some { r with slot := n }, w.setFaults { w.faults with records := w.faults.records ++ [{ r with slot := n }] })
  | none => (none, w)

/-- A record is created, room being made for it (R136). -/
def Work.create (w : Work) (r : FaultRecord) : Option FaultRecord × Work := w.makeRoom.place r

/-! ## Debouncing (R130 to R132) -/

/-- A record enters ACTIVE, or LATCHED when its flap counter reaches 3 (R132). -/
def Work.enterActive (w : Work) (r : FaultRecord) : Work :=
  match r.scope with
  | none => (w.setFaults (w.faults.replace { r with state := .active })).sayRecord .raised r
  | some m =>
    let n := min flapLatch (w.faults.flap m r.kind + 1)
    let w := w.setFaults (w.faults.setFlap m r.kind n)
    let w :=
      if n = flapLatch then (w.setFaults (w.faults.replace { r with state := .latched })).sayRecord .latched r
      else (w.setFaults (w.faults.replace { r with state := .active })).sayRecord .raised r
    w.deriveScope r.scope

/-- A record with one detection more (R128, R130). -/
def FaultRecord.detect (r : FaultRecord) (now : Stamp) (d : Detail) : FaultRecord :=
  { r with hits := saturate hitsMax r.hits, last := now, detail := d }

/-- The confirm count N_c of a kind (R127). -/
def Work.readConfirm (w : Work) (k : FaultKind) : Nat × Work :=
  let r := w.st.readOrDefault .policy (k.code - 1)
  (r.1, { w with st := r.2 })

/-- The release count N_r of a kind (R127). -/
def Work.readRelease (w : Work) (k : FaultKind) : Nat × Work :=
  let r := w.st.readOrDefault .policy (k.code + 13)
  (r.1, { w with st := r.2 })

/-- A new record of a debounced kind (Table 8-4, first row). -/
def newRecord (e : Evaluation) (now : Stamp) : FaultRecord := ⟨0, e.module, e.kind, .suspect, 1, 0, now, now, e.detail⟩

/-- A not-detected evaluation of an ACTIVE or CLEARING record whose misses become n (Table 8-4). -/
def Work.miss (w : Work) (r : FaultRecord) (n : Nat) : Work :=
  let c := w.readRelease r.kind
  if c.1 ≤ n then (c.2.sayRecord .cleared r).free r
  else c.2.setFaults (c.2.faults.replace { r with state := .clearing, misses := n })

/-- The transitions of Table 8-4. R127 does not say whether N_c is read before or after room is made in a full table: it is read
before (DESIGN CHOICE, log entry 55). -/
def Work.debounce (w : Work) (e : Evaluation) : Work :=
  let now := w.st.stamp
  match w.faults.recordOf e.module e.kind with
  | none =>
    if e.detected then
      let c := w.readConfirm e.kind
      let p := c.2.create (newRecord e now)
      match p.1 with
      | some r => if c.1 ≤ 1 then p.2.enterActive r else p.2
      | none => p.2
    else w
  | some r =>
    match r.state, e.detected with
    | .suspect, true =>
      let c := w.readConfirm e.kind
      let r' := r.detect now e.detail
      let w' := c.2.setFaults (c.2.faults.replace r')
      if c.1 ≤ r'.hits then w'.enterActive r' else w'
    | .suspect, false => w.free r
    | .active, true => w.setFaults (w.faults.replace (r.detect now e.detail))
    | .active, false => w.miss r 1
    | .clearing, true => w.setFaults (w.faults.replace { r.detect now e.detail with state := .active, misses := 0 })
    | .clearing, false => w.miss r (saturate hitsMax r.misses)
    | .latched, _ => w

/-! ## Conditions (R133 to R135) -/

/-- A new record of a condition kind: ACTIVE from its creation (R133). -/
def conditionRecord (k : FaultKind) (d : Detail) (now : Stamp) : FaultRecord := ⟨0, none, k, .active, 1, 0, now, now, d⟩

/-- A condition's record is created with its RAISED report, if a slot is found (R133). -/
def Work.raise (w : Work) (k : FaultKind) (d : Detail) : Work :=
  let p := w.create (conditionRecord k d w.st.stamp)
  match p.1 with
  | some r => p.2.sayRecord .raised r
  | none => p.2

/-- A condition's record, if there is one, is freed with its CLEARED report (R133). -/
def Work.clear (w : Work) (k : FaultKind) : Work :=
  match w.faults.conditionRecord k with
  | some r => (w.sayRecord .cleared r).free r
  | none => w

/-- A condition found present again: the hits and last seen of its record (R133). -/
def Work.refresh (w : Work) (k : FaultKind) : Work :=
  match w.faults.conditionRecord k with
  | some r => w.setFaults (w.faults.replace (r.detect w.st.stamp r.detail))
  | none => w

/-- The flag of a condition is set or cleared. -/
def Work.setFlag (w : Work) (c : Condition) (b : Bool) : Work :=
  w.setFaults { w.faults with flags := w.faults.flags.set c b }

/-- What the start or the end of a condition does at the Dimming Controller: CABINET_DARK alone acts there (R142). -/
def Work.tellDimming (w : Work) (c : Condition) (present : Bool) : Work :=
  match c with
  | .cabinetDark => { w with st := if present then w.st.darkAtOnce else w.st.recompute }
  | _ => w

/-- A condition handed over as present or ended (R133). -/
def Work.condition (w : Work) (c : Condition) (present : Bool) : Work :=
  match present, w.faults.flags.get c with
  | true, false => ((w.setFlag c true).tellDimming c true).raise c.kind .absent
  | true, true => w.refresh c.kind
  | false, true => ((w.setFlag c false).tellDimming c false).clear c.kind
  | false, false => w

/-- The affected tables in code order, with one added. -/
def affectedWith (ts : List Table) (t : Table) : List Table := Table.all.filter fun x => x == t || ts.contains x

/-- The TABLE_ECC record takes a detail. -/
def Work.setEccDetail (w : Work) (t : Table) : Work :=
  match w.faults.conditionRecord .tableEcc with
  | some r => w.setFaults (w.faults.replace { r with detail := .table t })
  | none => w

/-- A present naming a table not in the set (R134). -/
def Work.eccNew (w : Work) (t : Table) : Work :=
  let w := w.setFaults { w.faults with affected := affectedWith w.faults.affected t }
  match w.faults.conditionRecord .tableEcc with
  | some r =>
    let r' := r.detect w.st.stamp (.table t)
    (w.setFaults (w.faults.replace r')).sayRecord .raised r'
  | none => w.raise .tableEcc (.table t)

/-- An end naming a table in the set (R134). -/
def Work.eccEnd (w : Work) (t : Table) : Work :=
  let w := w.setFaults { w.faults with affected := w.faults.affected.filter (· != t) }
  match w.faults.affected with
  | [] => (w.setEccDetail t).clear .tableEcc
  | x :: _ => w.setEccDetail x

/-- A TABLE_ECC delivery (R134). A present for a table whose active bank carries no bad mark changes nothing. -/
def Work.tableEcc (w : Work) (t : Table) (present : Bool) : Work :=
  if present then
    if (w.st.table t).bad.isEmpty then w
    else if w.faults.affected.contains t then w.refresh .tableEcc
    else w.eccNew t
  else if w.faults.affected.contains t then w.eccEnd t
  else w

/-- The condition kinds in order of kind code. -/
def conditionKinds : List FaultKind := [.streamLost, .tableEcc, .clockUnset, .storeInvalid, .cabinetDark]

/-- A condition kind is present, with the detail its record takes when it is recorded now (R133 to R135). -/
def Faults.presentCondition (f : Faults) : FaultKind → Option Detail
  | .streamLost => if f.flags.streamLost then some .absent else none
  | .tableEcc => f.affected.head?.map Detail.table
  | .clockUnset => if f.flags.clockUnset then some .absent else none
  | .storeInvalid => if f.flags.storeInvalid then some .absent else none
  | .cabinetDark => if f.flags.cabinetDark then some .absent else none
  | _ => none

/-- One unrecorded condition takes a free slot, if there is one (R135). -/
def Work.recordCondition (w : Work) (k : FaultKind) : Work :=
  match w.faults.presentCondition k, w.faults.conditionRecord k with
  | some d, none =>
    let p := w.place (conditionRecord k d w.st.stamp)
    match p.1 with
    | some r => p.2.sayRecord .raised r
    | none => p.2
  | _, _ => w

/-- Once a record has been freed, the unrecorded conditions take free slots, in order of kind code (R135). -/
def Work.recordConditions (w : Work) : Work :=
  if w.freed then { conditionKinds.foldl Work.recordCondition w with freed := false } else w

/-! ## The restore queue and CABINET_DARK (R140, R142) -/

/-- The admissions that the history holds at most, and the age at which one leaves it. -/
def historyMax : Nat := 4

/-- The rolling window of the restore history, in ms. -/
def restoreWindow : Nat := 30000

/-- The evaluation of CABINET_DARK (R142). -/
def Work.evaluateDark (w : Work) : Work :=
  let b := w.st.readOrDefault .limits 6
  let w := { w with st := b.2 }
  if b.1 ≤ w.faults.blankedCount then
    if w.faults.flags.cabinetDark then w else w.condition .cabinetDark true
  else w.condition .cabinetDark false

/-- One admission, in the five steps of R140: the head leaves the queue, is entered in the history, its state is derived,
RESTORED is handed over, and CABINET_DARK is evaluated (log entry 20). -/
def Work.admitHead (w : Work) (m : Nat) : Work :=
  let f := w.faults
  let w := w.setFaults { f with restoreQueue := f.restoreQueue.tail, history := f.history ++ [w.st.now] }
  (({ w with st := w.st.deriveModule m }).say ⟨.restored, none, some m, .absent⟩).evaluateDark

/-- The check of admission (R140), repeated at most as often as the history can take entries. -/
def Work.admitAll (w : Work) : Nat → Work
  | 0 => w
  | n + 1 =>
    match w.faults.restoreQueue with
    | m :: _ => if w.faults.history.length < historyMax then (w.admitHead m).admitAll n else w
    | [] => w

/-- What follows the transitions of one evaluation (R137), `before` being the blanked count that they found: the admissions
they allow, each with its own evaluation of CABINET_DARK (R140); the evaluation for the transitions where they changed the
count (R142), whose record may evict one and so allow an admission (R136, R139); and the records of R135. In an event of
several evaluations or freed records these come after each of them, as R124, R137 and R144 have it, and not after the last, as
the words of R135 could be read (DEDUCED, log entry 50). -/
def Work.settle (w : Work) (before : Nat) : Work :=
  let a := w.admitAll historyMax
  let d := if w.faults.blankedCount = before then a else a.evaluateDark
  (d.admitAll historyMax).recordConditions

/-- A change of the fault table carried through whole (R124, R137). -/
def Work.carry (w : Work) (f : Work → Work) : Work := (f w).settle w.faults.blankedCount

/-- One evaluation of a delivery (R124): of a module kind for a module that does not exist it is discarded. -/
def Work.evaluation (w : Work) (e : Evaluation) : Work :=
  match e.module with
  | some m => if m < w.faults.modules.length then w.carry fun w => w.debounce e else w
  | none => w.carry fun w => w.debounce e

/-! ## Requests (R143, R144) -/

/-- The records FAULT-READ returns at most. -/
def faultReadMax : Nat := 4

/-- A record as FAULT-READ returns it. -/
def Faults.entryOf (f : Faults) (r : FaultRecord) : FaultEntry :=
  ⟨r, severityOf r.kind, match r.scope with | some m => some (f.flap m r.kind) | none => none⟩

/-- The occupied slots numbered at or above a cursor, as records in slot order. -/
def Faults.fromCursor (f : Faults) (cursor : Nat) : List FaultRecord := f.bySlot.filter fun r => cursor ≤ r.slot

/-- The payload of FAULT-READ (R143). -/
def Faults.readPayload (f : Faults) (cursor : Nat) : Payload :=
  let rs := f.fromCursor cursor
  let shown := rs.take faultReadMax
  let more := faultReadMax < rs.length
  .faults f.records.length (shown.map f.entryOf) more
    (if more then match shown.getLast? with | some r => r.slot + 1 | none => 0 else 0)

/-- FAULT-READ carried out (R143). -/
def faultRead (args : List Byte) (s : State) : Answer × State :=
  match faultReadArgs args with
  | none => (refusal .badArgs, s)
  | some cursor => (⟨.ok, s.faults.readPayload cursor⟩, s)

/-- A LATCHED record is freed with its CLEARED report, and its flap counter becomes 0 (R144). It is carried through whole, with
the records of R135, before the next LATCHED record of the same request (DEDUCED, log entry 50). -/
def Work.clearLatched (w : Work) (r : FaultRecord) : Work :=
  w.carry fun w =>
    let w := match r.scope with
      | some m => w.setFaults (w.faults.setFlap m r.kind 0)
      | none => w
    (w.sayRecord .cleared r).free r

/-- The LATCHED records in increasing slot order. -/
def Faults.latchedRecords (f : Faults) : List FaultRecord := f.bySlot.filter fun r => r.state == .latched

/-- FAULT-CLEAR carried out (R144). -/
def faultClear (args : List Byte) (s : State) : Answer × State :=
  match faultClearArgs args with
  | none => (refusal .badArgs, s)
  | some (.named m k) =>
    match s.faults.recordOf (some m) k with
    | some r =>
      if r.state = .latched then (⟨.ok, .cleared 1⟩, s.faultEvent fun w => w.clearLatched r) else (refusal .notFound, s)
    | none => (refusal .notFound, s)
  | some .allLatched =>
    (⟨.ok, .cleared s.faults.latchedRecords.length⟩,
      s.faultEvent fun w => s.faults.latchedRecords.foldl Work.clearLatched w)

/-! ## Swaps (R138, R142, R146) -/

/-- The records of a module that a LAYOUT swap removes are freed: those in SUSPECT without a report, the others with a
CLEARED report, in increasing slot order (R146, steps 1 and 2). -/
def Work.removeRecords (w : Work) (m : Nat) : Work :=
  let rs := w.faults.bySlot.filter fun r => r.scope == some m
  let gone (w : Work) (r : FaultRecord) : Work := { w.setFaults (w.faults.remove r.slot) with freed := true }
  let w := (rs.filter fun r => !r.state.acts).foldl gone w
  (rs.filter fun r => r.state.acts).foldl (fun w r => gone (w.sayRecord .cleared r) r) w

/-- A module removed by a LAYOUT swap (R146, steps 1 to 4). -/
def Work.removeModule (w : Work) (m : Nat) : Work :=
  let w := w.removeRecords m
  let f := FaultKind.moduleKinds.foldl (fun f k => f.setFlap m k 0) w.faults
  w.setFaults { f with restoreQueue := f.restoreQueue.filter (· != m) }

/-- The modules that the part can have. -/
def moduleMax : Nat := 32

/-- The Fault Monitor at a LAYOUT swap that leaves n modules (R146). The modules left are derived in increasing number, which is
then the order in which they join the restore queue (R146 and R139 give none; DESIGN CHOICE, log entry 45). -/
def Work.layoutSwap (n : Nat) (w : Work) : Work :=
  let w := ((List.range moduleMax).filter fun m => n ≤ m).foldl Work.removeModule w
  let f := w.faults
  let w := w.setFaults { f with modules := (List.range n).map fun m => f.modules.getD m .lit }
  let w := { w with st := w.st.deriveModules (List.range n) }
  let w := (w.admitAll historyMax).recordConditions.evaluateDark
  w.settle w.faults.blankedCount

/-- The Fault Monitor at a LAYOUT swap (R146). -/
def State.faultLayoutSwap (s : State) : State := s.faultEvent (Work.layoutSwap s.drive.geometry.modules)

/-- The Fault Monitor at a POLICY swap: every module's state is derived (R138), in increasing module number, which is then
the order in which modules join the restore queue (R139 gives none; log entry 45). -/
def State.faultPolicySwap (s : State) : State :=
  s.faultEvent fun w => w.carry fun w => { w with st := w.st.deriveModules (List.range w.faults.modules.length) }

/-- The Fault Monitor at a LIMITS swap: CABINET_DARK is evaluated (R142). -/
def State.faultLimitsSwap (s : State) : State := s.faultEvent fun w => w.carry Work.evaluateDark

/-! ## The commands of the Fault Monitor -/

/-- FAULT_EVALUATION_DELIVERY (R124, R130): the evaluations in their order, each carried through whole; none before
start-up completes (R191, log entry 29). -/
def execFaultEvaluationDelivery (evaluations : List Evaluation) (s : State) : Host.Outcome State Fault Refusal :=
  let s := s.take (.faultEvaluationDelivery evaluations)
  .next (if s.started then s.faultEvent fun w => evaluations.foldl Work.evaluation w else s)

/-- CONDITION_DELIVERY (R133), none before start-up completes (R191, log entry 29). -/
def execConditionDelivery (condition : Condition) (present : Bool) (s : State) : Host.Outcome State Fault Refusal :=
  let s := s.take (.conditionDelivery condition present)
  .next (if s.started then s.faultEvent fun w => w.carry fun w => w.condition condition present else s)

/-- TABLE_ECC_DELIVERY (R134), none before start-up completes (R191, log entry 29). -/
def execTableEccDelivery (t : Table) (present : Bool) (s : State) : Host.Outcome State Fault Refusal :=
  let s := s.take (.tableEccDelivery t present)
  .next (if s.started then s.faultEvent fun w => w.carry fun w => w.tableEcc t present else s)

/-- The oldest entry of the restore history has reached the age at which it leaves (R140). -/
def State.windowDue (s : State) : Bool :=
  match s.faults.history with
  | c :: _ => restoreWindow ≤ (s.now - c).toNat
  | [] => false

/-- RESTORE_WINDOW_EXPIRY (R140): the oldest entry leaves the history, and modules are admitted. -/
def execRestoreWindowExpiry (s : State) : Host.Outcome State Fault Refusal :=
  .next (if s.windowDue then
    s.faultEvent fun w => w.carry fun w => w.setFaults { w.faults with history := w.faults.history.tail }
  else s)

/-- FAULT-READ (R143). -/
def execFaultRead (head : MgmtHead) (args : List Byte) (s : State) : Host.Outcome State Fault Refusal :=
  .next (s.request head 0x0D args (faultRead args))

/-- FAULT-CLEAR (R144). -/
def execFaultClear (head : MgmtHead) (args : List Byte) (s : State) : Host.Outcome State Fault Refusal :=
  .next (s.request head 0x0E args (faultClear args))

end Sys2Proof.Machine
end

