-- ==== Sys2Proof/Machine/Stream.lean ====
section
/-! DEFINITION. Stream Supervision: the stream states, their timers, local ticks, and the link evaluations. -/

namespace Sys2Proof.Machine

/-! ## Timers and state changes -/

/-- The SYNC timeout is started afresh with Ts as read now (R113, R118). -/
def State.startTimeout (s : State) : State :=
  let r := s.readOrDefault .limits 7
  { r.2 with stream := { r.2.stream with timeout := some (s.timer r.1) } }

/-- The local tick timer is started from a count, with the period read now (R116, R118). -/
def State.startLocalTick (s : State) (start : Count) : State :=
  let r := s.readOrDefault .limits 9
  { r.2 with stream := { r.2.stream with localTick := some ⟨start, r.1⟩ } }

/-- The stream state changes, and the Dimming Controller recomputes T where that starts or ends a forced-dark condition
(R68, R70); across a change between DARKENING and DARK the condition continues, and nothing is recomputed (R112). -/
def State.setStream (s : State) (x : StreamState) : State :=
  let s' := { s with stream := { s.stream with state := x } }
  if s.stream.state.forcesDark = x.forcesDark then s' else s'.recompute

/-- The entry to DARKENING (R115): with L at 0 the state passes on to DARK at once. -/
def State.enterDarkening (s : State) : State :=
  let s' := (s.setStream .darkening).startLocalTick s.now
  if s.dimming.level = 0 then s'.setStream .dark else s'

/-! ## The commands of Stream Supervision -/

/-- STREAM_SYNC (R113). -/
def execStreamSync (s : State) : Host.Outcome State Fault Refusal :=
  let s := s.take .streamSync
  .next (if s.started then
    let s := { s with stream := { s.stream with lastSync := some s.now } }
    let s := s.startTimeout
    if s.stream.state = .live then s
    else
      ({ s with stream := { s.stream with hold := none, localTick := none } }.setStream .live).hand
        (.conditionDelivery .streamLost false)
  else s)

/-- SYNC_TIMEOUT_EXPIRY (R114): the stream is lost; an expiry of a timer that does not run or is not due does nothing
(log entry 12). -/
def execSyncTimeoutExpiry (s : State) : Host.Outcome State Fault Refusal :=
  .next (if s.stream.state = .live ∧ timerDue s.stream.timeout s.now = true then
    let s := { s with stream := { s.stream with timeout := none } }
    let th := s.readOrDefault .limits 8
    let s := th.2
    let s :=
      if th.1 = 0 then s.enterDarkening
      else { s with stream := { s.stream with hold := some (s.timer (th.1 * 1000)) } }.setStream .holding
    s.hand (.conditionDelivery .streamLost true)
  else s)

/-- HOLD_EXPIRY (R115). -/
def execHoldExpiry (s : State) : Host.Outcome State Fault Refusal :=
  .next (if s.stream.state = .holding ∧ timerDue s.stream.hold s.now = true then
    { s with stream := { s.stream with hold := none } }.enterDarkening
  else s)

/-- A local tick is delivered to the Dimming Controller and to the Drive Port, as one event of each (R116, step 1); the
controller's is noted with the stream state of its delivery (R72). -/
def State.deliverLocalTick (s : State) : State :=
  ({ s with stream := { s.stream with ticks := s.stream.ticks ++ [s.stream.state] } }.hand .dimmingLocalTick).hand
    .sweepCountLocalTick

/-- LOCAL_TICK_EXPIRY (R116): a local tick is delivered, and the timer restarts from the count at which it expired. -/
def execLocalTickExpiry (s : State) : Host.Outcome State Fault Refusal :=
  .next (match s.stream.localTick with
    | none => s
    | some t =>
      if t.expired s.now then
        s.deliverLocalTick.startLocalTick (t.start + BitVec.ofNat 32 t.duration)
      else s)

/-- L_ZERO_NOTICE (R117): DARKENING becomes DARK; the local tick timer keeps running. -/
def execLZeroNotice (s : State) : Host.Outcome State Fault Refusal :=
  let s := s.take .lZeroNotice
  .next (if s.stream.state = .darkening then s.setStream .dark else s)

/-- The evaluation of DOWNSTREAM_DOWN: D is DOWN and has been UP (R121). -/
def downstreamEvaluation (l : Link) : Evaluation := ⟨.downstreamDown, none, !l.upD && l.dHasBeenUp, .absent⟩

/-- The evaluation of LINK_CRC against the threshold, none where its entry is bad (R120). -/
def linkCrcEvaluation (failures : Nat) : Option Nat → List Evaluation
  | some threshold => [⟨.linkCrc, none, decide (threshold ≤ failures), .absent⟩]
  | none => []

/-- SECOND_EVENT_LINK (R3, R120, R121): the tally is handed over and restarts, and the two evaluations are made as one
delivery (log entry 21). -/
def execSecondEventLink (s : State) : Host.Outcome State Fault Refusal :=
  let s := s.take .secondEventLink
  .next (if s.started then
    let failures := s.link.uFailures
    let s := { s with link := { s.link with uFailures := 0 } }
    let r := s.readEntry .policy 38
    r.2.hand (.faultEvaluationDelivery (linkCrcEvaluation failures r.1 ++ [downstreamEvaluation s.link]))
  else s)

end Sys2Proof.Machine
end

