-- ==== Sys2Proof/Machine/TimeBase.lean ====
section
/-! DEFINITION. The Time Base: the millisecond step, the clock and its setting, drift compensation, and the ceiling. -/

namespace Sys2Proof.Machine

/-! ## The clock (R85, R87) -/

/-- The milliseconds of a minute. -/
def minuteMs : Nat := 60000

/-- The minutes of a day. -/
def dayMinutes : Nat := 1440

/-- The bound at which the compensation accumulator brings a compensated step (R87). -/
def compensationBound : Nat := 1000000

/-- An advance of the clock by some milliseconds, with its rollover (R85). -/
def TimeBase.advance (t : TimeBase) (amount : Nat) : TimeBase :=
  if t.ms + amount < minuteMs then { t with ms := t.ms + amount }
  else if t.minute + 1 < dayMinutes then { t with ms := t.ms + amount - minuteMs, minute := t.minute + 1 }
  else
    { t with ms := t.ms + amount - minuteMs, minute := 0, weekday := if t.weekday < 7 then t.weekday + 1 else 1 }

/-- The step is a compensated step (R87). -/
def TimeBase.compensated (t : TimeBase) : Bool := compensationBound ≤ t.accumulator + t.drift.natAbs

/-- The milliseconds by which the clock advances at this step (R87). -/
def TimeBase.stepAdvance (t : TimeBase) : Nat :=
  if t.compensated then if 0 < t.drift then 2 else if t.drift < 0 then 0 else 1 else 1

/-- The accumulator after this step (R87). -/
def TimeBase.stepAccumulator (t : TimeBase) : Nat :=
  if t.compensated then t.accumulator + t.drift.natAbs - compensationBound else t.accumulator + t.drift.natAbs

/-- The millisecond step (R84): the count, the accumulator and the clock. -/
def TimeBase.step (t : TimeBase) : TimeBase :=
  ({ t with count := t.count + 1, accumulator := t.stepAccumulator }).advance t.stepAdvance

/-- The step's advance reaches or passes a multiple of 1000 ms (R86). -/
def TimeBase.crossesSecond (t : TimeBase) : Bool := t.ms / 1000 < (t.ms + t.stepAdvance) / 1000

/-- The step's advance rolls the minute over (R86). -/
def TimeBase.crossesMinute (t : TimeBase) : Bool := minuteMs ≤ t.ms + t.stepAdvance

/-! ## The ceiling (R93 to R95) -/

/-- The ceiling while the clock is unset, U_c (R94); none where the entry is bad. -/
def State.readUnsetCeiling (s : State) : Option Nat × State := s.readEntry .limits 3

/-- One SCHEDULE entry as the evaluation reads it: each value none where its entry is bad. -/
structure ScheduleEntry where
  start : Option Nat
  weekdays : Option Nat
  ceiling : Option Nat
  deriving DecidableEq, Repr

/-- Values read, three by three, as SCHEDULE entries. -/
def scheduleEntries : List (Option Nat) → List ScheduleEntry
  | a :: b :: c :: rest => ⟨a, b, c⟩ :: scheduleEntries rest
  | _ => []

/-- The least of some numbers, 0 where there are none. -/
def leastOf : List Nat → Nat
  | [] => 0
  | a :: rest => rest.foldl min a

/-- The substitute ceiling (R95): the least of the good ceilings, 0 where none is good. -/
def substituteCeiling (dflt : Option Nat) (es : List ScheduleEntry) : Nat :=
  leastOf ((dflt :: es.map ScheduleEntry.ceiling).filterMap id)

/-- The entry is a candidate (R93): its weekday set contains the weekday and its start minute is at or before the
minute. An entry with a bad start minute or weekday set is none (R95). -/
def ScheduleEntry.candidate (weekday minute : Nat) (e : ScheduleEntry) : Bool :=
  match e.start, e.weekdays with
  | some start, some days => days.testBit (weekday - 1) && start ≤ minute
  | _, _ => false

/-- A bad start minute or weekday set (R95). -/
def ScheduleEntry.unplaced (e : ScheduleEntry) : Bool := e.start.isNone || e.weekdays.isNone

/-- The candidate with the latest start minute, with its number, over entries numbered from `j` on. -/
def latestCandidate (weekday minute : Nat) (best : Option (Nat × ScheduleEntry)) : Nat → List ScheduleEntry → Option (Nat × ScheduleEntry)
  | _, [] => best
  | j, e :: es =>
    let better := match best with
      | none => true
      | some b => b.2.start.getD 0 < e.start.getD 0
    latestCandidate weekday minute (if e.candidate weekday minute && better then some (j, e) else best) (j + 1) es

/-- The ceiling and its source that the values read give (R93, R95). Where a bad start minute or weekday set makes the
substitute the lesser, R95 does not say which source is shown: it stays the ENTRY j or DEFAULT of R93's value (DESIGN CHOICE,
log entry 53). -/
def ceilingOf (weekday minute : Nat) (dflt : Option Nat) (es : List ScheduleEntry) : Nat × CeilingSource :=
  let sub := substituteCeiling dflt es
  let found := match latestCandidate weekday minute none 0 es with
    | some (j, e) => (e.ceiling.getD sub, CeilingSource.entry j)
    | none => (dflt.getD sub, CeilingSource.default)
  (if es.any ScheduleEntry.unplaced then min found.1 sub else found.1, found.2)

/-- The evaluation of C while the clock is unset (R94). -/
def State.unsetCeiling (s : State) : (Nat × CeilingSource) × State :=
  let r := s.readUnsetCeiling
  (match r.1 with | some u => (u, .unset) | none => (0, .unreadable), r.2)

/-- The evaluation of C from SCHEDULE (R93, R95). A bad entry count ends the reading of the bank (log entry 24). -/
def State.scheduledCeiling (s : State) : (Nat × CeilingSource) × State :=
  let n := s.readEntry .schedule 0
  match n.1 with
  | none =>
    let u := n.2.readUnsetCeiling
    ((u.1.getD 0, .unreadable), u.2)
  | some count =>
    let r := n.2.readEntries .schedule ((List.range (1 + 3 * count)).map (· + 1))
    (ceilingOf s.time.weekday s.time.minute (r.1.headD none) (scheduleEntries r.1.tail), r.2)

/-- C and its source take the values of an evaluation made now (R93, R94). -/
def State.evaluateCeiling (s : State) : State :=
  let r := if s.time.clockSet then s.scheduledCeiling else s.unsetCeiling
  { r.2 with time := { r.2.time with ceiling := r.1.1, source := r.1.2 } }

/-- An evaluation of C, its change handed to the Dimming Controller (R96). -/
def State.ceilingEvent (s : State) : State :=
  let s' := s.evaluateCeiling
  if s'.time.ceiling = s.time.ceiling then s' else s'.ceilingChange s'.time.ceiling

/-- The evaluation of a start-up or a soft reset: C is handed over as the ceiling held after reset, whatever its
value (R96). -/
def State.resetCeiling (s : State) : State :=
  let s := s.evaluateCeiling
  { s with dimming := { s.dimming with ceiling := s.time.ceiling } }

/-! ## TIME-SET and DRIFT-SET -/

/-- TIME-SET carried out (R89). -/
def timeSet (args : List Byte) (s : State) : Answer × State :=
  match timeSetArgs args with
  | none => (refusal .badArgs, s)
  | some (weekday, minute, ms) =>
    let wasSet := s.time.clockSet
    let s := { s with time := { s.time with weekday := weekday, minute := minute, ms := ms, clockSet := true } }
    let s := if wasSet then s else s.hand (.conditionDelivery .clockUnset false)
    let s := s.ceilingEvent
    (⟨.ok, .clock weekday minute ms true s.time.ceiling⟩, s)

/-- The largest magnitude of the drift. -/
def driftMax : Int := 500

/-- A drift clamped to −500..+500 (R88). -/
def clampDrift (d : Int) : Int := max (-driftMax) (min driftMax d)

/-- DRIFT-SET carried out (R88). -/
def driftSet (args : List Byte) (s : State) : Answer × State :=
  match driftSetArgs args with
  | none => (refusal .badArgs, s)
  | some d => (⟨.ok, .drift (clampDrift d)⟩, { s with time := { s.time with drift := clampDrift d, accumulator := 0 } })

/-! ## The commands of the Time Base -/

/-- A second event is handed to the Link Interface and to the Report Queue (R86). -/
def State.secondEvent (s : State) : State := (s.hand .secondEventLink).hand .summaryCountAdvance

/-- A minute event is handed to the Time Base's own evaluation and to the override countdown (R86). -/
def State.minuteEvent (s : State) : State := (s.hand .minuteEventCeiling).hand .overrideMinute

/-- MILLISECOND_STEP (R84 to R87). The events raised before start-up completes are not taken by any block (R191). -/
def execMillisecondStep (s : State) : Host.Outcome State Fault Refusal :=
  let s' := { s with time := s.time.step }
  let s' := if s.started && s.time.crossesSecond then s'.secondEvent else s'
  .next (if s.started && s.time.crossesMinute then s'.minuteEvent else s')

/-- MINUTE_EVENT_CEILING (R96): C is evaluated; before start-up completes there is no evaluation. -/
def execMinuteEventCeiling (s : State) : Host.Outcome State Fault Refusal :=
  let s := s.take .minuteEventCeiling
  .next (if s.started then s.ceilingEvent else s)

/-- TIME-SET (R89). -/
def execTimeSet (head : MgmtHead) (args : List Byte) (s : State) : Host.Outcome State Fault Refusal :=
  .next (s.request head 0x08 args (timeSet args))

/-- DRIFT-SET (R88). -/
def execDriftSet (head : MgmtHead) (args : List Byte) (s : State) : Host.Outcome State Fault Refusal :=
  .next (s.request head 0x09 args (driftSet args))

end Sys2Proof.Machine
end

