-- ==== Sys2Proof/Machine/TableStore.lean ====
section
/-! DEFINITION. The Table Store: its five requests and the swaps made at a good SYNC. -/

namespace Sys2Proof.Machine

/-! ## TABLE-WRITE (R170) -/

/-- Values stored into a bank from an index on. -/
def storeValues (bank : List Word) (first : Nat) (values : List Word) : List Word :=
  bank.take first ++ values ++ bank.drop (first + values.length)

/-- The damage marks left once the indices from `first` on, `count` of them, are written. -/
def marksAfterWrite (damage : List Nat) (first count : Nat) : List Nat :=
  damage.filter fun i => i < first || first + count ≤ i

/-- The indices, counted from `i`, whose read yielded no value. -/
def lostIndices : Nat → List (Option Nat) → List Nat
  | _, [] => []
  | i, none :: rest => i :: lostIndices (i + 1) rest
  | i, some _ :: rest => lostIndices (i + 1) rest

/-- The shadow takes contents of its own as a copy of the active bank, bad entries copied as damaged (R170, step 1); a
shadow with contents keeps them. -/
def State.openShadow (s : State) (t : Table) : State :=
  match (s.table t).shadow with
  | .clean =>
    let r := s.readEntries t (List.range t.size)
    r.2.setTable t { r.2.table t with
      shadow := .editing (r.1.map fun v => BitVec.ofNat 16 (v.getD 0)) (lostIndices 0 r.1) }
  | _ => s

/-- The values are stored into an EDITING shadow (R170, steps 2 and 3). -/
def State.storeShadow (s : State) (t : Table) (first : Nat) (values : List Word) : State :=
  match (s.table t).shadow with
  | .editing bank damage =>
    s.setTable t { s.table t with
      shadow := .editing (storeValues bank first values) (marksAfterWrite damage first values.length) }
  | _ => s

/-- The index range lies beyond the table (R170, R171). -/
def Table.beyond (t : Table) (first count : Nat) : Bool := t.size < first + count

/-- TABLE-WRITE carried out (R170). -/
def tableWrite (args : List Byte) (s : State) : Answer × State :=
  match tableWriteArgs args with
  | none => (refusal .badArgs, s)
  | some (t, first, values) =>
    if Table.beyond t first values.length then (refusal .range, s)
    else if Table.lockable t && s.tables.lock then (refusal .locked, s)
    else if (s.table t).shadow.isPosted then (refusal .busy, s)
    else
      let s := (s.openShadow t).storeShadow t first values
      (⟨.ok, .written t.code first values.length (s.table t).shadow.damage.length⟩, s)

/-! ## TABLE-READ (R171) -/

/-- An entry as TABLE-READ returns it. -/
def ReadResult.marked : ReadResult → Word × EntryMark
  | .good v => (v, .good)
  | .corrected v => (v, .corrected)
  | .bad => (0, .bad)

/-- The reads of a bank that a request names. -/
def State.readBank (s : State) (t : Table) (b : BankName) (is : List Nat) : List ReadResult × State :=
  match b with
  | .active => s.readResults t is
  | .shadow => s.readShadows t is

/-- TABLE-READ carried out (R171). -/
def tableRead (args : List Byte) (s : State) : Answer × State :=
  match tableReadArgs args with
  | none => (refusal .badArgs, s)
  | some (t, b, first, count) =>
    if Table.beyond t first count then (refusal .range, s)
    else
      let r := s.readBank t b ((List.range count).map (first + ·))
      let k := r.2.table t
      (⟨.ok, .entries t.code b.code first count k.shadow.name k.generation k.shadow.e (r.1.map ReadResult.marked)⟩, r.2)

/-! ## TABLE-COMMIT (R172) -/

/-- What the first stage of validation finds: the index of the first damaged entry, or every value. -/
inductive StageOne where
  | damaged (i : Nat)
  | values (vs : List Word)
  deriving DecidableEq, Repr

/-- A value in front of those read after it. -/
def StageOne.push (v : Word) : StageOne → StageOne
  | .damaged i => .damaged i
  | .values vs => .values (v :: vs)

/-- Stage 1 over the indices listed: shadow entries are read in order up to the first damaged one (R172). -/
def State.stageOne (s : State) (t : Table) : List Nat → StageOne × State
  | [] => (.values [], s)
  | i :: is =>
    let r := s.readShadow t i
    match r.1.value with
    | none => (.damaged i, r.2)
    | some v =>
      let rest := r.2.stageOne t is
      (rest.1.push v, rest.2)

/-- Validation and posting of an EDITING shadow (R172, check 6). -/
def State.validateShadow (s : State) (t : Table) (e : Word) : Answer × State :=
  let r := s.stageOne t (List.range t.size)
  match r.1 with
  | .damaged i => (⟨.invalid, .invalid i .damaged⟩, r.2)
  | .values vs =>
    match validate t vs with
    | some i => (⟨.invalid, .invalid i .check⟩, r.2)
    | none =>
      (⟨.posted, .posted e ((r.2.table t).generation + 1)⟩, r.2.setTable t { r.2.table t with shadow := .posted vs e })

/-- TABLE-COMMIT carried out (R172). -/
def tableCommit (args : List Byte) (s : State) : Answer × State :=
  match tableCommitArgs args with
  | none => (refusal .badArgs, s)
  | some (t, e) =>
    if Table.lockable t && s.tables.lock then (refusal .locked, s)
    else if s.saving then (refusal .busy, s)
    else
      match (s.table t).shadow with
      | .clean => (⟨.ok, .nothingToCommit (s.table t).generation⟩, s)
      | .posted _ _ => (refusal .busy, s)
      | .editing _ _ => s.validateShadow t e

/-! ## TABLE-ABANDON and CEILING-LOCK (R175, R176) -/

/-- The shadow gives up its contents and its marks (R175). -/
def State.abandonShadow (s : State) (t : Table) : State := s.setTable t { s.table t with shadow := .clean }

/-- TABLE-ABANDON carried out (R175). -/
def tableAbandon (args : List Byte) (s : State) : Answer × State :=
  match tableAbandonArgs args with
  | none => (refusal .badArgs, s)
  | some t => (⟨.ok, .abandoned (s.table t).shadow.name⟩, s.abandonShadow t)

/-- The tables under the lock whose shadow has contents. -/
def State.lockedShadows (s : State) : List Table :=
  [.schedule, .limits].filter fun t => (s.table t).shadow.name != .clean

/-- CEILING-LOCK carried out (R176). -/
def ceilingLock (args : List Byte) (s : State) : Answer × State :=
  if noArgs args then
    if s.tables.lock then (⟨.ok, .locked true 0⟩, s)
    else
      let s' := s.lockedShadows.foldl State.abandonShadow s
      (⟨.ok, .locked false s.lockedShadows.length⟩, { s' with tables := { s'.tables with lock := true } })
  else (refusal .badArgs, s)

/-! ## Swaps (R173, R174) -/

/-- A frame number at or behind the effective frame of a post makes it due (R173). -/
def isDue (frame e : Word) : Bool := (frame - e).toNat < 32768

/-- The store-invalid flag is cleared and the end of STORE_INVALID handed over, if the flag was set (R192). -/
def State.endStoreInvalid (s : State) : State :=
  if s.agent.storeInvalid then
    { s with agent := { s.agent with storeInvalid := false } }.hand (.conditionDelivery .storeInvalid false)
  else s

/-- For LAYOUT, the layout-missing flag is cleared and the Management Agent is told of the swap (R174, step 5). -/
def State.layoutTold (s : State) : State :=
  { s with tables := { s.tables with layoutMissing := false } }.endStoreInvalid

/-- The blocks that act at a table's swap (R174, step 7). The Fault Monitor's reports of one swap form one delivery, and those
of another swap at the same SYNC another (DESIGN CHOICE, log entry 46). -/
def State.actAtSwap (s : State) : Table → State
  | .layout =>
    let old := s.drive.geometry.modules
    let s := s.driveLayoutSwap
    let s := { s with capture := s.capture.layoutSwap }
    let s := { s with trims := zeroRemovedTrims s.trims old s.drive.geometry.modules }
    s.faultLayoutSwap
  | .ambient => s.recompute
  | .schedule => s.ceilingEvent
  | .limits => s.ceilingEvent.recompute.faultLimitsSwap
  | .policy => s.faultPolicySwap
  | .gamma => s
  | .calibration => s
  | .groups => s

/-- Steps 1 to 3 of a swap (R174): the bank becomes active, the shadow CLEAN, the generation one more. -/
def TableRec.swapped (r : TableRec) (bank : List Word) : TableRec := ⟨bank, .clean, r.generation + 1, []⟩

/-- Step 4 of a swap (R174): the end of TABLE_ECC is handed over when the discarded bank carried bad marks. -/
def State.endTableEcc (s : State) (t : Table) (marks : List Nat) : State :=
  if marks.isEmpty then s else s.hand (.tableEccDelivery t false)

/-- A swap of one table (R174). The end of UNCONFIGURED changes nothing at Frame Capture (R40). -/
def State.swapTable (s : State) (t : Table) (bank : List Word) : State :=
  let s' := (s.setTable t ((s.table t).swapped bank)).endTableEcc t (s.table t).bad
  let s' := if t = .layout then s'.layoutTold else s'
  let s' := if s.unconfigured && !s'.unconfigured then s'.recompute else s'
  s'.actAtSwap t

/-- A table swaps when it is POSTED and due (R173). -/
def State.swapIfDue (frame : Word) (s : State) (t : Table) : State :=
  match (s.table t).shadow with
  | .posted bank e => if isDue frame e then s.swapTable t bank else s
  | _ => s

/-! ## The commands of the Table Store -/

/-- TABLE_STORE_SYNC (R173): the POSTED tables that are due swap, in increasing table code. -/
def execTableStoreSync (frame : Word) (s : State) : Host.Outcome State Fault Refusal :=
  let s := s.take (.tableStoreSync frame)
  .next (if s.started then Table.all.foldl (State.swapIfDue frame) s else s)

/-- TABLE-WRITE (R170). -/
def execTableWrite (head : MgmtHead) (args : List Byte) (s : State) : Host.Outcome State Fault Refusal :=
  .next (s.request head 0x03 args (tableWrite args))

/-- TABLE-READ (R171). -/
def execTableRead (head : MgmtHead) (args : List Byte) (s : State) : Host.Outcome State Fault Refusal :=
  .next (s.request head 0x04 args (tableRead args))

/-- TABLE-COMMIT (R172). -/
def execTableCommit (head : MgmtHead) (args : List Byte) (s : State) : Host.Outcome State Fault Refusal :=
  .next (s.request head 0x05 args (tableCommit args))

/-- TABLE-ABANDON (R175). -/
def execTableAbandon (head : MgmtHead) (args : List Byte) (s : State) : Host.Outcome State Fault Refusal :=
  .next (s.request head 0x06 args (tableAbandon args))

/-- CEILING-LOCK (R176). -/
def execCeilingLock (head : MgmtHead) (args : List Byte) (s : State) : Host.Outcome State Fault Refusal :=
  .next (s.request head 0x07 args (ceilingLock args))

end Sys2Proof.Machine
end

