-- ==== Sys2Proof/Machine/StartUp.lean ====
section
/-! DEFINITION. The three resets, the loading of the parameter store, and the completion of start-up. -/

namespace Sys2Proof.Machine

/-! ## What the blocks do when they begin (R189, R191) -/

/-- The tables whose active banks carry bad marks, in increasing code. -/
def State.markedTables (s : State) : List Table := Table.all.filter fun t => !(s.table t).bad.isEmpty

/-- TABLE_ECC presents are handed over for the tables listed. -/
def State.handTableEcc (s : State) : List Table → State
  | [] => s
  | t :: ts => (s.hand (.tableEccDelivery t true)).handTableEcc ts

/-- The holders of the conditions hand them over (R90, R180, R192). -/
def State.handConditions (s : State) (marked : List Table) : State :=
  let s := if s.time.clockSet then s else s.hand (.conditionDelivery .clockUnset true)
  let s := s.handTableEcc marked
  if s.agent.storeInvalid then s.hand (.conditionDelivery .storeInvalid true) else s

/-- Every module that exists is LIT (R147). -/
def State.lightModules (s : State) : State :=
  { s with faults := { s.faults with modules := List.replicate s.drive.geometry.modules .lit } }

/-- The blocks begin, after a start-up or at a soft reset, in the order of R191; `marked` lists the tables that keep bad
marks through the reset (R180). -/
def State.beginBlocks (s : State) (marked : List Table) : State :=
  let s := if s.unconfigured then s.beginUnconfigured else s
  let s := s.resetCeiling
  let s := s.takeGeometry.lightModules
  let s := s.startLocalTick s.now
  s.handConditions marked

/-! ## Power-on reset and pin reset -/

/-- POWER_ON_RESET: every block at its power-on values. The parameter store, the partners that the physical layers see,
the storage and the model's record of outputs and of waiting commands are not the part's to reset. A frame being sent is
dropped with no abort mark (DESIGN CHOICE, log entry 42), and the words not yet emitted are discarded (log entry 18). -/
def State.powerOn (s : State) : State :=
  { State.reset with
    link := { Link.reset with partnerU := s.link.partnerU, partnerD := s.link.partnerD }
    flash := s.flash
    storage := s.storage
    out := s.out ++ s.cutWords
    pending := s.pending }

/-- A table record kept through a pin reset under the lock: its shadow alone is given up (R177, R180). -/
def TableRec.kept (r : TableRec) : TableRec := { r with shadow := .clean }

/-- The Table Store at a pin reset (R180): SCHEDULE and LIMITS kept while the lock is set (R177), the other banks as they
stand until start-up loads them (log entry 4). -/
def Tables.pinReset (t : Tables) : Tables :=
  { Tables.reset with
    lock := t.lock
    banks := if t.lock then
        { Banks.defaults with schedule := t.banks.schedule.kept, limits := t.banks.limits.kept }
      else Banks.defaults }

/-- PIN_RESET: every block at its pin-reset values; the count, the clock, the drift, the restore history and the lock are
kept (R98, R147, R177). The ports are DOWN (R22), and a frame being sent is dropped with no abort mark: R11 and R21 give one to
an UP port that goes DOWN, and say nothing of a reset (DESIGN CHOICE, log entry 42). -/
def State.pin (s : State) : State :=
  { s with
    started := false
    link := { Link.reset with partnerU := s.link.partnerU, partnerD := s.link.partnerD }
    capture := .reset
    trims := zeroTrims
    dimming := .reset
    time := { s.time with ceiling := 0, source := .unset }
    drive := .reset
    stream := .reset
    faults := .cleared 1 s.faults.history
    reports := .reset
    tables := s.tables.pinReset
    agent := { s.agent with save := none }
    handed := []
    out := s.out ++ s.cutWords }

/-! ## Loading (R185, R190) -/

/-- The header passes its check and is CLOSED (R185). -/
def FlashHeader.usable (h : FlashHeader) : Bool := h.checkGood && h.closed

/-- A table record is good (R185). -/
def FlashTable.goodFor (r : FlashTable) (t : Table) : Bool :=
  r.checkGood && r.code == t.code && r.count == Table.size t && r.values.length == Table.size t && !r.isVoid &&
    (validate t r.values).isNone

/-- The trim record is good (R185). -/
def FlashTrims.good (r : FlashTrims) : Bool :=
  r.checkGood && r.values.length == 96 && r.values.all fun t => decide (-16 ≤ t ∧ t ≤ 15)

/-- The stored record of a table. -/
def Flash.recordOf (f : Flash) (t : Table) : FlashTable := f.tables.getD (t.code - 1) ⟨0, 0, [], false, false⟩

/-- How start-up obtains a table (R190). -/
def Flash.resultOf (f : Flash) (lock : Bool) (t : Table) : TableResult :=
  if lock && Table.lockable t then .kept
  else if f.header.usable && (f.recordOf t).goodFor t then .loaded
  else .default

/-- The record of a table once start-up has set it (R190). -/
def Flash.load (f : Flash) (r : TableResult) (t : Table) (held : TableRec) : TableRec :=
  match r with
  | .kept => held
  | .loaded => .fresh (f.recordOf t).values
  | .default => .fresh (defaultBank t)

/-- How start-up obtains the trim array (R190). -/
def Flash.trimResult (f : Flash) : TrimResult := if f.header.usable && f.trims.good then .loaded else .zero

/-- The trim array that start-up sets (R190). -/
def Flash.loadTrims (f : Flash) : List Int :=
  match f.trimResult with
  | .loaded => f.trims.values
  | .zero => zeroTrims

/-- Each table set in increasing code (R190). -/
def State.loadTables (s : State) : State :=
  Table.all.foldl (fun q t => q.setTable t (s.flash.load (s.flash.resultOf s.tables.lock t) t (s.table t))) s

/-- The store save count that start-up takes from the header (R190). -/
def Flash.storedCount (f : Flash) : Word := if f.header.checkGood then f.header.saveCount else 0

/-- Start-up sets every item: the tables, the trims, the flags and the results (R190). -/
def State.loadStore (s : State) : State :=
  let results := Table.all.map (s.flash.resultOf s.tables.lock)
  let s' := s.loadTables
  { s' with
    trims := s.flash.loadTrims
    tables := { s'.tables with layoutMissing := s.flash.resultOf s.tables.lock .layout == .default }
    agent := ⟨none, s.flash.storedCount, results.contains .default || s.flash.trimResult == .zero, results,
      s.flash.trimResult⟩ }

/-- The lock is set when entry 10 of LIMITS holds 1 or cannot be read; a lock already set stays set (R177). -/
def State.decideLock (s : State) : State :=
  let r := s.readEntry .limits 10
  let asks := match r.1 with
    | some v => v == 1
    | none => true
  { r.2 with tables := { r.2.tables with lock := r.2.tables.lock || asks } }

/-- A port whose partner is present is reported UP at the completion (R191). -/
def State.raisePorts (s : State) : State :=
  let s := if s.link.partnerU && !s.link.upU then s.raiseU else s
  if s.link.partnerD && !s.link.upD then s.raiseD else s

/-- Start-up completes (R190, R191). -/
def State.startUp (s : State) : State :=
  let s := s.loadStore
  let marked := s.markedTables
  let s := s.decideLock.beginBlocks marked
  { s with started := true }.raisePorts

/-! ## Soft reset (R189) -/

/-- The Link Interface at a soft reset (R22): the HOLD slot is emptied, and a REPORT frame being sent removes no record
when it completes (R152). -/
def Link.softReset (l : Link) : Link :=
  { l with
    holdSlot := none
    sendingU := match l.sendingU with
      | .report _ => .report false
      | x => x }

/-- Every shadow gives up its contents (R180). -/
def Banks.shadowsClean (b : Banks) : Banks :=
  ⟨b.layout.kept, b.gamma.kept, b.calibration.kept, b.ambient.kept, b.schedule.kept, b.limits.kept, b.policy.kept,
    b.groups.kept⟩

/-- SOFT-RESET acting on every block, as Table 11-4 sums it up. It abandons every post (R180), so that a SYNC taken after it
finds none of them; STORE_INVALID is ended by the LAYOUT swap taken next (R192; log entry 47). What was handed over before it is
dropped, so that no STREAM_LOST, evaluation or report of before it reaches the emptied table and queue (R119, R123, R147, R164);
the second event alone stays, whose tally the Link Interface keeps (R22; log entry 23). -/
def State.soft (s : State) : State :=
  { s with
    link := s.link.softReset
    capture := .reset
    dimming := .reset
    drive := { Drive.reset with geometry := s.drive.geometry }
    stream := .reset
    faults := .cleared s.drive.geometry.modules s.faults.history
    reports := .reset
    tables := { s.tables with banks := s.tables.banks.shadowsClean }
    agent := { s.agent with save := none }
    handed := s.handed.filter (· == Instr.secondEventLink)
    out := s.out ++ s.cutWords }.beginBlocks s.markedTables

/-! ## The commands -/

/-- POWER_ON_RESET (R190). -/
def execPowerOnReset (s : State) : Host.Outcome State Fault Refusal := .next s.powerOn

/-- PIN_RESET (R190). -/
def execPinReset (s : State) : Host.Outcome State Fault Refusal := .next s.pin

/-- START_UP_COMPLETE (R191): once start-up has completed it is not under way, and nothing is done. -/
def execStartUpComplete (s : State) : Host.Outcome State Fault Refusal := .next (if s.started then s else s.startUp)

/-- SOFT-RESET (R189): the reply is formed first. -/
def execSoftReset (head : MgmtHead) (args : List Byte) (s : State) : Host.Outcome State Fault Refusal :=
  let r := s.arriveMgmt head 0x10 args
  .next (if r.1 then
    if noArgs args then (r.2.reply head 0x10 ⟨.ok, .empty⟩).soft else r.2.reply head 0x10 (refusal .badArgs)
  else r.2)

end Sys2Proof.Machine
end

