-- ==== Sys2Proof/Machine/Management.lean ====
section
/-! DEFINITION. The Management Agent: IDENTIFY, STATUS-READ, unknown requests, and SAVE. -/

namespace Sys2Proof.Machine

/-! ## IDENTIFY (R183) -/

/-- The vendor code, Ambrek. -/
def vendorCode : Word := 0x5A17

/-- The part code, DK-316. -/
def partCode : Word := 0x0316

/-- The silicon revision, counted from 1 (log entry 1). -/
def siliconRevision : Byte := BitVec.ofNat 8 (Config.revisionsBefore.val + 1)

/-- IDENTIFY carried out (R183). -/
def identify (args : List Byte) (s : State) : Answer × State :=
  (if noArgs args then ⟨.ok, .identity vendorCode partCode siliconRevision Config.serialNumber⟩ else refusal .badArgs, s)

/-! ## STATUS-READ (R184) -/

/-- The Link Interface fields. -/
def Link.status (l : Link) : LinkStatus :=
  ⟨l.upU, l.upD, l.uDiscard, l.dDiscard, l.forwardOverflow, l.repliesLost, l.uFailures, l.position⟩

/-- The Frame Capture fields (R42). -/
def Capture.status (c : Capture) : CaptureStatus where
  held := c.displayed.isSome
  content := match c.displayed with | some d => d.content | none => 0
  frame := match c.displayed with | some d => d.frame | none => 0
  signature := match c.displayed with | some d => d.signature | none => 0
  dwell := match c.displayed with | some d => d.dwell | none => 0
  frameOpen := c.opened.isSome
  openContent := match c.opened with | some o => o.content | none => 0
  incomplete := c.incomplete

/-- The Dimming Controller fields (R82). -/
def Dimming.status (d : Dimming) : DimmingStatus where
  level := d.level
  target := d.target
  ceiling := d.ceiling
  mode := d.mode
  source := d.source
  lux := d.lux
  luxValid := d.luxValid
  overridePresent := d.override.isSome
  overrideLevel := match d.override with | some o => o.level | none => 0
  overrideMinutes := match d.override with | some o => o.minutes | none => 0

/-- The Time Base fields (R97). -/
def TimeBase.status (t : TimeBase) : TimeStatus :=
  ⟨t.count, t.weekday, t.minute, t.ms, t.clockSet, t.drift, t.ceiling, t.source,
    match t.source with | .entry j => j | _ => 0⟩

/-- The Drive Port fields (R110). -/
def Drive.status (d : Drive) (now : Count) : DriveStatus where
  modules := d.geometry.modules
  startLine := d.startLine
  sweepPointer := d.sweepPointer
  sweepCount := d.sweepCount
  inFlight := d.inFlight.isSome
  polledModule := match d.inFlight with | some p => p.module | none => 0
  pollNumber := match d.inFlight with | some p => p.number | none => 0
  pollAge := match d.inFlight with | some p => now - p.sentAt | none => 0

/-- The Stream Supervision fields (R122). -/
def Stream.status (x : Stream) (now : Count) : StreamStatus where
  state := x.state
  sinceSync := match x.lastSync with | some c => now - c | none => 0
  syncSeen := x.lastSync.isSome
  holdRemaining := if x.state = .holding then timerRemaining x.hold now else 0

/-- The Fault Monitor fields (R145). -/
def Faults.status (f : Faults) (now : Count) : FaultStatus where
  records := f.records.length
  active := f.activeCount
  latched := f.latchedCount
  blanked := f.blankedCount
  cabinetDark := f.flags.cabinetDark
  modules := (List.range moduleMax).map fun m => f.modules[m]?.map ModuleStatus.state
  restoreQueue := f.restoreQueue
  historyAges := f.history.map fun c => now - c
  affected := f.affected
  lostDetections := f.lostDetections

/-- The Report Queue fields (R163). -/
def Reports.status (q : Reports) (now : Count) : ReportStatus where
  depth := q.queue.length
  lostLocal := q.lostLocal
  lostForwarded := q.lostForwarded
  holdAsserted := q.holdMark
  lastHoldAge := match q.lastHold with | some c => now - c | none => 0
  inboundRemaining := timerRemaining q.inbound now
  summaryCount := q.summaryCount

/-- The fields of one table (R179). -/
def TableRec.status (r : TableRec) : TableStatus :=
  ⟨r.shadow.name, r.shadow.e, r.generation, r.bad.length, r.shadow.damage.length⟩

/-- The Table Store fields (R179). -/
def State.storeStatus (s : State) : StoreStatus :=
  ⟨Table.all.map fun t => (s.table t).status, s.tables.lock, s.tables.corrected, s.tables.lastCorrected, s.unconfigured,
    s.causes⟩

/-- The Management Agent fields (R184). -/
def Agent.status (a : Agent) : AgentStatus := ⟨a.save.isSome, a.saveCount, a.storeInvalid, a.results, a.trimResult⟩

/-- The payload of STATUS-READ: every field as it stands at one moment (R184). -/
def State.statusReport (s : State) : StatusReport :=
  ⟨s.link.status, s.capture.status, s.dimming.status, s.time.status, s.drive.status s.now, s.stream.status s.now,
    s.faults.status s.now, s.reports.status s.now, s.storeStatus, s.agent.status⟩

/-- STATUS-READ carried out (R184). -/
def statusRead (args : List Byte) (s : State) : Answer × State :=
  (if noArgs args then ⟨.ok, .status s.statusReport⟩ else refusal .badArgs, s)

/-! ## SAVE (R186 to R188) -/

/-- Some table is POSTED. -/
def State.anyPosted (s : State) : Bool := Table.all.any fun t => (s.table t).shadow.isPosted

/-- A record is handed to the side port (R187). -/
def State.writeItem (s : State) (run : SaveRun) : State :=
  { s with agent := { s.agent with save := some run } }.emit (.storeWrite run.writing)

/-- A SAVE is taken (R186): the count goes up, the header is written OPEN. -/
def State.beginSave (s : State) (replyTag : Option Word) : State :=
  let count := s.agent.saveCount + 1
  { s with
    agent := { s.agent with saveCount := count }
    flash := { s.flash with header := ⟨false, count, true⟩ } }.writeItem ⟨.headerOpen count, [], replyTag⟩

/-- The tag that the reply of a SAVE echoes, when it is taken under POSITION (R16). -/
def replyTagOf (head : MgmtHead) : Option Word := if head.mode = 0x00 then some head.tag else none

/-- A table record is formed and handed to the side port (R187). -/
def State.saveTable (s : State) (run : SaveRun) (t : Table) : State :=
  let r := s.readEntries t (List.range (Table.size t))
  let isVoid := r.1.contains none
  r.2.writeItem
    { run with
      writing := .table t ⟨t.code, Table.size t, r.1.map fun v => BitVec.ofNat 16 (v.getD 0), isVoid, true⟩
      voids := if isVoid then run.voids ++ [t.code] else run.voids }

/-- The reply of a SAVE is formed at the event that ends it, and the flag is cleared (R182, R187). -/
def State.endSave (s : State) (run : SaveRun) (a : Answer) : State :=
  let s := { s with agent := { s.agent with save := none } }
  match run.replyTag with
  | some tag => s.offerOwn ⟨s.link.position, tag, 0x0F, a.status, a.payload⟩
  | none => s

/-- The answer of a SAVE whose last write succeeded (R187). -/
def saveAnswer (count : Word) (voids : List Nat) : Answer :=
  ⟨if voids.isEmpty then .ok else .storeFail, .saved count voids.length (voids.headD 0)⟩

/-- The table whose record follows a table's, in increasing code. -/
def nextTable : Table → Option Table
  | .layout => some .gamma
  | .gamma => some .calibration
  | .calibration => some .ambient
  | .ambient => some .schedule
  | .schedule => some .limits
  | .limits => some .policy
  | .policy => some .groups
  | .groups => none

/-- A record written stands in the store (R185, log entry 26). -/
def Flash.written (f : Flash) : StoreItem → Flash
  | .headerOpen count => { f with header := ⟨false, count, true⟩ }
  | .table t r => { f with tables := f.tables.set (t.code - 1) r }
  | .trims vs => { f with trims := ⟨vs, true⟩ }
  | .headerClosed count => { f with header := ⟨true, count, true⟩ }

/-- What follows a write that succeeded (R187). -/
def State.saveNext (s : State) (run : SaveRun) : State :=
  match run.writing with
  | .headerOpen _ => s.saveTable run .layout
  | .table t _ =>
    match nextTable t with
    | some t' => s.saveTable run t'
    | none => s.writeItem { run with writing := .trims s.trims }
  | .trims _ => s.writeItem { run with writing := .headerClosed s.agent.saveCount }
  | .headerClosed count => s.endSave run (saveAnswer count run.voids)

/-- The code by which a failed write is named (R187). -/
def StoreItem.code : StoreItem → Nat
  | .headerOpen _ => 10
  | .table t _ => t.code
  | .trims _ => 9
  | .headerClosed _ => 10

/-! ## The commands of the Management Agent -/

/-- SAVE (R186): refused, or taken without a reply yet. -/
def execSave (head : MgmtHead) (args : List Byte) (s : State) : Host.Outcome State Fault Refusal :=
  let r := s.arriveMgmt head 0x0F args
  .next (if r.1 then
    if noArgs args then
      if r.2.saving || r.2.anyPosted then r.2.reply head 0x0F (refusal .busy) else r.2.beginSave (replyTagOf head)
    else r.2.reply head 0x0F (refusal .badArgs)
  else r.2)

/-- SAVE_WRITE_SUCCESS (R187); with no SAVE in flight the report is discarded (R188), and with one in flight any report is
that of the write now in progress (DESIGN CHOICE, log entry 48). -/
def execSaveWriteSuccess (s : State) : Host.Outcome State Fault Refusal :=
  .next (match s.agent.save with
    | some run => { s with flash := s.flash.written run.writing }.saveNext run
    | none => s)

/-- SAVE_WRITE_FAILURE (R187): the SAVE ends, the header staying OPEN; with no SAVE in flight the report is discarded
(R188), and with one in flight any report is that of the write now in progress (DESIGN CHOICE, log entry 48). -/
def execSaveWriteFailure (s : State) : Host.Outcome State Fault Refusal :=
  .next (match s.agent.save with
    | some run => s.endSave run ⟨.storeFail, .saveFailed s.agent.saveCount run.writing.code⟩
    | none => s)

/-- UNKNOWN_REQUEST (R181). -/
def execUnknownRequest (head : MgmtHead) (code : Byte) (args : List Byte) (s : State) : Host.Outcome State Fault Refusal :=
  .next (s.request head code args fun s => (refusal .unknownRequest, s))

/-- IDENTIFY (R183). -/
def execIdentify (head : MgmtHead) (args : List Byte) (s : State) : Host.Outcome State Fault Refusal :=
  .next (s.request head 0x01 args (identify args))

/-- STATUS-READ (R184). -/
def execStatusRead (head : MgmtHead) (args : List Byte) (s : State) : Host.Outcome State Fault Refusal :=
  .next (s.request head 0x02 args (statusRead args))

end Sys2Proof.Machine
end

