-- ==== Sys2Proof/Machine/ReportQueue.lean ====
section
/-! DEFINITION. The Report Queue: records, joins and discards, the outbound and the inbound hold, and the SUMMARY. -/

namespace Sys2Proof.Machine

/-! ## The fields of POLICY (R153) -/

/-- One of the two marks, entry `own`, used as a pair with entry `other`: both are at their built-in defaults while either
is marked bad (R153). -/
def State.readMark (s : State) (own other : Nat) : Nat × State :=
  let r := s.readEntry .policy own
  (match r.1 with
    | some v => if other ∈ (r.2.table .policy).bad then defaultEntry .policy own else v
    | none => defaultEntry .policy own, r.2)

/-- The high mark H. -/
def State.readHigh (s : State) : Nat × State := s.readMark 40 41

/-- The low mark Lw. -/
def State.readLow (s : State) : Nat × State := s.readMark 41 40

/-- The pause Tp. -/
def State.readPause (s : State) : Nat × State := s.readOrDefault .policy 42

/-- The refresh interval R of a pause (R153). -/
def refreshInterval (pause : Nat) : Nat := max 1 (pause / 2)

/-! ## The outbound hold (R154 to R158) -/

/-- A HOLD frame with a nonzero pause is handed over: it counts as sent (R158), and the refresh timer is started. -/
def State.sendHold (s : State) (pause : Nat) : State :=
  { s with reports := { s.reports with
      holdMark := true
      lastHold := some s.now
      refresh := some (s.timer (refreshInterval pause)) } }.handHold (BitVec.ofNat 16 pause)

/-- The hold is renewed, Tp read (R156). -/
def State.renewHold (s : State) : State :=
  let r := s.readPause
  r.2.sendHold r.1

/-- The hold is released (R155). -/
def State.releaseHold (s : State) : State :=
  { s with reports := { s.reports with holdMark := false, refresh := none } }.handHold 0

/-- The check at each record that joins (R154). -/
def State.checkAssert (s : State) : State :=
  let r := s.readHigh
  if r.1 ≤ r.2.reports.queue.length ∧ r.2.reports.holdMark = false then r.2.renewHold else r.2

/-- The check at each record that leaves (R155). -/
def State.checkRelease (s : State) : State :=
  let r := s.readLow
  if r.2.reports.holdMark = true ∧ r.2.reports.queue.length ≤ r.1 then r.2.releaseHold else r.2

/-- What a discard does for the outbound hold (R157). -/
def State.discardHold (s : State) : State :=
  let r := s.readPause
  match r.2.reports.lastHold with
  | some h =>
    if r.2.reports.holdMark = true ∧ refreshInterval r.1 ≤ (r.2.now - h).toNat then r.2.sendHold r.1 else r.2
  | none => r.2

/-! ## Joining and discarding (R148, R151) -/

/-- The records that the queue holds at most. -/
def queueMax : Nat := 48

/-- Whether a record is one of this cabinet's own. -/
inductive RecordSource where
  | ownRecord
  | forwarded
  deriving DecidableEq, Repr

/-- A record joins the tail (R151). -/
def State.joinQueue (s : State) (r : ReportRec) : State :=
  { s with reports := { s.reports with queue := s.reports.queue ++ [r] } }.checkAssert.grantU

/-- A record is discarded and counted (R151). -/
def State.discardRecord (s : State) (src : RecordSource) : State :=
  (match src with
    | .ownRecord => { s with reports := { s.reports with lostLocal := saturate counterMax s.reports.lostLocal } }
    | .forwarded =>
      { s with reports := { s.reports with lostForwarded := saturate counterMax s.reports.lostForwarded } }).discardHold

/-- A record arrives at the queue (R151). -/
def State.arriveRecord (s : State) (src : RecordSource) (r : ReportRec) : State :=
  if s.reports.queue.length < queueMax then s.joinQueue r else s.discardRecord src

/-! ## Records (R6, R149, R162) -/

/-- The type and value of a detail (R6). -/
def detailFields : Detail → Byte × Word
  | .absent => (0, 0)
  | .strings set => (1, set)
  | .temperature c => (2, BitVec.ofInt 16 c)
  | .table t => (3, BitVec.ofNat 16 t.code)

/-- The flags byte of a record. -/
def clockFlag (set : Bool) : Byte := if set then 1 else 0

/-- A record of this cabinet, with its position and the clock as they stand, and no summary body (R6, R149). -/
def State.ownRecord (s : State) (r : Report) : ReportRec where
  origin := BitVec.ofNat 8 s.link.position
  report := BitVec.ofNat 8 r.report.code
  kind := match r.kind with | some k => BitVec.ofNat 8 k.code | none => 0
  module := match r.module with | some m => BitVec.ofNat 8 m | none => 0xFF
  weekday := BitVec.ofNat 8 s.time.weekday
  minute := BitVec.ofNat 16 s.time.minute
  ms := BitVec.ofNat 16 s.time.ms
  flags := clockFlag s.time.clockSet
  detailType := (detailFields r.detail).1
  detailValue := (detailFields r.detail).2
  active := 0
  latched := 0
  blanked := 0
  lostLocal := 0
  lostForwarded := 0
  level := 0

/-- A SUMMARY record with the counts, the lost counters and L as they stand (R162). -/
def State.summaryRecord (s : State) : ReportRec :=
  { s.ownRecord ⟨.summary, none, none, .absent⟩ with
    active := BitVec.ofNat 8 s.faults.activeCount
    latched := BitVec.ofNat 8 s.faults.latchedCount
    blanked := BitVec.ofNat 8 s.faults.blankedCount
    lostLocal := BitVec.ofNat 16 s.reports.lostLocal
    lostForwarded := BitVec.ofNat 16 s.reports.lostForwarded
    level := BitVec.ofNat 16 s.dimming.level }

/-- A SUMMARY is created and arrives; when it joins, both lost counters return to 0 (R162). -/
def State.summary (s : State) : State :=
  let r := s.summaryRecord
  if s.reports.queue.length < queueMax then
    { s with reports := { s.reports with lostLocal := 0, lostForwarded := 0 } }.joinQueue r
  else s.discardRecord .ownRecord

/-- The reports of one delivery arrive, one after another. -/
def State.arriveAll (s : State) : List ReportRec → State
  | [] => s
  | r :: rs => (s.arriveRecord .ownRecord r).arriveAll rs

/-! ## The commands of the Report Queue -/

/-- LOCAL_REPORT_DELIVERY (R149): one record for each report, in order, all with one origin and one time, STREAM_LOST's
among them (R119 has the Fault Monitor's time there, log entry 44); none before start-up completes (R191, log entry 29). -/
def execLocalReportDelivery (reports : List Report) (s : State) : Host.Outcome State Fault Refusal :=
  let s := s.take (.localReportDelivery reports)
  .next (if s.started then s.arriveAll (reports.map s.ownRecord) else s)

/-- FORWARDED_RECORD (R17, R150): the record of a good REPORT frame at D, with every field as received. -/
def execForwardedRecord (rec : ReportRec) (s : State) : Host.Outcome State Fault Refusal :=
  .next (if s.link.upD then s.arriveRecord .forwarded rec else s)

/-- REPORT_SENT (R19, R152): the head record leaves, the hold is checked for release, and U is granted again; a frame
started before a soft reset removes no record. -/
def execReportSent (s : State) : Host.Outcome State Fault Refusal :=
  .next (match s.link.sendingU with
    | .report true =>
      ({ s with link := { s.link with sendingU := .idle }, reports := { s.reports with queue := s.reports.queue.tail } }).checkRelease.grantU
    | .report false => { s with link := { s.link with sendingU := .idle } }.grantU
    | _ => s)

/-- SUMMARY_COUNT_ADVANCE (R161). -/
def execSummaryCountAdvance (s : State) : Host.Outcome State Fault Refusal :=
  let s := s.take .summaryCountAdvance
  .next (if s.started then
    let q := s.readOrDefault .policy 43
    let s := q.2
    if 2 ^ q.1 ≤ s.reports.summaryCount + 1 then { s with reports := { s.reports with summaryCount := 0 } }.summary
    else { s with reports := { s.reports with summaryCount := s.reports.summaryCount + 1 } }
  else s)

/-- HOLD_FRAME (R20, R159): the inbound hold timer is started anew, abandoning a REPORT frame being sent, or stopped. -/
def execHoldFrame (pause : Word) (s : State) : Host.Outcome State Fault Refusal :=
  .next (if s.link.upU then
    if pause = 0 then { s with reports := { s.reports with inbound := none } }.grantU
    else { s with reports := { s.reports with inbound := some (s.timer pause.toNat) } }.abandonReport
  else s)

/-- HOLD_REFRESH_EXPIRY (R156). -/
def execHoldRefreshExpiry (s : State) : Host.Outcome State Fault Refusal :=
  .next (if timerDue s.reports.refresh s.now then
    let r := s.readLow
    if r.1 < r.2.reports.queue.length then r.2.renewHold else r.2.releaseHold
  else s)

/-- INBOUND_HOLD_EXPIRY (R160). -/
def execInboundHoldExpiry (s : State) : Host.Outcome State Fault Refusal :=
  .next (if timerDue s.reports.inbound s.now then
    { s with reports := { s.reports with inbound := none } }.grantU
  else s)

end Sys2Proof.Machine
end

