-- ==== Sys2Proof/Machine/Dispatch.lean ====
section
/-! DEFINITION. One arm for each command: the call of its meaning. -/

namespace Sys2Proof.Machine

/-- The effect of a command on everything but the queue of waiting commands. -/
def exec (i : Instr) (s : State) : Host.Outcome State Fault Refusal :=
  match i with
  | .powerOnReset => Sys2Proof.Machine.execPowerOnReset s
  | .pinReset => Sys2Proof.Machine.execPinReset s
  | .startUpComplete => Sys2Proof.Machine.execStartUpComplete s
  | .linkUp p => Sys2Proof.Machine.execLinkUp p s
  | .linkDown p => Sys2Proof.Machine.execLinkDown p s
  | .frameCheckFailure p => Sys2Proof.Machine.execFrameCheckFailure p s
  | .frameAborted p => Sys2Proof.Machine.execFrameAborted p s
  | .syncFrame frame content lux flags => Sys2Proof.Machine.execSyncFrame frame content lux flags s
  | .frameCaptureSync frame content => Sys2Proof.Machine.execFrameCaptureSync frame content s
  | .dimmingSync lux valid => Sys2Proof.Machine.execDimmingSync lux valid s
  | .tableStoreSync frame => Sys2Proof.Machine.execTableStoreSync frame s
  | .streamSync => Sys2Proof.Machine.execStreamSync s
  | .sweepCountSync => Sys2Proof.Machine.execSweepCountSync s
  | .sweepTick => Sys2Proof.Machine.execSweepTick s
  | .pixelFrame line column samples pad => Sys2Proof.Machine.execPixelFrame line column samples pad s
  | .enumFrame counter => Sys2Proof.Machine.execEnumFrame counter s
  | .mgmtNotTaken head code args => Sys2Proof.Machine.execMgmtNotTaken head code args s
  | .holdFrame pause => Sys2Proof.Machine.execHoldFrame pause s
  | .forwardedReply body => Sys2Proof.Machine.execForwardedReply body s
  | .forwardedRecord rec => Sys2Proof.Machine.execForwardedRecord rec s
  | .forwardedFrameSent => Sys2Proof.Machine.execForwardedFrameSent s
  | .holdFrameSent => Sys2Proof.Machine.execHoldFrameSent s
  | .replySent => Sys2Proof.Machine.execReplySent s
  | .reportSent => Sys2Proof.Machine.execReportSent s
  | .millisecondStep => Sys2Proof.Machine.execMillisecondStep s
  | .secondEventLink => Sys2Proof.Machine.execSecondEventLink s
  | .summaryCountAdvance => Sys2Proof.Machine.execSummaryCountAdvance s
  | .minuteEventCeiling => Sys2Proof.Machine.execMinuteEventCeiling s
  | .overrideMinute => Sys2Proof.Machine.execOverrideMinute s
  | .overrideExpiry => Sys2Proof.Machine.execOverrideExpiry s
  | .syncTimeoutExpiry => Sys2Proof.Machine.execSyncTimeoutExpiry s
  | .holdExpiry => Sys2Proof.Machine.execHoldExpiry s
  | .localTickExpiry => Sys2Proof.Machine.execLocalTickExpiry s
  | .dimmingLocalTick => Sys2Proof.Machine.execDimmingLocalTick s
  | .sweepCountLocalTick => Sys2Proof.Machine.execSweepCountLocalTick s
  | .lZeroNotice => Sys2Proof.Machine.execLZeroNotice s
  | .moduleComputation => Sys2Proof.Machine.execModuleComputation s
  | .pollResult m number opens shorts temperature => Sys2Proof.Machine.execPollResult m number opens shorts temperature s
  | .faultEvaluationDelivery evaluations => Sys2Proof.Machine.execFaultEvaluationDelivery evaluations s
  | .conditionDelivery condition present => Sys2Proof.Machine.execConditionDelivery condition present s
  | .tableEccDelivery table present => Sys2Proof.Machine.execTableEccDelivery table present s
  | .restoreWindowExpiry => Sys2Proof.Machine.execRestoreWindowExpiry s
  | .localReportDelivery reports => Sys2Proof.Machine.execLocalReportDelivery reports s
  | .holdRefreshExpiry => Sys2Proof.Machine.execHoldRefreshExpiry s
  | .inboundHoldExpiry => Sys2Proof.Machine.execInboundHoldExpiry s
  | .saveWriteSuccess => Sys2Proof.Machine.execSaveWriteSuccess s
  | .saveWriteFailure => Sys2Proof.Machine.execSaveWriteFailure s
  | .unknownRequest head code args => Sys2Proof.Machine.execUnknownRequest head code args s
  | .identify head args => Sys2Proof.Machine.execIdentify head args s
  | .statusRead head args => Sys2Proof.Machine.execStatusRead head args s
  | .tableWrite head args => Sys2Proof.Machine.execTableWrite head args s
  | .tableRead head args => Sys2Proof.Machine.execTableRead head args s
  | .tableCommit head args => Sys2Proof.Machine.execTableCommit head args s
  | .tableAbandon head args => Sys2Proof.Machine.execTableAbandon head args s
  | .ceilingLock head args => Sys2Proof.Machine.execCeilingLock head args s
  | .timeSet head args => Sys2Proof.Machine.execTimeSet head args s
  | .driftSet head args => Sys2Proof.Machine.execDriftSet head args s
  | .levelOverride head args => Sys2Proof.Machine.execLevelOverride head args s
  | .overrideEnd head args => Sys2Proof.Machine.execOverrideEnd head args s
  | .trimNudge head args => Sys2Proof.Machine.execTrimNudge head args s
  | .faultRead head args => Sys2Proof.Machine.execFaultRead head args s
  | .faultClear head args => Sys2Proof.Machine.execFaultClear head args s
  | .save head args => Sys2Proof.Machine.execSave head args s
  | .softReset head args => Sys2Proof.Machine.execSoftReset head args s

end Sys2Proof.Machine
end

