-- ==== Sys2Proof/WellFormed.lean ====
section
/-! DEFINITION. Which commands can occur: the operand ranges that the frame layouts and the hand-overs allow. `exec` gives
every command a meaning, well-formed or not; this check says which ones the part's surroundings and its own blocks can
bring. -/

namespace Sys2Proof

/-- The bytes a request's arguments take at most: a body of 4800 bytes less the header of 6 (Table 1-2, Table 1-5). -/
def argsMax : Nat := 4794

/-- The arguments fit a MGMT frame. -/
def argsFit (args : List Byte) : Bool := args.length ≤ argsMax

/-- The samples of a PIXEL frame number 1..1024, and the bits that fill its last byte exist only for an odd count
(Table 1-4). -/
def samplesFit (samples : List Pixel) (pad : BitVec 4) : Bool :=
  1 ≤ samples.length && samples.length ≤ 1024 && (samples.length % 2 == 1 || pad == 0)

/-- A request code that Table 1-7 does not hold. -/
def unlistedCode (code : Byte) : Bool := code.toNat == 0 || 16 < code.toNat

/-- A module number, 0..31 (R25). -/
def moduleFits (m : Nat) : Bool := m < 32

/-- A scope fits a kind: a module for the module kinds, the cabinet for the others (R128). -/
def scopeFits (k : FaultKind) : Option Nat → Bool
  | some m => k.moduleScope && moduleFits m
  | none => !k.moduleScope

/-- A detail fits a kind (R128): a string set of at least one string, a temperature −40..150, a table, or none. -/
def detailFits : FaultKind → Detail → Bool
  | .openString, .strings set => set != 0
  | .shortString, .strings set => set != 0
  | .overTemp, .temperature c => decide (-40 ≤ c ∧ c ≤ 150)
  | .tableEcc, .table _ => true
  | k, .absent => k != .openString && k != .shortString && k != .tableEcc
  | _, _ => false

/-- An evaluation that a source can hand over (R124). -/
def Evaluation.wellFormed (e : Evaluation) : Bool :=
  e.kind.debounced && scopeFits e.kind e.module && (if e.detected then detailFits e.kind e.detail else e.detail == .absent)

/-- A report that the Fault Monitor can hand over (Table 8-5). -/
def Report.wellFormed (r : Report) : Bool :=
  match r.report, r.kind with
  | .summary, _ => false
  | .restored, none => (match r.module with | some m => moduleFits m | none => false) && r.detail == .absent
  | .restored, some _ => false
  | .latched, some k => k.moduleScope && scopeFits k r.module && detailFits k r.detail
  | _, some k => scopeFits k r.module && detailFits k r.detail
  | _, none => false

/-- A down-bound frame that passes the length check of R2. -/
def DownFrame.wellFormed : DownFrame → Bool
  | .sync _ _ _ _ => true
  | .pixel _ _ samples pad => samplesFit samples pad
  | .mgmt _ _ args => argsFit args
  | .enum _ => true

/-- A command that can occur. -/
def Instr.wellFormed : Instr → Bool
  | .powerOnReset => true
  | .pinReset => true
  | .startUpComplete => true
  | .linkUp _ => true
  | .linkDown _ => true
  | .frameCheckFailure _ => true
  | .frameAborted _ => true
  | .syncFrame _ _ _ _ => true
  | .frameCaptureSync _ _ => true
  | .dimmingSync _ _ => true
  | .tableStoreSync _ => true
  | .streamSync => true
  | .sweepCountSync => true
  | .sweepTick => true
  | .pixelFrame _ _ samples pad => samplesFit samples pad
  | .enumFrame _ => true
  | .mgmtNotTaken _ _ args => argsFit args
  | .holdFrame _ => true
  | .forwardedReply body => 5 ≤ body.length && body.length ≤ 4800
  | .forwardedRecord _ => true
  | .forwardedFrameSent => true
  | .holdFrameSent => true
  | .replySent => true
  | .reportSent => true
  | .millisecondStep => true
  | .secondEventLink => true
  | .summaryCountAdvance => true
  | .minuteEventCeiling => true
  | .overrideMinute => true
  | .overrideExpiry => true
  | .syncTimeoutExpiry => true
  | .holdExpiry => true
  | .localTickExpiry => true
  | .dimmingLocalTick => true
  | .sweepCountLocalTick => true
  | .lZeroNotice => true
  | .moduleComputation => true
  | .pollResult m _ _ _ _ => moduleFits m
  | .faultEvaluationDelivery evaluations => !evaluations.isEmpty && evaluations.all Evaluation.wellFormed
  | .conditionDelivery c _ => c != .cabinetDark
  | .tableEccDelivery _ _ => true
  | .restoreWindowExpiry => true
  | .localReportDelivery reports => !reports.isEmpty && reports.all Report.wellFormed
  | .holdRefreshExpiry => true
  | .inboundHoldExpiry => true
  | .saveWriteSuccess => true
  | .saveWriteFailure => true
  | .unknownRequest _ code args => unlistedCode code && argsFit args
  | .identify _ args => argsFit args
  | .statusRead _ args => argsFit args
  | .tableWrite _ args => argsFit args
  | .tableRead _ args => argsFit args
  | .tableCommit _ args => argsFit args
  | .tableAbandon _ args => argsFit args
  | .ceilingLock _ args => argsFit args
  | .timeSet _ args => argsFit args
  | .driftSet _ args => argsFit args
  | .levelOverride _ args => argsFit args
  | .overrideEnd _ args => argsFit args
  | .trimNudge _ args => argsFit args
  | .faultRead _ args => argsFit args
  | .faultClear _ args => argsFit args
  | .save _ args => argsFit args
  | .softReset _ args => argsFit args

end Sys2Proof
end

