-- ==== Sys2Proof/Safety.lean ====
section
/-! DEFINITION. What claims say of the part: what each shared mechanism of the manual does to a state, as relations
between the state before and after, and the invariants that every step keeps. -/

namespace Sys2Proof.Machine

/-! ## Completion -/

/-- The command completes with a next state of which `P` holds. -/
def Completes (c : Instr) (s : State) (P : State → Prop) : Prop := ∃ t, exec c s = .next t ∧ P t

/-- The storage has no error to show at any read, and no index of the table is marked bad. -/
def State.soundTable (s : State) (t : Table) : Prop := s.storage = [] ∧ (s.table t).bad = []

/-- The value of an entry of an active bank that carries no bad mark. -/
def State.present (s : State) (t : Table) (i : Nat) : Option Nat :=
  if i ∈ (s.table t).bad then none else some (entry (s.table t).active i)

/-- The value of an entry of an active bank, or its built-in default where it carries a bad mark (R167). -/
def State.presentOrDefault (s : State) (t : Table) (i : Nat) : Nat := (s.present t i).getD (defaultEntry t i)

/-- A counter of bound 65,535 one higher. -/
def counted (n : Nat) : Nat := min 65535 (n + 1)

/-! ## The link -/

/-- Whenever D is UP and no frame is being sent, the frame in the HOLD slot is started, or else the head of the forward
queue (R9, Sending): `t` is `s` after that choice. -/
def GrantedD (s t : State) : Prop :=
  (s.link.upD = false ∨ s.link.sendingD ≠ .idle → t = s) ∧
  (s.link.upD = true → s.link.sendingD = .idle →
    (∀ h, s.link.holdSlot = some h →
      t = { s with link := { s.link with holdSlot := some ⟨h.pause, true⟩, sendingD := .hold }
                   out := s.out ++ [.sendHold h.pause] }) ∧
    (∀ f fs, s.link.holdSlot = none → s.link.forwardQueue = f :: fs →
      t = { s with link := { s.link with sendingD := .forwarded }, out := s.out ++ [.sendD f] }) ∧
    (s.link.holdSlot = none → s.link.forwardQueue = [] → t = s))

/-- A frame that R8 forwards arrives at the forward queue (R9, Arrival and Sending). -/
def Forwarded (s : State) (f : DownFrame) (t : State) : Prop :=
  (s.link.upD = false → t = s) ∧
  (s.link.upD = true → s.link.forwardQueue.length < 4 →
    GrantedD { s with link := { s.link with forwardQueue := s.link.forwardQueue ++ [f] } } t) ∧
  (s.link.upD = true → 4 ≤ s.link.forwardQueue.length →
    t = { s with link := { s.link with forwardOverflow := counted s.link.forwardOverflow } })

/-- A HOLD frame is handed to the downstream transmitter (R10). -/
def HoldHanded (s : State) (pause : Word) (t : State) : Prop :=
  (s.link.upD = false → t = s) ∧
  (s.link.upD = true → GrantedD { s with link := { s.link with holdSlot := some ⟨pause, false⟩ } } t)

/-- Whenever U is UP and no frame is being sent, the head of the reply buffer is started, or else a REPORT frame with the
record at the head of the report queue while the inbound hold timer is stopped (R19): `t` is `s` after that choice. -/
def GrantedU (s t : State) : Prop :=
  (s.link.upU = false ∨ s.link.sendingU ≠ .idle → t = s) ∧
  (s.link.upU = true → s.link.sendingU = .idle →
    (∀ r rs, s.link.replies = r :: rs →
      t = { s with link := { s.link with sendingU := .reply }, out := s.out ++ [.sendReply r] }) ∧
    (∀ r rs, s.link.replies = [] → s.reports.queue = r :: rs → s.reports.inbound = none →
      t = { s with link := { s.link with sendingU := .report true }, out := s.out ++ [.sendReport r] }) ∧
    (s.link.replies = [] → s.reports.queue = [] ∨ s.reports.inbound ≠ none → t = s))

/-- A reply is offered to the reply buffer (R18): an own one counts in the replies lost count when the buffer is full, a
forwarded one in the D discard count, and none counts while U is DOWN. -/
def Offered (s : State) (r : ReplyFrame) (t : State) : Prop :=
  (s.link.upU = false → t = s) ∧
  (s.link.upU = true → s.link.replies.length < 4 →
    GrantedU { s with link := { s.link with replies := s.link.replies ++ [r] } } t) ∧
  (s.link.upU = true → 4 ≤ s.link.replies.length →
    match r with
    | .own _ => t = { s with link := { s.link with repliesLost := counted s.link.repliesLost } }
    | .forwarded _ => t = { s with link := { s.link with dDiscard := counted s.link.dDiscard } })

/-- A request is answered (R16): one REPLY under POSITION, with this cabinet's position and the tag and code of the
request, and nothing under GROUP or ALL. -/
def Replied (h : MgmtHead) (code : Byte) (a : Answer) (s t : State) : Prop :=
  (h.mode = 0 → Offered s (.own ⟨s.link.position, h.tag, code, a.status, a.payload⟩) t) ∧ (h.mode ≠ 0 → t = s)

/-- The header names this cabinet (R15): ALL; POSITION with this cabinet's position; or GROUP with a group whose entry
counts as MEMBER (R14), the storage showing no error at its read and GROUPS being as its active bank and bad marks
stand. -/
def State.isAddressed (s : State) (h : MgmtHead) : Prop :=
  h.mode = 2 ∨ (h.mode = 0 ∧ 1 ≤ h.value.toNat ∧ h.value.toNat ≤ 63 ∧ h.value.toNat = s.link.position) ∨
    (h.mode = 1 ∧ h.value.toNat ≤ 4095 ∧ s.storage = [] ∧ ∃ v, s.present .groups h.value.toNat = some v ∧ v ≠ 0)

/-- A request received at port U that is taken here. -/
def State.receives (s : State) (h : MgmtHead) : Prop := s.link.upU = true ∧ s.isAddressed h

/-- A request that finishes where it is taken: its frame is forwarded, it is carried out, and its reply is formed
(R8, R15, R16, R181). `effect` relates the state it is carried out in to its answer and the state it leaves. -/
def Served (s : State) (h : MgmtHead) (code : Byte) (args : List Byte) (effect : State → Answer → State → Prop)
    (t : State) : Prop :=
  ∃ u a v, Forwarded s (.mgmt h code args) u ∧ effect u a v ∧ Replied h code a v t

/-- The port that a command's frame is received at, for the commands that are frames. -/
def receivedAt : Instr → Option Port
  | .frameCheckFailure p => some p
  | .frameAborted p => some p
  | .syncFrame _ _ _ _ => some .u
  | .pixelFrame _ _ _ _ => some .u
  | .enumFrame _ => some .u
  | .mgmtNotTaken _ _ _ => some .u
  | .holdFrame _ => some .u
  | .forwardedReply _ => some .d
  | .forwardedRecord _ => some .d
  | .unknownRequest _ _ _ => some .u
  | .identify _ _ => some .u
  | .statusRead _ _ => some .u
  | .tableWrite _ _ => some .u
  | .tableRead _ _ => some .u
  | .tableCommit _ _ => some .u
  | .tableAbandon _ _ => some .u
  | .ceilingLock _ _ => some .u
  | .timeSet _ _ => some .u
  | .driftSet _ _ => some .u
  | .levelOverride _ _ => some .u
  | .overrideEnd _ _ => some .u
  | .trimNudge _ _ => some .u
  | .faultRead _ _ => some .u
  | .faultClear _ _ => some .u
  | .save _ _ => some .u
  | .softReset _ _ => some .u
  | .powerOnReset => none
  | .pinReset => none
  | .startUpComplete => none
  | .linkUp _ => none
  | .linkDown _ => none
  | .frameCaptureSync _ _ => none
  | .dimmingSync _ _ => none
  | .tableStoreSync _ => none
  | .streamSync => none
  | .sweepCountSync => none
  | .sweepTick => none
  | .forwardedFrameSent => none
  | .holdFrameSent => none
  | .replySent => none
  | .reportSent => none
  | .millisecondStep => none
  | .secondEventLink => none
  | .summaryCountAdvance => none
  | .minuteEventCeiling => none
  | .overrideMinute => none
  | .overrideExpiry => none
  | .syncTimeoutExpiry => none
  | .holdExpiry => none
  | .localTickExpiry => none
  | .dimmingLocalTick => none
  | .sweepCountLocalTick => none
  | .lZeroNotice => none
  | .moduleComputation => none
  | .pollResult _ _ _ _ _ => none
  | .faultEvaluationDelivery _ => none
  | .conditionDelivery _ _ => none
  | .tableEccDelivery _ _ => none
  | .restoreWindowExpiry => none
  | .localReportDelivery _ => none
  | .holdRefreshExpiry => none
  | .inboundHoldExpiry => none
  | .saveWriteSuccess => none
  | .saveWriteFailure => none

/-- The port is UP. -/
def State.portUp (s : State) : Port → Bool
  | .u => s.link.upU
  | .d => s.link.upD

/-- The header, code and arguments of a request. -/
def requestParts : Instr → Option (MgmtHead × Byte × List Byte)
  | .mgmtNotTaken h code args => some (h, code, args)
  | .unknownRequest h code args => some (h, code, args)
  | .identify h args => some (h, 0x01, args)
  | .statusRead h args => some (h, 0x02, args)
  | .tableWrite h args => some (h, 0x03, args)
  | .tableRead h args => some (h, 0x04, args)
  | .tableCommit h args => some (h, 0x05, args)
  | .tableAbandon h args => some (h, 0x06, args)
  | .ceilingLock h args => some (h, 0x07, args)
  | .timeSet h args => some (h, 0x08, args)
  | .driftSet h args => some (h, 0x09, args)
  | .levelOverride h args => some (h, 0x0A, args)
  | .overrideEnd h args => some (h, 0x0B, args)
  | .trimNudge h args => some (h, 0x0C, args)
  | .faultRead h args => some (h, 0x0D, args)
  | .faultClear h args => some (h, 0x0E, args)
  | .save h args => some (h, 0x0F, args)
  | .softReset h args => some (h, 0x10, args)
  | _ => none

/-- The command that a good down-bound frame is, `taken` saying whether a MGMT frame is taken here (Table 1-2, R15). -/
def downCommand (taken : Bool) : DownFrame → Instr
  | .sync frame content lux flags => .syncFrame frame content lux flags
  | .pixel line column samples pad => .pixelFrame line column samples pad
  | .mgmt h code args => if taken then requestCommand h code args else .mgmtNotTaken h code args
  | .enum counter => .enumFrame counter

/-! ## Frame Capture -/

/-- Sample `j` of a segment at a picture line and first column falls in the window, at this slot position (R29). -/
def LandsAt (g : Geometry) (line column : Nat) (j a : Nat) : Prop :=
  column + j < 4096 ∧ g.x0 ≤ column + j ∧ column + j < g.x0 + g.width ∧ g.y0 ≤ line ∧ line < g.y0 + g.height ∧
    a = (line - g.y0) * g.width + (column + j - g.x0)

/-- A PIXEL frame delivered to Frame Capture (R29, R30). -/
def PixelWritten (c : Capture) (line column : Nat) (samples : List Pixel) (d : Capture) : Prop :=
  (c.opened = none → d = c) ∧
  (∀ o, c.opened = some o → ∃ coverage,
    d = { c with fill := d.fill, opened := some { o with coverage := coverage } } ∧
    (∀ j a, LandsAt o.geometry line column j a → ∀ p, samples[j]? = some p → readSlot a d.fill = p ∧ a ∈ coverage) ∧
    (∀ a, (∀ j, j < samples.length → ¬ LandsAt o.geometry line column j a) →
      readSlot a d.fill = readSlot a c.fill ∧ (a ∈ coverage ↔ a ∈ o.coverage)))

/-- The decision at the close of a frame (Table 2-2, R33 to R36, R41), with LIMITS as its active bank and bad marks
stand: the outcome and what becomes of DISPLAY and the incomplete-frame counter. `d` is Frame Capture after it. -/
def FrameDecided (s : State) (r : CloseOutcome) (d : Capture) : Prop :=
  let c := { s.capture with opened := none }
  let swapped (x : Displayed) : Capture := { c with displayed := some x, display := c.fill, fill := c.display }
  (s.capture.opened = none → r = .noFrame ∧ d = c) ∧
  ∀ o, s.capture.opened = some o →
    let sig := frameSignature o.geometry s.capture.fill
    ((∃ a, a < o.geometry.width * o.geometry.height ∧ a ∉ o.coverage) →
      r = .incomplete ∧ d = { c with incomplete := counted c.incomplete }) ∧
    (o.coverage = List.range (o.geometry.width * o.geometry.height) →
      (s.capture.displayed = none → r = .swap ∧ d = swapped ⟨o.content, sig, o.frame, 0⟩) ∧
      ∀ x, s.capture.displayed = some x →
        (o.content ≠ x.content →
          (s.present .limits 4 = none → r = .stopped ∧ d = c) ∧
          ∀ dwell, s.present .limits 4 = some dwell →
            (x.dwell < dwell → r = .early ∧ d = c) ∧
            (dwell ≤ x.dwell → r = .swap ∧ d = swapped ⟨o.content, sig, o.frame, 0⟩)) ∧
        (o.content = x.content →
          (s.present .limits 5 = none → r = .stopped ∧ d = c) ∧
          ∀ static, s.present .limits 5 = some static →
            (static ≠ 0 ∧ sig ≠ x.signature → r = .motion ∧ d = c) ∧
            (static = 0 ∨ sig = x.signature → r = .swap ∧ d = swapped ⟨o.content, sig, o.frame, x.dwell⟩)))

/-! ## The Report Queue -/

/-- The high and the low mark, both at their built-in defaults while either carries a bad mark (R153). -/
def State.marks (s : State) : Nat × Nat :=
  match s.present .policy 40, s.present .policy 41 with
  | some high, some low => (high, low)
  | _, _ => (36, 12)

/-- The refresh interval of the pause as it stands (R153). -/
def State.refreshNow (s : State) : Nat := max 1 (s.presentOrDefault .policy 42 / 2)

/-- A HOLD with the pause Tp is handed to the downstream transmitter (R154, R156, R157). -/
def HoldSent (s t : State) : Prop :=
  HoldHanded
    { s with reports := { s.reports with
        holdMark := true, lastHold := some s.time.count, refresh := some ⟨s.time.count, s.refreshNow⟩ } }
    (BitVec.ofNat 16 (s.presentOrDefault .policy 42)) t

/-- The hold is released (R155). -/
def HoldReleased (s t : State) : Prop :=
  HoldHanded { s with reports := { s.reports with holdMark := false, refresh := none } } 0 t

/-- A record joins the tail, the hold is checked, and the arbiter may start it (R151, R154, R19). -/
def Joined (s : State) (r : ReportRec) (t : State) : Prop :=
  let u : State := { s with reports := { s.reports with queue := s.reports.queue ++ [r] } }
  (s.marks.1 ≤ s.reports.queue.length + 1 ∧ s.reports.holdMark = false → ∃ v, HoldSent u v ∧ GrantedU v t) ∧
  (s.reports.queue.length + 1 < s.marks.1 ∨ s.reports.holdMark = true → GrantedU u t)

/-- A record is discarded: its lost counter rises, and the hold is renewed when the last HOLD is R ms old (R151, R157). -/
def Discarded (s : State) (src : RecordSource) (t : State) : Prop :=
  let u : State := match src with
    | .ownRecord => { s with reports := { s.reports with lostLocal := counted s.reports.lostLocal } }
    | .forwarded => { s with reports := { s.reports with lostForwarded := counted s.reports.lostForwarded } }
  (∀ h, s.reports.lastHold = some h → s.reports.holdMark = true → s.refreshNow ≤ (s.time.count - h).toNat →
    HoldSent u t) ∧
  (s.reports.holdMark = false ∨ (∀ h, s.reports.lastHold = some h → (s.time.count - h).toNat < s.refreshNow) → t = u)

/-- A record arrives at the queue (R151). -/
def Arrived (s : State) (src : RecordSource) (r : ReportRec) (t : State) : Prop :=
  (s.reports.queue.length < 48 → Joined s r t) ∧ (48 ≤ s.reports.queue.length → Discarded s src t)

/-- The own records of one delivery arrive one after another (R149). -/
def ArrivedAll (s : State) : List ReportRec → State → Prop
  | [], t => t = s
  | r :: rs, t => ∃ u, Arrived s .ownRecord r u ∧ ArrivedAll u rs t

/-- A record has this cabinet's position and clock, the fields of the report it is made from in the encodings of
Table 1-6, and a summary body of 0 (R6, R149). -/
def IsLocalRecord (s : State) (p : Report) (r : ReportRec) : Prop :=
  r.origin = BitVec.ofNat 8 s.link.position ∧ r.report = BitVec.ofNat 8 p.report.code ∧
  (∀ k, p.kind = some k → r.kind = BitVec.ofNat 8 k.code) ∧ (p.kind = none → r.kind = 0) ∧
  (∀ m, p.module = some m → r.module = BitVec.ofNat 8 m) ∧ (p.module = none → r.module = 0xFF) ∧
  r.weekday = BitVec.ofNat 8 s.time.weekday ∧ r.minute = BitVec.ofNat 16 s.time.minute ∧
  r.ms = BitVec.ofNat 16 s.time.ms ∧ r.flags = (if s.time.clockSet then 1 else 0) ∧
  (p.detail = .absent → r.detailType = 0 ∧ r.detailValue = 0) ∧
  (∀ set, p.detail = .strings set → r.detailType = 1 ∧ r.detailValue = set) ∧
  (∀ c, p.detail = .temperature c → r.detailType = 2 ∧ r.detailValue = BitVec.ofInt 16 c) ∧
  (∀ x, p.detail = .table x → r.detailType = 3 ∧ r.detailValue = BitVec.ofNat 16 x.code) ∧
  r.active = 0 ∧ r.latched = 0 ∧ r.blanked = 0 ∧ r.lostLocal = 0 ∧ r.lostForwarded = 0 ∧ r.level = 0

/-- A SUMMARY record as it is filled at its creation (R162). -/
def IsSummary (s : State) (r : ReportRec) : Prop :=
  r.origin = BitVec.ofNat 8 s.link.position ∧ r.report = 5 ∧ r.kind = 0 ∧ r.module = 0xFF ∧
  r.weekday = BitVec.ofNat 8 s.time.weekday ∧ r.minute = BitVec.ofNat 16 s.time.minute ∧
  r.ms = BitVec.ofNat 16 s.time.ms ∧ r.flags = (if s.time.clockSet then 1 else 0) ∧
  r.detailType = 0 ∧ r.detailValue = 0 ∧
  r.active = BitVec.ofNat 8 (s.faults.records.countP fun x => x.state == .active || x.state == .clearing) ∧
  r.latched = BitVec.ofNat 8 (s.faults.records.countP fun x => x.state == .latched) ∧
  r.blanked = BitVec.ofNat 8 (s.faults.modules.countP fun m => m.state == .blanked || m.state == .restoreWait) ∧
  r.lostLocal = BitVec.ofNat 16 s.reports.lostLocal ∧ r.lostForwarded = BitVec.ofNat 16 s.reports.lostForwarded ∧
  r.level = BitVec.ofNat 16 s.dimming.level

/-! ## The Luminance Pipeline -/

/-- Point i of a colour's curve as the active GAMMA bank and its bad marks stand, with the substitute of a bad point: the
value at the start of the curve is 0 and at its end that of point 255 or else 65,535; in between it is half the sum of the
two neighbours, the one that is good, or the built-in default's (R46, R167). -/
def State.curvePoint (s : State) (c : Colour) (i : Nat) : Nat :=
  let point := fun j => s.present .gamma (257 * c.index + j)
  match point i with
  | some v => v
  | none =>
    if i = 0 then 0
    else if i = 256 then (point 255).getD 65535
    else
      match point (i - 1), point (i + 1) with
      | some a, some b => (a + b) / 2
      | some a, none => a
      | none, some b => b
      | none, none => min (i * 256) 65535

/-- The coefficient k[m][c] as the active CALIBRATION bank and its bad marks stand: the fallback coefficient in place of a
bad one, and none where that is bad too (R49, R50). -/
def State.coefficientOf (s : State) (m : Nat) (c : Colour) : Option Nat :=
  match s.present .calibration (3 * m + c.index) with
  | some k => some k
  | none => s.present .calibration 96

/-- Stage 1 for the component p of a colour (R48). -/
def State.intensity (s : State) (c : Colour) (p : Nat) : Nat :=
  let low := s.curvePoint c (p / 16)
  let high := s.curvePoint c (p / 16 + 1)
  if low ≤ high then low + (high - low) * (p % 16) / 16 else low

/-- The effective coefficient of stage 2: k + 8 t clamped to 0..4095 (R52), and 0 where there is no coefficient, so that the
colour is dark (R49; log entry 49). -/
def effectiveCoefficient : Option Nat → Int → Nat
  | some k, t => if (k : Int) + 8 * t ≤ 0 then 0 else if 4095 ≤ (k : Int) + 8 * t then 4095 else ((k : Int) + 8 * t).toNat
  | none, _ => 0

/-- The drive word of the component p of a colour of module m, LIT or DERATED with derate d (R53 to R55). -/
def State.wordOf (s : State) (m : Nat) (c : Colour) (d p : Nat) : Nat :=
  s.intensity c p * effectiveCoefficient (s.coefficientOf m c) (s.trims.getD (3 * m + c.index) 0) / 4096 *
    s.dimming.level / 1024 * d / 1024

/-- The words of a pixel whose stored sample is `p`. -/
def State.pixelWords (s : State) (m d : Nat) (p : Pixel) : Nat × Nat × Nat :=
  (s.wordOf m .red d p.red.toNat, s.wordOf m .green d p.green.toNat, s.wordOf m .blue d p.blue.toNat)

/-- The lines of a module are emitted in the scan order of R101: group after group, each of its lines at the offset that
the scan order and the start line give. -/
def InScanOrder (g : DriveGeometry) (start : Nat) (lines : List (Nat × List (Nat × Nat × Nat))) : Prop :=
  lines.length = g.moduleHeight / g.group * g.group ∧
  ∀ b j, b < g.moduleHeight / g.group → j < g.group →
    (lines[b * g.group + j]?).map Prod.fst =
      some (b * g.group + (if g.interleaved then start ^^^ j else (start + j) % g.group))

/-- The pass goes on: to the next module, or past the last one to module 0 with the next start line (R100). Nothing is left to
be emitted. -/
def passNext (d : Drive) : Drive :=
  { d with
    position := if d.position + 1 < d.geometry.modules then d.position + 1 else 0
    startLine := if d.position + 1 < d.geometry.modules then d.startLine else (d.startLine + 1) % d.geometry.group
    unemitted := none }

/-- The state once the last word of the module computed before has been emitted (R100): its words are out and the pass has
gone on. Where none stand to be emitted it is the state itself. -/
def State.emitted (s : State) : State :=
  match s.drive.unemitted with
  | none => s
  | some e => { s with out := s.out ++ [.driveWords e.module e.lines], drive := passNext s.drive }

/-- These lines stand to be emitted for the module at the pass position, after a computation that found `s` (R44, R100). -/
def State.standing (s : State) (lines : List (Nat × List (Nat × Nat × Nat))) : State :=
  { s with drive := { s.drive with unemitted := some ⟨s.drive.position, lines⟩ } }

/-- The end of a pass discards the words not yet emitted, some number of them having gone out (R103, R111): `out` is the trace
of outputs after it. -/
def PassCutOff (s : State) (out : List Output) : Prop :=
  (s.drive.unemitted = none → out = s.out) ∧
  ∀ e, s.drive.unemitted = some e → ∃ sent, out = s.out ++ [.driveWordsCut e.module e.lines sent]

/-- A TRIM-NUDGE carried out (R59, R60). -/
def TrimNudged (args : List Byte) (s : State) (a : Answer) (t : State) : Prop :=
  (∀ m c d, args = [m, c, d] → m.toNat ≤ 31 → c.toNat % 8 ≠ 0 → d.toNat ≤ 1 →
    (s.drive.geometry.modules ≤ m.toNat → a = ⟨.range, .empty⟩ ∧ t = s) ∧
    (m.toNat < s.drive.geometry.modules →
      t = { s with trims := t.trims } ∧ t.trims.length = s.trims.length ∧
      (∀ i, t.trims.getD i 0 =
        if 3 * m.toNat ≤ i ∧ i < 3 * m.toNat + 3 ∧ c.getLsbD (i - 3 * m.toNat) = true then
          (if d = 0 then min 15 (s.trims.getD i 0 + 1) else max (-16) (s.trims.getD i 0 - 1))
        else s.trims.getD i 0) ∧
      a = ⟨.ok, .trims m.toNat (t.trims.getD (3 * m.toNat) 0) (t.trims.getD (3 * m.toNat + 1) 0)
        (t.trims.getD (3 * m.toNat + 2) 0)⟩)) ∧
  ((∀ m c d, args = [m, c, d] → 31 < m.toNat ∨ c.toNat % 8 = 0 ∨ 1 < d.toNat) → a = ⟨.badArgs, .empty⟩ ∧ t = s)

/-! ## The Drive Port -/

/-- A sweep tick (R105): silence for a poll in flight, a poll to the module at the pointer, and the pointer's advance. -/
def Swept (s t : State) : Prop :=
  t = { s with
        drive := { s.drive with
          inFlight := some ⟨s.drive.sweepPointer, s.drive.nextPoll, s.time.count⟩
          nextPoll := s.drive.nextPoll + 1
          sweepPointer := (s.drive.sweepPointer + 1) % s.drive.geometry.modules }
        out := s.out ++ [.poll s.drive.sweepPointer s.drive.nextPoll]
        handed := s.handed ++
          (match s.drive.inFlight with
            | none => []
            | some p => [.faultEvaluationDelivery [⟨.driverSilent, some p.module, true, .absent⟩]]) }

/-- The evaluation of a string kind from a set as the drivers give it (R107): limited to the strings 0 to S − 1, detected
when any is left, with the set as its detail. -/
def StringEvaluated (k : FaultKind) (m strings : Nat) (set : Word) (e : Evaluation) : Prop :=
  ∃ limited : Word, (∀ i, i < 16 → limited.getLsbD i = (set.getLsbD i && decide (i < strings))) ∧
    (limited = 0 → e = ⟨k, some m, false, .absent⟩) ∧ (limited ≠ 0 → e = ⟨k, some m, true, .strings limited⟩)

/-- The OVER_TEMP evaluation of a matched result, if there is one (R106, R108). -/
def HeatEvaluated (s : State) (m : Nat) (reading : Option Int) (es : List Evaluation) : Prop :=
  (reading = none ∨ (∃ c, reading = some c ∧ (c < -40 ∨ 150 < c)) → es = [⟨.overTemp, some m, true, .absent⟩]) ∧
  ∀ c, reading = some c → -40 ≤ c → c ≤ 150 →
    (36 ∈ (s.table .policy).bad ∨ 37 ∈ (s.table .policy).bad → es = []) ∧
    (36 ∉ (s.table .policy).bad → 37 ∉ (s.table .policy).bad →
      let hot := ((s.table .policy).active.getD 36 0).toInt
      let hysteresis : Int := entry (s.table .policy).active 37
      (hot ≤ c → es = [⟨.overTemp, some m, true, .temperature c⟩]) ∧
      (c < hot → c < hot - hysteresis → es = [⟨.overTemp, some m, false, .absent⟩]) ∧
      (c < hot → hot - hysteresis ≤ c → es = []))

/-! ## The Dimming Controller -/

/-- The value of the AMBIENT curve for a reading (R66): the level at or before the first breakpoint, at or after the last,
and on the segment between two otherwise, the quotient truncated toward zero. Entry 0 of the bank is the count, entries
2 j − 1 and 2 j the lux and the level of breakpoint j. -/
def CurveValue (bank : List Word) (a v : Nat) : Prop :=
  let lux := fun j => entry bank (2 * j - 1)
  let level := fun j => entry bank (2 * j)
  (a ≤ lux 1 → v = level 1) ∧ (lux (entry bank 0) ≤ a → v = level (entry bank 0)) ∧
  ∀ j, 1 ≤ j → j < entry bank 0 → lux j ≤ a → a < lux (j + 1) →
    (v : Int) = (level j : Int) +
      (((level (j + 1) : Int) - level j) * ((a : Int) - lux j)).tdiv ((lux (j + 1) : Int) - lux j)

/-- A recomputation of T (R69, R70, Table 4-3) with LIMITS and AMBIENT as their banks and bad marks stand: the target, the
mode and the source, and nothing else. -/
def Recomputed (s t : State) : Prop :=
  let d := s.dimming
  let usable := d.luxValid = true ∧ (s.table .ambient).bad = []
  let set (target : Nat) (mode : Mode) (src : Source) : State :=
    { s with dimming := { d with target := target, mode := mode, source := src } }
  (s.forcedDark = true →
    (d.override ≠ none → t = set 0 .forcedDark .override) ∧
    (d.override = none → usable → t = set 0 .forcedDark .auto) ∧
    (d.override = none → ¬ usable → t = set 0 .forcedDark .fallback)) ∧
  (s.forcedDark = false →
    (∀ o, d.override = some o → t = set (min o.level d.ceiling) .override .override) ∧
    (d.override = none → usable →
      ∃ v, CurveValue (s.table .ambient).active d.lux.toNat v ∧ t = set (min v d.ceiling) .auto .auto) ∧
    (d.override = none → ¬ usable →
      ∀ f, s.present .limits 2 = some f → t = set (min f d.ceiling) .fallback .fallback))

/-- L takes a value at or below the one it has, and Stream Supervision is notified when it becomes 0 (R77). -/
def Lowered (s : State) (l : Nat) (t : State) : Prop :=
  t = { s with dimming := { s.dimming with level := l }
               handed := s.handed ++ (if l = 0 ∧ s.dimming.level ≠ 0 then [.lZeroNotice] else []) }

/-- One tick (R73): L moves toward T by at most S_up or S_down, and reads no entry when it equals T. -/
def Ticked (s t : State) : Prop :=
  (s.dimming.level < s.dimming.target → ∀ up, s.present .limits 0 = some up →
    t = { s with dimming := { s.dimming with level := min s.dimming.target (s.dimming.level + up) } }) ∧
  (s.dimming.target < s.dimming.level → ∀ down, s.present .limits 1 = some down →
    Lowered s (max s.dimming.target (s.dimming.level - down)) t) ∧
  (s.dimming.level = s.dimming.target → t = s)

/-- The local tick to be taken is a tick of the controller (R72): the oldest one waiting was delivered in DARKENING and is not
taken in HOLDING or DARK; where none has been delivered, the stream is DARKENING. -/
def State.localTickCounts (s : State) : Prop :=
  (∀ delivered rest, s.stream.ticks = delivered :: rest →
    delivered = .darkening ∧ (s.stream.state = .darkening ∨ s.stream.state = .live)) ∧
  (s.stream.ticks = [] → s.stream.state = .darkening)

/-- A change of C as it reaches the Dimming Controller (R75): C is held, L is clamped to it, and T is recomputed. -/
def CeilingTaken (s : State) (c : Nat) (t : State) : Prop :=
  let u : State := { s with dimming := { s.dimming with ceiling := c } }
  (c < s.dimming.level → ∃ v, Lowered u c v ∧ Recomputed v t) ∧ (s.dimming.level ≤ c → Recomputed u t)

/-- The override record is replaced and T recomputed (R79 to R81). -/
def OverrideSet (s : State) (o : Option Override) (t : State) : Prop :=
  Recomputed { s with dimming := { s.dimming with override := o } } t

/-- A LEVEL-OVERRIDE carried out (R79). -/
def LevelOverridden (args : List Byte) (s : State) (a : Answer) (t : State) : Prop :=
  (∀ l₁ l₀ m₁ m₀, args = [l₁, l₀, m₁, m₀] →
    let level := l₁.toNat * 256 + l₀.toNat
    let minutes := m₁.toNat * 256 + m₀.toNat
    (1 ≤ minutes → minutes ≤ 1440 →
      OverrideSet s (some ⟨min level 1024, minutes⟩) t ∧
      a = ⟨.ok, .overrideSet (min level 1024) minutes t.dimming.target t.dimming.ceiling t.dimming.mode⟩) ∧
    (minutes = 0 ∨ 1440 < minutes → a = ⟨.badArgs, .empty⟩ ∧ t = s)) ∧
  (args.length ≠ 4 → a = ⟨.badArgs, .empty⟩ ∧ t = s)

/-- An OVERRIDE-END carried out (R81). -/
def OverrideEnded (args : List Byte) (s : State) (a : Answer) (t : State) : Prop :=
  (args = [] → s.dimming.override ≠ none →
    OverrideSet s none t ∧ a = ⟨.ok, .overrideEnded true t.dimming.target⟩) ∧
  (args = [] → s.dimming.override = none → t = s ∧ a = ⟨.ok, .overrideEnded false s.dimming.target⟩) ∧
  (args ≠ [] → a = ⟨.badArgs, .empty⟩ ∧ t = s)

/-! ## Stream Supervision -/

/-- The stream state becomes `x`, and T is recomputed where that starts or ends a forced-dark condition, and not across a
change between DARKENING and DARK, where the condition continues (R68, R70, R112). -/
def StreamSet (s : State) (x : StreamState) (t : State) : Prop :=
  let u : State := { s with stream := { s.stream with state := x } }
  let dark := fun y : StreamState => y = .darkening ∨ y = .dark
  ((dark s.stream.state ↔ dark x) → t = u) ∧ (¬ (dark s.stream.state ↔ dark x) → Recomputed u t)

/-- The entry to DARKENING (R115): the local tick timer is started, and with L at 0 the state passes on to DARK. -/
def EnteredDarkening (s t : State) : Prop :=
  ∃ v, StreamSet s .darkening v ∧
    let u : State := { v with
      stream := { v.stream with localTick := some ⟨v.time.count, v.presentOrDefault .limits 9⟩ } }
    (s.dimming.level = 0 → StreamSet u .dark t) ∧ (s.dimming.level ≠ 0 → t = u)

/-! ## The Time Base -/

/-- The clock advances by some milliseconds, with its rollover (R85): weekday, minute and ms before and after. -/
def ClockAdvanced (w m ms amount w' m' ms' : Nat) : Prop :=
  (ms + amount < 60000 → w' = w ∧ m' = m ∧ ms' = ms + amount) ∧
  (60000 ≤ ms + amount → ms' = ms + amount - 60000 ∧
    (m + 1 < 1440 → m' = m + 1 ∧ w' = w) ∧ (m + 1 = 1440 → m' = 0 ∧ w' = if w = 7 then 1 else w + 1))

/-- The value is the least of those that `good` holds of, 0 where it holds of none. -/
def LeastOrZero (good : Nat → Prop) (v : Nat) : Prop :=
  (good v ∧ ∀ x, good x → v ≤ x) ∨ ((∀ x, ¬ good x) ∧ v = 0)

/-- An evaluation of C and its source (R93 to R95), with the clock, LIMITS and SCHEDULE as they stand. Where a bad start minute
or weekday set makes C the substitute, the source is that of R93's value, the model's choice (log entry 53). -/
def CeilingEvaluated (s : State) (c : Nat) (src : CeilingSource) : Prop :=
  (s.time.clockSet = false →
    (∀ u, s.present .limits 3 = some u → c = u ∧ src = .unset) ∧
    (s.present .limits 3 = none → c = 0 ∧ src = .unreadable)) ∧
  (s.time.clockSet = true →
    (s.present .schedule 0 = none → c = (s.present .limits 3).getD 0 ∧ src = .unreadable) ∧
    ∀ n, s.present .schedule 0 = some n →
      let start := fun j => s.present .schedule (2 + 3 * j)
      let days := fun j => s.present .schedule (3 + 3 * j)
      let ceiling := fun j => s.present .schedule (4 + 3 * j)
      let candidate := fun j m => j < n ∧ start j = some m ∧ m ≤ s.time.minute ∧
        ∃ d, days j = some d ∧ d.testBit (s.time.weekday - 1) = true
      ∃ least placed,
        LeastOrZero (fun x => s.present .schedule 1 = some x ∨ ∃ j, j < n ∧ ceiling j = some x) least ∧
        (∀ j m, candidate j m → (∀ k m', candidate k m' → k ≠ j → m' < m) →
          placed = (ceiling j).getD least ∧ src = .entry j) ∧
        ((∀ j m, ¬ candidate j m) → placed = (s.present .schedule 1).getD least ∧ src = .default) ∧
        ((∃ j, j < n ∧ (start j = none ∨ days j = none)) → c = min placed least) ∧
        ((∀ j, j < n → start j ≠ none ∧ days j ≠ none) → c = placed))

/-- C is evaluated, and a value different from the C held before is handed to the Dimming Controller (R96). -/
def CeilingEvent (s t : State) : Prop :=
  ∃ c src, CeilingEvaluated s c src ∧
    let u : State := { s with time := { s.time with ceiling := c, source := src } }
    (c = s.time.ceiling → t = u) ∧ (c ≠ s.time.ceiling → CeilingTaken u c t)

/-- A TIME-SET carried out (R89). -/
def TimeSet (args : List Byte) (s : State) (a : Answer) (t : State) : Prop :=
  (∀ w m₁ m₀ x₁ x₀, args = [w, m₁, m₀, x₁, x₀] →
    let minute := m₁.toNat * 256 + m₀.toNat
    let ms := x₁.toNat * 256 + x₀.toNat
    (1 ≤ w.toNat → w.toNat ≤ 7 → minute ≤ 1439 → ms ≤ 59999 →
      CeilingEvent
        { s with
            time := { s.time with weekday := w.toNat, minute := minute, ms := ms, clockSet := true }
            handed := s.handed ++ (if s.time.clockSet then [] else [.conditionDelivery .clockUnset false]) } t ∧
      a = ⟨.ok, .clock w.toNat minute ms true t.time.ceiling⟩) ∧
    (w.toNat < 1 ∨ 7 < w.toNat ∨ 1439 < minute ∨ 59999 < ms → a = ⟨.badArgs, .empty⟩ ∧ t = s)) ∧
  (args.length ≠ 5 → a = ⟨.badArgs, .empty⟩ ∧ t = s)

/-- A DRIFT-SET carried out (R88). -/
def DriftSet (args : List Byte) (s : State) (a : Answer) (t : State) : Prop :=
  (∀ hi lo : Byte, args = [hi, lo] →
    let ppm := max (-500) (min 500 (BitVec.toInt (hi ++ lo : Word)))
    t = { s with time := { s.time with drift := ppm, accumulator := 0 } } ∧ a = ⟨.ok, .drift ppm⟩) ∧
  (args.length ≠ 2 → a = ⟨.badArgs, .empty⟩ ∧ t = s)

/-! ## The Fault Monitor -/

/-- The confirm count of a kind as the POLICY bank and its bad marks stand (R127). -/
def State.confirmCount (s : State) (k : FaultKind) : Nat := s.presentOrDefault .policy (k.code - 1)

/-- The release count of a kind as the POLICY bank and its bad marks stand (R127). -/
def State.releaseCount (s : State) (k : FaultKind) : Nat := s.presentOrDefault .policy (k.code + 13)

/-- A record acts on its module in ACTIVE, CLEARING and LATCHED, and not in SUSPECT (R138). -/
def ActsOn (r : FaultRecord) (m : Nat) : Prop := r.scope = some m ∧ r.state ≠ .suspect

/-- The state and derate of a module as its records, the restore queue and POLICY give them (R138). -/
def ModuleDerived (s : State) (m : Nat) (x : ModuleStatus) : Prop :=
  let action := fun r : FaultRecord => s.presentOrDefault .policy (27 + r.kind.code)
  let derate := fun r : FaultRecord => s.presentOrDefault .policy (31 + r.kind.code)
  let holds := fun a => ∃ r ∈ s.faults.records, ActsOn r m ∧ action r = a
  (holds 2 → x.state = .blanked) ∧
  (¬ holds 2 → m ∈ s.faults.restoreQueue → x.state = .restoreWait) ∧
  (¬ holds 2 → m ∉ s.faults.restoreQueue → holds 1 → x.state = .derated ∧
    (∃ r ∈ s.faults.records, ActsOn r m ∧ action r = 1 ∧ x.derate = derate r) ∧
    (∀ r ∈ s.faults.records, ActsOn r m → action r = 1 → x.derate ≤ derate r)) ∧
  (¬ holds 2 → m ∉ s.faults.restoreQueue → ¬ holds 1 → x = ⟨.lit, 1024⟩)

/-- The lowest-numbered slot that no record holds (R129). -/
def LowestFree (f : Faults) (n : Nat) : Prop :=
  n < 64 ∧ (∀ r ∈ f.records, r.slot ≠ n) ∧ ∀ k, k < n → ∃ r ∈ f.records, r.slot = k

/-- The pair of scope and kind holds this record. -/
def Holds (f : Faults) (scope : Option Nat) (k : FaultKind) (r : FaultRecord) : Prop :=
  r ∈ f.records ∧ r.scope = scope ∧ r.kind = k

/-- The pair of scope and kind holds no record. -/
def HoldsNone (f : Faults) (scope : Option Nat) (k : FaultKind) : Prop :=
  ∀ r ∈ f.records, ¬ (r.scope = scope ∧ r.kind = k)

/-- The fault table as R129 has it: slots 0 to 63, no slot twice, and at most one record for a pair. -/
def Faults.tableWf (f : Faults) : Prop :=
  f.records.Pairwise (fun a b => a.slot ≠ b.slot ∧ ¬ (a.scope = b.scope ∧ a.kind = b.kind)) ∧
    ∀ r ∈ f.records, r.slot < 64

/-- No module waits that could be admitted (R140), and no condition that is present lacks its record (R135). -/
def Faults.atRest (f : Faults) : Prop :=
  (f.restoreQueue = [] ∨ f.history.length = 4) ∧
  ∀ k ∈ [FaultKind.streamLost, .tableEcc, .clockUnset, .storeInvalid, .cabinetDark], ∀ d,
    f.presentCondition k = some d → ¬ HoldsNone f none k

/-- The fault table with the record in `r`'s slot replaced by `r`. -/
def Faults.updated (f : Faults) (r : FaultRecord) : Faults :=
  { f with records := f.records.map fun q => if q.slot = r.slot then r else q }

/-- The fault table without a record. -/
def Faults.without (f : Faults) (r : FaultRecord) : Faults :=
  { f with records := f.records.filter fun q => q.slot != r.slot }

/-- The clock and the clock-set flag as a record keeps them (R128). -/
def State.seen (s : State) : Stamp := ⟨s.time.weekday, s.time.minute, s.time.ms, s.time.clockSet⟩

/-- A record of a pair newly created in a slot (R130, R133). -/
def State.created (s : State) (slot : Nat) (scope : Option Nat) (k : FaultKind) (x : RecordState) (d : Detail) : FaultRecord :=
  ⟨slot, scope, k, x, 1, 0, s.seen, s.seen, d⟩

/-- A record after one detection more: hits, saturating at 255, last seen and detail (R128, R130). -/
def State.detected (s : State) (r : FaultRecord) (d : Detail) : FaultRecord :=
  { r with hits := min 255 (r.hits + 1), last := s.seen, detail := d }

/-- The state with the fault table replaced and one delivery of reports handed over, none where there is no report. -/
def State.reported (s : State) (f : Faults) (reports : List Report) : State :=
  { s with faults := f
           handed := s.handed ++ (if reports = [] then [] else [.localReportDelivery reports]) }

/-- One delivery of reports is handed over, after the notice that L has become 0 where there is one. -/
def ReportsGiven (s : State) (reports : List Report) (t : State) : Prop :=
  ∃ notices, (∀ c ∈ notices, c = .lZeroNotice) ∧ t.handed = s.handed ++ notices ++ [.localReportDelivery reports]

/-- Nothing is changed outside the Fault Monitor but the Dimming Controller, where CABINET_DARK acts, and what is handed
over (R137, R142). -/
def OnlyFaults (s t : State) : Prop := t = { s with dimming := t.dimming, faults := t.faults, handed := t.handed }

/-- Every module that exists has the state and derate that R138 gives it, the modules being those of before. -/
def ModulesDerived (s : State) (p : Nat → Prop) (t : State) : Prop :=
  t.faults.modules.length = s.faults.modules.length ∧
  ∀ m x, p m → t.faults.modules[m]? = some x → ModuleDerived t m x

/-- The action of a record's kind is BLANK, and the record acts on the module (R138). -/
def BlanksModule (s : State) (m : Nat) (r : FaultRecord) : Prop :=
  ActsOn r m ∧ s.presentOrDefault .policy (27 + r.kind.code) = 2

/-- The records but those that are `gone` stay as they are, the record of CABINET_DARK apart, whose condition may end in the
same event, and no record of a debounced kind is new. -/
def OtherRecordsKept (f : Faults) (gone : FaultRecord → Prop) (g : Faults) : Prop :=
  (∀ r ∈ f.records, ¬ gone r → r.kind ≠ .cabinetDark → r ∈ g.records) ∧
  ∀ r ∈ g.records, (r ∈ f.records ∧ ¬ gone r) ∨ r.kind.debounced = false

/-- The record `r` of a module kind reaches its confirm count (R132, R137, R138): its flap counter goes up by one, it is
ACTIVE, or LATCHED at a count of 3, its report is the first of the event, its module's state is derived, no other record
in ACTIVE or LATCHED is touched, and nothing outside the Fault Monitor but what CABINET_DARK brings. -/
def FaultConfirmed (s : State) (m : Nat) (r : FaultRecord) (t : State) : Prop :=
  let flap := min 3 (s.faults.flaps.getD (4 * m + (r.kind.code - 1)) 0 + 1)
  { r with state := if flap = 3 then .latched else .active } ∈ t.faults.records ∧
  t.faults.flaps = s.faults.flaps.set (4 * m + (r.kind.code - 1)) flap ∧
  (∃ more, ReportsGiven s (⟨if flap = 3 then .latched else .raised, some r.kind, some m, r.detail⟩ :: more) t) ∧
  ModulesDerived s (fun x => x = m) t ∧ OnlyFaults s t ∧
  ∀ q ∈ s.faults.records, q.slot ≠ r.slot → q.kind ≠ .cabinetDark → q.state = .active ∨ q.state = .latched →
    q ∈ t.faults.records

/-- A module that was BLANKED, `left` being its records that are left, joins the tail of the restore queue where none of them
is a BLANK record (R139): it waits there while the history is full, and is admitted at once, with its RESTORED report after
those of the event's transitions, where the queue was empty and the history has room (R140). -/
def JoinsQueue (s : State) (m : Nat) (left : List FaultRecord) (transitions : List Report) (t : State) : Prop :=
  ∀ y, s.faults.modules[m]? = some y → y.state = .blanked → m ∉ s.faults.restoreQueue →
    (∀ q ∈ left, ¬ BlanksModule s m q) →
    (s.faults.history.length = 4 → t.faults.restoreQueue = s.faults.restoreQueue ++ [m]) ∧
    (s.faults.history.length < 4 → s.faults.restoreQueue = [] →
      t.faults.restoreQueue = [] ∧ t.faults.history = s.faults.history ++ [s.time.count] ∧
      ∃ more, ReportsGiven s (transitions ++ ⟨.restored, none, some m, .absent⟩ :: more) t)

/-- The record `r` of a module is freed with its CLEARED report as the first of the event (R137, R144), the other records
staying as they are, its module's state is derived (R138), a module released by it joins the restore queue (R139,
R140), and nothing outside the Fault Monitor changes but what CABINET_DARK brings. -/
def FaultFreed (s : State) (m : Nat) (r : FaultRecord) (t : State) : Prop :=
  let cleared : Report := ⟨.cleared, some r.kind, some m, r.detail⟩
  OtherRecordsKept s.faults (fun q => q = r) t.faults ∧ HoldsNone t.faults (some m) r.kind ∧
  (∃ more, ReportsGiven s (cleared :: more) t) ∧ ModulesDerived s (fun x => x = m) t ∧ OnlyFaults s t ∧
  JoinsQueue s m (s.faults.records.filter fun q => q != r) [cleared] t

/-- The unrecorded conditions among the kinds listed take the free slots, each the lowest, in the order listed, with a RAISED
report each (R135): `g` is the fault table after it and `reports` what is handed over. -/
def ConditionsRecorded (s : State) : List FaultKind → Faults → List Report → Faults → Prop
  | [], f, reports, g => reports = [] ∧ g = f
  | k :: ks, f, reports, g =>
    (∀ d n, f.presentCondition k = some d → HoldsNone f none k → LowestFree f n → ∃ more,
      reports = ⟨.raised, some k, none, d⟩ :: more ∧
      ConditionsRecorded s ks { f with records := f.records ++ [s.created n none k .active d] } more g) ∧
    (f.presentCondition k = none ∨ ¬ HoldsNone f none k ∨ (∀ n, ¬ LowestFree f n) → ConditionsRecorded s ks f reports g)

/-- Every slot of the fault table is in use. -/
def Faults.full (f : Faults) : Prop := ∀ n, n < 64 → ∃ r ∈ f.records, r.slot = n

/-- `r` is the oldest record in its state: `before` are the records older than it and `after` the younger ones (R129). -/
def OldestIn (f : Faults) (x : RecordState) (before : List FaultRecord) (r : FaultRecord) (after : List FaultRecord) : Prop :=
  f.records = before ++ r :: after ∧ r.state = x ∧ ∀ q ∈ before, q.state ≠ x

/-- The blanked count: the existing modules in BLANKED or RESTORE_WAIT (R142). -/
def State.blankedNow (s : State) : Nat := s.faults.modules.countP fun x => x.state == .blanked || x.state == .restoreWait

/-- The threshold B of CABINET_DARK as LIMITS and its bad marks stand (R127, R142). -/
def State.darkAt (s : State) : Nat := s.presentOrDefault .limits 6

/-- A condition that starts finds every slot in use, with the restore queue at rest (R129, R133, R134, R136 to R140): `c` hands
it over in `s`, `u` is the state with `c` taken, and `f` the Fault Monitor with the condition held. Its record takes the slot of
the oldest CLEARING record, whose CLEARED report comes first, with the consequences for its module; else that of the oldest
SUSPECT record, freed without a report; and where all are ACTIVE or LATCHED, one lost detection is counted. -/
def ConditionFindsTableFull (c : Instr) (s u : State) (f : Faults) (k : FaultKind) (d : Detail) : Prop :=
  let new := fun n => s.created n none k .active d
  let raised : Report := ⟨.raised, some k, none, d⟩
  ((∀ r ∈ f.records, r.state = .active ∨ r.state = .latched) →
    exec c s = .next { u with faults := { f with lostDetections := counted f.lostDetections } }) ∧
  (f.tableWf → ∀ older r younger, OldestIn f .clearing older r younger →
    let cleared : Report := ⟨.cleared, some r.kind, r.scope, r.detail⟩
    (r.scope = none →
      exec c s = .next (u.reported { f with records := older ++ younger ++ [new r.slot] } [cleared, raised])) ∧
    ∀ m y, r.scope = some m → f.modules[m]? = some y → ModuleDerived s m y →
      (f.flags.cabinetDark = true ∨ s.blankedNow < s.darkAt ∨ f.history.length = 4) →
      Completes c s fun t => new r.slot ∈ t.faults.records ∧ t.faults.affected = f.affected ∧
        t.faults.flags = { f.flags with cabinetDark := t.faults.flags.cabinetDark } ∧
        (∃ more, ReportsGiven u (cleared :: raised :: more) t) ∧ ModulesDerived u (fun z => z = m) t ∧
        JoinsQueue u m (older ++ younger) [cleared, raised] t ∧ OnlyFaults u t) ∧
  (f.tableWf → (∀ r ∈ f.records, r.state ≠ .clearing) → ∀ older r younger, OldestIn f .suspect older r younger →
    exec c s = .next (u.reported { f with records := older ++ younger ++ [new r.slot] } [raised]))

/-- What a record of a pair becomes that is created at a confirm count of 1 (R130, R132): ACTIVE, or LATCHED where its flap
counter, one more, is 3. -/
def State.entered (s : State) (e : Evaluation) : RecordState :=
  match e.module with
  | some m => if min 3 (s.faults.flaps.getD (4 * m + (e.kind.code - 1)) 0 + 1) = 3 then .latched else .active
  | none => .active

/-- The report of that record (Table 8-5). -/
def State.enteredReport (s : State) (e : Evaluation) : Report :=
  ⟨if s.entered e = .latched then .latched else .raised, some e.kind, e.module, e.detail⟩

/-- Where CABINET_DARK stands otherwise after an event than before it, the Dimming Controller is as a recomputation of T leaves
it, but for L: its start has taken L to 0, with the notice of it where it was not 0, and its end leaves L as it was, or at 0
where it started and ended once more within the event (R68, R70, R76, R77, R142). -/
def DarkTold (s t : State) : Prop :=
  t.faults.flags.cabinetDark ≠ s.faults.flags.cabinetDark →
    (∃ v, Recomputed { s with faults := t.faults } v ∧ t.dimming = { v.dimming with level := t.dimming.level }) ∧
    (t.faults.flags.cabinetDark = false → t.dimming.level = s.dimming.level ∨ t.dimming.level = 0) ∧
    (t.faults.flags.cabinetDark = true → t.dimming.level = 0 ∧
      (s.dimming.level ≠ 0 → s.handed.count .lZeroNotice < t.handed.count .lZeroNotice))

/-- Where CABINET_DARK stands as before and no module has been admitted, the Dimming Controller is as it was. -/
def DimmingKept (s t : State) : Prop :=
  t.faults.flags.cabinetDark = s.faults.flags.cabinetDark → t.faults.history = s.faults.history → t.dimming = s.dimming

/-- The start of CABINET_DARK has given its ACTIVE record and its RAISED report, unless every slot is in use, and its end has
freed the record with its CLEARED report (R133, R135 to R137, R142). `u` is the state with the command taken. -/
def DarkRecorded (u t : State) : Prop :=
  (u.faults.flags.cabinetDark = false → t.faults.flags.cabinetDark = true →
    t.faults.full ∨ ((∃ r, Holds t.faults none .cabinetDark r ∧ r.state = .active) ∧
      ∃ reports, ReportsGiven u reports t ∧ ⟨.raised, some .cabinetDark, none, .absent⟩ ∈ reports)) ∧
  (u.faults.flags.cabinetDark = true → t.faults.flags.cabinetDark = false →
    HoldsNone t.faults none .cabinetDark ∧ ∀ r, Holds u.faults none .cabinetDark r → r.state = .active →
      ∃ reports, ReportsGiven u reports t ∧ ⟨.cleared, some .cabinetDark, none, r.detail⟩ ∈ reports)

/-- The commands that are events of the Fault Monitor in which module states change, and when it takes them; CABINET_DARK is
no delivery of its own (R124, R140, R142, R144). -/
def FaultEvent (s : State) : Instr → Prop
  | .faultEvaluationDelivery es => s.started = true ∧ ∀ e ∈ es, e.kind.debounced = true
  | .conditionDelivery x _ => s.started = true ∧ x ≠ .cabinetDark
  | .tableEccDelivery _ _ => s.started = true
  | .restoreWindowExpiry => True
  | .faultClear h _ => s.receives h
  | _ => False

/-- The state with a command taken that one block has handed to another. -/
def State.taken (s : State) : Instr → State
  | .restoreWindowExpiry => s
  | .faultClear _ _ => s
  | c => { s with handed := s.handed.erase c }

/-- A delivery of the evaluation `e` alone takes `s` to `t` and hands over `reports` as its delivery, where there are any. -/
def EvaluationCarried (s : State) (e : Evaluation) (reports : List Report) (t : State) : Prop :=
  let c : Instr := .faultEvaluationDelivery [e]
  (∃ own, t.handed = s.handed ++ own ∧ ∀ rs, .localReportDelivery rs ∉ own) ∧
  exec c { s with handed := c :: s.handed } = .next (t.reported t.faults reports)

/-- The evaluations listed are carried through one after another, each whole as a delivery of it alone is, and `reports` are
the reports of all of them in order (R124, R137). -/
def EvaluationsCarried : State → List Evaluation → List Report → State → Prop
  | s, [], reports, t => reports = [] ∧ t = s
  | s, e :: es, reports, t => ∃ first rest u, reports = first ++ rest ∧ EvaluationCarried s e first u ∧
      EvaluationsCarried u es rest t

/-- The scope of an evaluation exists: the cabinet, or a module below the module count (R124). -/
def State.hasScope (s : State) : Option Nat → Prop
  | none => True
  | some m => m < s.faults.modules.length

/-- A FAULT-READ carried out (R143). -/
def FaultsRead (args : List Byte) (s : State) (a : Answer) (t : State) : Prop :=
  t = s ∧
  (∀ c, args = [c] → c.toNat ≤ 63 → ∃ shown more next, a = ⟨.ok, .faults s.faults.records.length shown more next⟩ ∧
    shown.length ≤ 4 ∧
    (∀ e ∈ shown, e.record ∈ s.faults.records ∧ c.toNat ≤ e.record.slot ∧ e.severity = severityOf e.record.kind ∧
      e.flap = e.record.scope.map fun m => s.faults.flaps.getD (4 * m + (e.record.kind.code - 1)) 0) ∧
    shown.Pairwise (fun x y => x.record.slot < y.record.slot) ∧
    (more = true → shown.length = 4 ∧ (∀ e ∈ shown, e.record.slot < next) ∧ (∃ e ∈ shown, next = e.record.slot + 1) ∧
      (∀ r ∈ s.faults.records, c.toNat ≤ r.slot → r.slot < next → ∃ e ∈ shown, e.record = r) ∧
      ∃ r ∈ s.faults.records, next ≤ r.slot) ∧
    (more = false → next = 0 ∧ ∀ r ∈ s.faults.records, c.toNat ≤ r.slot → ∃ e ∈ shown, e.record = r)) ∧
  ((∀ c, args = [c] → 63 < c.toNat) → a = ⟨.badArgs, .empty⟩)

/-- The reports of an event that say that a record of a module kind is CLEARED. -/
def clearedOfModules (reports : List Report) : List Report :=
  reports.filter fun p => p.report == .cleared && p.kind.any FaultKind.moduleScope

/-- A FAULT-CLEAR carried out (R144). Form 0 frees the LATCHED record that it names, with its flap counter at 0; form 1 frees
every LATCHED record, with one CLEARED report each in increasing slot order and their flap counters at 0, and does nothing
where there is none. Every other record stays, and so does every other flap counter; the modules' states are derived, and
nothing outside the Fault Monitor changes but what CABINET_DARK brings. -/
def FaultsCleared (args : List Byte) (s : State) (a : Answer) (t : State) : Prop :=
  (∀ m k kind, args = [0, m, k] → m.toNat ≤ 31 → kind.moduleScope = true → k.toNat = kind.code →
    ((∀ r, Holds s.faults (some m.toNat) kind r → r.state ≠ .latched) → a = ⟨.notFound, .empty⟩ ∧ t = s) ∧
    (∀ r, Holds s.faults (some m.toNat) kind r → r.state = .latched →
      a = ⟨.ok, .cleared 1⟩ ∧ FaultFreed s m.toNat r t ∧
      t.faults.flaps = s.faults.flaps.set (4 * m.toNat + (kind.code - 1)) 0)) ∧
  (args = [1] → ∃ rs : List FaultRecord,
    (∀ r, r ∈ rs ↔ r ∈ s.faults.records ∧ r.state = .latched) ∧ rs.Pairwise (fun x y => x.slot < y.slot) ∧
    a = ⟨.ok, .cleared rs.length⟩ ∧ (rs = [] → t = s) ∧
    (rs ≠ [] → ∃ reports, ReportsGiven s reports t ∧
      clearedOfModules reports = rs.map fun r => ⟨.cleared, some r.kind, r.scope, r.detail⟩) ∧
    OtherRecordsKept s.faults (fun q => q.state = .latched) t.faults ∧ (∀ r ∈ t.faults.records, r.state ≠ .latched) ∧
    (∀ i, t.faults.flaps.getD i 0 =
      if ∃ r ∈ rs, ∃ m, r.scope = some m ∧ i = 4 * m + (r.kind.code - 1) then 0 else s.faults.flaps.getD i 0) ∧
    ModulesDerived s (fun m => ∃ r ∈ rs, r.scope = some m) t ∧ OnlyFaults s t) ∧
  ((∀ m k, args = [0, m, k] → 31 < m.toNat ∨ k.toNat = 0 ∨ 4 < k.toNat) → args ≠ [1] →
    a = ⟨.badArgs, .empty⟩ ∧ t = s)

/-! ## The Table Store -/

/-- The bank that a table swaps in at a SYNC with this frame number, if it is POSTED and due (R173). -/
def State.dueBank (s : State) (frame : Word) (x : Table) : Option (List Word) :=
  match (s.table x).shadow with
  | .posted bank e => if (frame - e).toNat < 32768 then some bank else none
  | _ => none

/-- The drive geometry that a LAYOUT bank with these bad marks gives (R99). -/
def GeometryTaken (bank : List Word) (bad : List Nat) (g : DriveGeometry) : Prop :=
  ((∀ i, 4 ≤ i → i ≤ 10 → i ∉ bad) →
    g = ⟨entry bank 5 * entry bank 4, entry bank 4, entry bank 6, entry bank 7, entry bank 8, entry bank 9 != 0,
      entry bank 10⟩) ∧
  ((∃ i, 4 ≤ i ∧ i ≤ 10 ∧ i ∈ bad) → g = ⟨1, 1, 16, 16, 1, false, 1⟩)

/-- Step 6 of a swap (R174): where the swap ends UNCONFIGURED, T is recomputed before the blocks act (R68, R70). `u` is the
state with steps 1 to 5 made. -/
def UnconfiguredEnded (s u v : State) : Prop :=
  (s.unconfigured = true → u.unconfigured = false → Recomputed u v) ∧
  (s.unconfigured = false ∨ u.unconfigured = true → v = u)

/-- What a swap that acts at the Fault Monitor leaves at the Dimming Controller, `e` being the state in which it comes to the
Fault Monitor: what it is there, where CABINET_DARK stands as before and no module is admitted, and otherwise what the change
of CABINET_DARK makes of it (R70, R76, R142, R174). -/
def DimmingFollows (e t : State) : Prop := DimmingKept e t ∧ DarkTold e t

/-- The record is one of a module that a module count of `n` removes (R146). -/
def OfRemoved (n : Nat) (r : FaultRecord) : Prop := ∃ m, r.scope = some m ∧ n ≤ m

/-- What swaps leave of the Fault Monitor: the ACTIVE and LATCHED records that are not `gone`, the record of CABINET_DARK apart,
the affected tables, and every condition but CABINET_DARK; and no record of a debounced kind is new. -/
def SwapKeeps (f : Faults) (gone : FaultRecord → Prop) (g : Faults) : Prop :=
  (∀ r ∈ f.records, ¬ gone r → r.kind ≠ .cabinetDark → r.state = .active ∨ r.state = .latched → r ∈ g.records) ∧
  (∀ r ∈ g.records, (r ∈ f.records ∧ ¬ gone r) ∨ r.kind.debounced = false) ∧
  g.affected = f.affected ∧ g.flags = { f.flags with cabinetDark := g.flags.cabinetDark }

/-- A slot is free for the record of CABINET_DARK, or the condition holds already, so that its start evicts no record. -/
def Faults.roomForDark (f : Faults) : Prop := (∃ n, LowestFree f n) ∨ f.flags.cabinetDark = true

/-- At a swap of LAYOUT alone, `e` being the state in which it comes to the Fault Monitor (R135, R138, R142, R146): CABINET_DARK
and its record are as the blanked count has them; with every condition recorded and room for CABINET_DARK's record, the records
of the modules that are left and of the cabinet stay, and, where each module had the state that R138 gives it, the places in
the restore queue and the history stay too; and where a record of a removed module was freed, no condition that holds lacks its
record while a slot is free. -/
def LayoutSwappedAlone (s e t : State) : Prop :=
  let n := t.drive.geometry.modules
  DimmingFollows e t ∧
  (s.faults.tableWf → (∀ r ∈ s.faults.records, ∀ m, r.scope = some m → m < 32) →
    ((s.faults.flags.cabinetDark = false → HoldsNone s.faults none .cabinetDark) → DarkRecorded e t) ∧
    (s.faults.atRest → s.faults.roomForDark →
      OtherRecordsKept s.faults (OfRemoved n) t.faults ∧ t.faults.lostDetections = s.faults.lostDetections ∧
      t.faults.flags.cabinetDark = decide (t.darkAt ≤ t.blankedNow) ∧
      ((∀ m x, s.faults.modules[m]? = some x → ModuleDerived s m x) →
        (∀ m ∈ s.faults.restoreQueue, m < 32 ∧ ∃ x, s.faults.modules[m]? = some x ∧ x.state = .restoreWait) →
        t.faults.restoreQueue = s.faults.restoreQueue.filter (fun m => m < n) ∧ t.faults.history = s.faults.history)) ∧
    ((∃ r ∈ s.faults.records, OfRemoved n r) →
      ∀ k ∈ [FaultKind.streamLost, .tableEcc, .clockUnset, .storeInvalid, .cabinetDark],
        t.faults.presentCondition k ≠ none → HoldsNone t.faults none k → t.faults.full))

/-- At a swap of POLICY alone, `e` being the state in which it comes to the Fault Monitor (R138, R142): every module's state is
derived, CABINET_DARK and its record are as the blanked count has them, and with room for its record every other record
stays. -/
def PolicySwappedAlone (s e t : State) : Prop :=
  DimmingFollows e t ∧
  (s.faults.tableWf → ModulesDerived s (fun _ => True) t ∧
    ((s.faults.flags.cabinetDark = false → HoldsNone s.faults none .cabinetDark) → DarkRecorded e t) ∧
    (s.faults.roomForDark →
      OtherRecordsKept s.faults (fun _ => False) t.faults ∧ t.faults.lostDetections = s.faults.lostDetections))

/-- At a swap of LIMITS alone, `e` being the state in which it comes to the Fault Monitor (R142): CABINET_DARK is evaluated
against the new B, and with room for its record and the restore queue at rest every other record, the modules, the queue and
the history stay. -/
def LimitsSwappedAlone (s e t : State) : Prop :=
  DarkTold e t ∧ (s.faults.roomForDark → DimmingKept e t) ∧
  (s.faults.tableWf → (s.faults.flags.cabinetDark = false → HoldsNone s.faults none .cabinetDark) → DarkRecorded e t) ∧
  (s.faults.roomForDark → s.faults.restoreQueue = [] ∨ s.faults.history.length = 4 →
    t.faults.flags.cabinetDark = decide (t.darkAt ≤ s.blankedNow) ∧
    t.faults.modules = s.faults.modules ∧ t.faults.restoreQueue = s.faults.restoreQueue ∧
    t.faults.history = s.faults.history ∧ t.faults.lostDetections = s.faults.lostDetections ∧
    (s.faults.tableWf → OtherRecordsKept s.faults (fun _ => False) t.faults))

/-- What a swap of LAYOUT leaves at the blocks that act on it (R39, R58, R103, R146, R174, R192). At the Fault Monitor: the
records of the removed modules are freed, those not in SUSPECT with a CLEARED report each, in module and slot order, first of
all; their flap counters are 0; the flap counters of the modules left stay, and so do the ACTIVE and LATCHED records; and every
module's state is derived. -/
def LayoutSwapped (s : State) (bank : List Word) (t : State) : Prop :=
  ∃ g, GeometryTaken bank [] g ∧
    t.tables.layoutMissing = false ∧
    t.agent = { s.agent with storeInvalid := false } ∧
    (s.agent.storeInvalid = true → .conditionDelivery .storeInvalid false ∈ t.handed) ∧
    t.drive = { s.drive with
      geometry := g, position := 0, startLine := 0, unemitted := none
      sweepPointer := if g.modules ≤ s.drive.sweepPointer then 0 else s.drive.sweepPointer
      inFlight := s.drive.inFlight.filter fun p => p.module < g.modules } ∧
    PassCutOff s t.out ∧
    t.capture = { s.capture with displayed := none, opened := none } ∧
    t.trims.length = s.trims.length ∧
    (∀ i, t.trims.getD i 0 =
      if i < 3 * g.modules ∨ g.modules = s.drive.geometry.modules then s.trims.getD i 0 else 0) ∧
    t.faults.modules.length = g.modules ∧
    (s.faults.flaps.length = 128 → t.faults.flaps.length = 128 ∧
      ∀ i, t.faults.flaps.getD i 0 = if i < 4 * g.modules then s.faults.flaps.getD i 0 else 0) ∧
    (s.faults.tableWf → (∀ r ∈ s.faults.records, ∀ m, r.scope = some m → m < 32) →
      (∀ r ∈ t.faults.records, ∀ m, r.scope = some m → m < g.modules) ∧
      SwapKeeps s.faults (OfRemoved g.modules) t.faults ∧
      (∀ m x, t.faults.modules[m]? = some x → ModuleDerived t m x) ∧
      ∃ freed : List FaultRecord,
        (∀ r, r ∈ freed ↔ r ∈ s.faults.records ∧ OfRemoved g.modules r ∧ r.state ≠ .suspect) ∧
        freed.Pairwise (fun a b =>
          ∀ m k, a.scope = some m → b.scope = some k → m < k ∨ (m = k ∧ a.slot < b.slot)) ∧
        (freed ≠ [] → ∃ more, .localReportDelivery
          ((freed.map fun r => ⟨.cleared, some r.kind, r.scope, r.detail⟩) ++ more) ∈ t.handed))

/-- A shadow holds the values written from an index on, `old` elsewhere, and its damage marks are those of `damaged` that
were not written; the reply counts them (R170). -/
def ShadowWritten (s : State) (x : Table) (old : Nat → Word) (damaged : Nat → Prop) (first : Nat) (values : List Word)
    (a : Answer) (t : State) : Prop :=
  ∃ b d, t = s.setTable x { s.table x with shadow := .editing b d } ∧ b.length = x.size ∧
    (∀ i, i < x.size →
      b.getD i 0 = if first ≤ i ∧ i < first + values.length then values.getD (i - first) 0 else old i) ∧
    (∀ i, i ∈ d ↔ damaged i ∧ ¬ (first ≤ i ∧ i < first + values.length)) ∧ d.Nodup ∧
    a = ⟨.ok, .written x.code first values.length d.length⟩

/-- The first byte of the arguments, or the lack of one, is no table code. -/
def NoTable (args : List Byte) : Prop := ∀ code rest, args = code :: rest → code.toNat = 0 ∨ 8 < code.toNat

/-- A TABLE-WRITE carried out (R170), the storage showing no error. -/
def TableWritten (args : List Byte) (s : State) (a : Answer) (t : State) : Prop :=
  (∀ code hi lo values x, args = code :: hi :: lo :: values.flatMap wordBytes → values ≠ [] → code.toNat = x.code →
    let first := hi.toNat * 256 + lo.toNat
    (x.size < first + values.length → a = ⟨.range, .empty⟩ ∧ t = s) ∧
    (first + values.length ≤ x.size → x.lockable = true → s.tables.lock = true → a = ⟨.locked, .empty⟩ ∧ t = s) ∧
    (first + values.length ≤ x.size → x.lockable = false ∨ s.tables.lock = false →
      (∀ b e, (s.table x).shadow = .posted b e → a = ⟨.busy, .empty⟩ ∧ t = s) ∧
      (∀ b d, (s.table x).shadow = .editing b d →
        ShadowWritten s x (fun i => b.getD i 0) (fun i => i ∈ d) first values a t) ∧
      ((s.table x).shadow = .clean →
        ShadowWritten s x (fun i => if i ∈ (s.table x).bad then 0 else (s.table x).active.getD i 0)
          (fun i => i < x.size ∧ i ∈ (s.table x).bad) first values a t))) ∧
  (args.length < 5 ∨ args.length % 2 = 0 ∨ NoTable args → a = ⟨.badArgs, .empty⟩ ∧ t = s)

/-- The contents of a bank that a request names, and its bad or damage marks; a CLEAN shadow is the active bank (R165). -/
def State.contents (s : State) (x : Table) : BankName → List Word × List Nat
  | .active => ((s.table x).active, (s.table x).bad)
  | .shadow =>
    match (s.table x).shadow with
    | .clean => ((s.table x).active, (s.table x).bad)
    | .editing b d => (b, d)
    | .posted b _ => (b, [])

/-- The bank whose storage a read of the named bank consults (R165). -/
def State.consulted (s : State) (x : Table) (b : BankName) : BankName :=
  if (s.table x).shadow = .clean then .active else b

/-- An entry of an active bank is withdrawn after an uncorrectable error (R166): it is marked bad, TABLE_ECC is handed
over, and UNCONFIGURED begins at the Dimming Controller and Frame Capture where this is its first cause (R169, R76, R40). -/
def Withdrawn (s : State) (x : Table) (i : Nat) (t : State) : Prop :=
  let u : State := { s.setTable x { s.table x with bad := (s.table x).bad ++ [i] } with
    handed := s.handed ++ [.tableEccDelivery x true] }
  (x.essential = true → s.unconfigured = false →
    ∃ v w, Lowered u 0 v ∧ Recomputed v w ∧ t = { w with capture := { s.capture with opened := none } }) ∧
  (x.essential = false ∨ s.unconfigured = true → t = u)

/-- One read of an entry that carries no mark, for what the storage shows at it: what TABLE-READ returns for it and what
the read leaves (R166, R168, R171). -/
def EntryRead (s : State) (x : Table) (b : BankName) (i : Nat) : StorageOutcome → Word × EntryMark → State → Prop
  | .sound, r, t => r = ((s.contents x b).1.getD i 0, .good) ∧ t = s
  | .correctable, r, t => r = ((s.contents x b).1.getD i 0, .corrected) ∧
      t = { s with tables := { s.tables with
        corrected := counted s.tables.corrected, lastCorrected := some ⟨x, s.consulted x b, i⟩ } }
  | .uncorrectable, r, t => r = (0, .bad) ∧
      (s.consulted x b = .active → Withdrawn s x i t) ∧
      (s.consulted x b = .shadow → t = s.setTable x
        { s.table x with shadow := .editing (s.contents x b).1 ((s.contents x b).2 ++ [i]) })

/-- A TABLE-READ carried out (R171): over any range while the storage shows no error, and over one unmarked entry whatever
it shows there. -/
def TableReadOut (args : List Byte) (s : State) (a : Answer) (t : State) : Prop :=
  (∀ code bank i₁ i₀ c₁ c₀ x b, args = [code, bank, i₁, i₀, c₁, c₀] → code.toNat = x.code → bank.toNat = b.code →
    let first := i₁.toNat * 256 + i₀.toNat
    let count := c₁.toNat * 256 + c₀.toNat
    let answered := fun (u : State) (es : List (Word × EntryMark)) =>
      a = ⟨.ok, .entries x.code b.code first count (u.table x).shadow.name (u.table x).generation (u.table x).shadow.e es⟩
    (1 ≤ count → count ≤ 1024 → x.size < first + count → a = ⟨.range, .empty⟩ ∧ t = s) ∧
    (1 ≤ count → count ≤ 1024 → first + count ≤ x.size → s.storage = [] →
      t = s ∧ ∃ es : List (Word × EntryMark), answered s es ∧ es.length = count ∧
        ∀ j, j < count → es[j]? = some (if first + j ∈ (s.contents x b).2 then (0, .bad)
          else ((s.contents x b).1.getD (first + j) 0, .good))) ∧
    (count = 1 → first < x.size → first ∉ (s.contents x b).2 → ∀ o,
      s.storage = [⟨x, s.consulted x b, first, o⟩] →
      ∃ r, EntryRead { s with storage := [] } x b first o r t ∧ answered t [r]) ∧
    (count = 0 ∨ 1024 < count → a = ⟨.badArgs, .empty⟩ ∧ t = s)) ∧
  (args.length ≠ 6 ∨ NoTable args ∨ (∀ c b rest, args = c :: b :: rest → 1 < b.toNat) →
    a = ⟨.badArgs, .empty⟩ ∧ t = s)

/-- A TABLE-COMMIT carried out (R172), the storage showing no error. -/
def TableCommitted (args : List Byte) (s : State) (a : Answer) (t : State) : Prop :=
  (∀ (code hi lo : Byte) (x : Table), args = [code, hi, lo] → code.toNat = x.code →
    let e : Word := hi ++ lo
    (x.lockable = true → s.tables.lock = true → a = ⟨.locked, .empty⟩ ∧ t = s) ∧
    (x.lockable = false ∨ s.tables.lock = false →
      (s.agent.save ≠ none → a = ⟨.busy, .empty⟩ ∧ t = s) ∧
      (s.agent.save = none →
        ((s.table x).shadow = .clean → a = ⟨.ok, .nothingToCommit (s.table x).generation⟩ ∧ t = s) ∧
        (∀ b e', (s.table x).shadow = .posted b e' → a = ⟨.busy, .empty⟩ ∧ t = s) ∧
        ∀ b d, (s.table x).shadow = .editing b d →
          (∀ i ∈ d, (∀ j ∈ d, i ≤ j) → a = ⟨.invalid, .invalid i .damaged⟩ ∧ t = s) ∧
          (d = [] → ∀ i, validate x b = some i → a = ⟨.invalid, .invalid i .check⟩ ∧ t = s) ∧
          (d = [] → validate x b = none → a = ⟨.posted, .posted e ((s.table x).generation + 1)⟩ ∧
            t = s.setTable x { s.table x with shadow := .posted b e })))) ∧
  (args.length ≠ 3 ∨ NoTable args → a = ⟨.badArgs, .empty⟩ ∧ t = s)

/-- A TABLE-ABANDON carried out (R175). -/
def TableAbandoned (args : List Byte) (s : State) (a : Answer) (t : State) : Prop :=
  (∀ code x, args = [code] → code.toNat = Table.code x →
    a = ⟨.ok, .abandoned (s.table x).shadow.name⟩ ∧ t = s.setTable x { s.table x with shadow := .clean }) ∧
  (args.length ≠ 1 ∨ NoTable args → a = ⟨.badArgs, .empty⟩ ∧ t = s)

/-- A CEILING-LOCK carried out (R176). -/
def CeilingLocked (args : List Byte) (s : State) (a : Answer) (t : State) : Prop :=
  let b := s.tables.banks
  (args = [] → s.tables.lock = true → a = ⟨.ok, .locked true 0⟩ ∧ t = s) ∧
  (args = [] → s.tables.lock = false →
    a = ⟨.ok, .locked false
      ((if b.schedule.shadow = .clean then 0 else 1) + (if b.limits.shadow = .clean then 0 else 1))⟩ ∧
    t = { s with tables := { s.tables with
      lock := true
      banks := { b with schedule := { b.schedule with shadow := .clean }, limits := { b.limits with shadow := .clean } } } }) ∧
  (args ≠ [] → a = ⟨.badArgs, .empty⟩ ∧ t = s)

/-! ## The Management Agent -/

/-- A record is handed to the side port, and the SAVE stands there (R187). -/
def RecordHanded (s : State) (run : SaveRun) (t : State) : Prop :=
  t = { s with agent := { s.agent with save := some run }, out := s.out ++ [.storeWrite run.writing] }

/-- The record of a table is formed from its active bank, 0 for a bad entry and void where there is one, and handed to the
side port (R187). -/
def TableHanded (s : State) (run : SaveRun) (x : Table) (t : State) : Prop :=
  ∃ values void,
    values.length = x.size ∧
    (∀ i, i < x.size → values.getD i 0 = if i ∈ (s.table x).bad then 0 else (s.table x).active.getD i 0) ∧
    (void = true ↔ ∃ i, i < x.size ∧ i ∈ (s.table x).bad) ∧
    RecordHanded s
      { run with
        writing := .table x ⟨x.code, x.size, values, void, true⟩
        voids := run.voids ++ (if void then [x.code] else []) } t

/-- A SAVE ends: the flag is cleared and, when it was taken under POSITION, its reply is formed (R182, R187). -/
def SaveEnded (s : State) (run : SaveRun) (a : Answer) (t : State) : Prop :=
  let u : State := { s with agent := { s.agent with save := none } }
  (∀ tag, run.replyTag = some tag → Offered u (.own ⟨s.link.position, tag, 0x0F, a.status, a.payload⟩) t) ∧
  (run.replyTag = none → t = u)

/-- A SAVE is taken (R186): the count goes up, and the header is written as OPEN with it. -/
def SaveBegun (s : State) (h : MgmtHead) (t : State) : Prop :=
  let count := s.agent.saveCount + 1
  RecordHanded
    { s with agent := { s.agent with saveCount := count }, flash := { s.flash with header := ⟨false, count, true⟩ } }
    ⟨.headerOpen count, [], if h.mode = 0 then some h.tag else none⟩ t

/-- The time left of a timer is `n`: duration less elapsed time, 0 where it is stopped or past. -/
def TimeLeft (x : Option Timer) (now : Count) (n : Nat) : Prop :=
  (x = none → n = 0) ∧ ∀ y, x = some y → n = y.duration - (now - y.start).toNat

/-- The payload of STATUS-READ, field by field (R1, R3, R13, R42, R82, R97, R110, R122, R145, R163, R179, R184). -/
def StatusShows (s : State) (r : StatusReport) : Prop :=
  let l := s.link
  let c := s.capture
  let d := s.dimming
  let x := s.time
  let p := s.drive.inFlight
  r.link = ⟨l.upU, l.upD, l.uDiscard, l.dDiscard, l.forwardOverflow, l.repliesLost, l.uFailures, l.position⟩ ∧
  (c.displayed = none → r.capture = ⟨false, 0, 0, 0, 0, c.opened.isSome, (c.opened.map OpenFrame.content).getD 0,
    c.incomplete⟩) ∧
  (∀ y, c.displayed = some y → r.capture = ⟨true, y.content, y.frame, y.signature, y.dwell, c.opened.isSome,
    (c.opened.map OpenFrame.content).getD 0, c.incomplete⟩) ∧
  r.dimming = ⟨d.level, d.target, d.ceiling, d.mode, d.source, d.lux, d.luxValid, d.override.isSome,
    (d.override.map Override.level).getD 0, (d.override.map Override.minutes).getD 0⟩ ∧
  (∃ j, r.time = ⟨x.count, x.weekday, x.minute, x.ms, x.clockSet, x.drift, x.ceiling, x.source, j⟩ ∧
    (∀ i, x.source = .entry i → j = i) ∧ ((∀ i, x.source ≠ .entry i) → j = 0)) ∧
  r.drive = ⟨s.drive.geometry.modules, s.drive.startLine, s.drive.sweepPointer, s.drive.sweepCount, p.isSome,
    (p.map Poll.module).getD 0, (p.map Poll.number).getD 0, (p.map fun y => x.count - y.sentAt).getD 0⟩ ∧
  (∃ left, r.stream = ⟨s.stream.state, (s.stream.lastSync.map fun y => x.count - y).getD 0, s.stream.lastSync.isSome, left⟩ ∧
    (s.stream.state = .holding → TimeLeft s.stream.hold x.count left) ∧ (s.stream.state ≠ .holding → left = 0)) ∧
  (∃ modules : List (Option ModuleState), modules.length = 32 ∧
    (∀ m, m < 32 → modules[m]? = some (s.faults.modules[m]?.map ModuleStatus.state)) ∧
    r.faults = ⟨s.faults.records.length, s.faults.records.countP fun y => y.state == .active || y.state == .clearing,
      s.faults.records.countP fun y => y.state == .latched,
      s.faults.modules.countP fun y => y.state == .blanked || y.state == .restoreWait, s.faults.flags.cabinetDark, modules,
      s.faults.restoreQueue, s.faults.history.map fun y => x.count - y, s.faults.affected, s.faults.lostDetections⟩) ∧
  (∃ left, r.reports = ⟨s.reports.queue.length, s.reports.lostLocal, s.reports.lostForwarded, s.reports.holdMark,
      (s.reports.lastHold.map fun y => x.count - y).getD 0, left, s.reports.summaryCount⟩ ∧
    TimeLeft s.reports.inbound x.count left) ∧
  r.store = ⟨Table.all.map fun y => ⟨(s.table y).shadow.name, (s.table y).shadow.e, (s.table y).generation,
      (s.table y).bad.length, (s.table y).shadow.damage.length⟩, s.tables.lock, s.tables.corrected, s.tables.lastCorrected,
    s.unconfigured, ⟨s.tables.layoutMissing, decide ((s.table .layout).bad ≠ []), decide ((s.table .limits).bad ≠ []),
      decide ((s.table .policy).bad ≠ [])⟩⟩ ∧
  r.agent = ⟨s.agent.save.isSome, s.agent.saveCount, s.agent.storeInvalid, s.agent.results, s.agent.trimResult⟩

/-! ## Resets and start-up -/

/-- The conditions that the holders hand over when the blocks begin, with the tables whose banks keep bad marks
(R180, R189, R191, R192). -/
def State.conditionsHeld (s : State) : List Instr :=
  (if s.time.clockSet then [] else [.conditionDelivery .clockUnset true]) ++
    (Table.all.filter fun x => (s.table x).bad != []).map (fun x => .tableEccDelivery x true) ++
    (if s.agent.storeInvalid then [.conditionDelivery .storeInvalid true] else [])

/-- The values common to the resets of every kind (R43, R83, R111, R123, R147, R164, R180, R188), but for what start-up or
the begin of the blocks sets. -/
def ResetCommon (t : State) : Prop :=
  t.capture.displayed = none ∧ t.capture.opened = none ∧ t.capture.incomplete = 0 ∧
  (∃ c, t.dimming = ⟨0, 0, .forcedDark, .fallback, none, 0, false, c⟩) ∧
  (∃ g, t.drive = ⟨g, 0, 0, 0, 0, 0, none, none⟩) ∧
  (∃ x, t.stream = ⟨.dark, none, none, x, none, []⟩) ∧
  t.faults.records = [] ∧ t.faults.flaps = List.replicate 128 0 ∧ t.faults.flags = ⟨false, false, false, false⟩ ∧
  t.faults.affected = [] ∧ (∀ x ∈ t.faults.modules, x = ⟨.lit, 1024⟩) ∧ t.faults.restoreQueue = [] ∧
  t.faults.lostDetections = 0 ∧
  t.reports = ⟨[], 0, 0, 0, false, none, none, none⟩ ∧
  (∀ x, (t.table x).shadow = .clean) ∧ t.agent.save = none

/-- The values that a power-on reset and a pin reset set at once (R13, R22, R58, R98, R123, R190, R191), beside the common
ones. -/
def ResetWhole (s t : State) : Prop :=
  ResetCommon t ∧ t.started = false ∧
  t.link = ⟨false, false, s.link.partnerU, s.link.partnerD, false, 0, 0, 0, 0, 0, 0, [], none, .idle, [], .idle⟩ ∧
  t.trims = List.replicate 96 0 ∧ t.stream.localTick = none ∧ t.time.ceiling = 0 ∧ t.time.source = .unset ∧
  t.tables.corrected = 0 ∧ t.tables.lastCorrected = none ∧ PassCutOff s t.out ∧ t.flash = s.flash ∧ t.pending = s.pending

/-- The record of a table in the parameter store is good (R185). -/
def RecordGood (f : Flash) (x : Table) (r : FlashTable) : Prop :=
  f.tables[x.code - 1]? = some r ∧ f.header.checkGood = true ∧ f.header.closed = true ∧ r.checkGood = true ∧
  r.code = x.code ∧ r.count = x.size ∧ r.values.length = x.size ∧ r.isVoid = false ∧ validate x r.values = none

/-- The trim record in the parameter store is good (R185). -/
def TrimsGood (f : Flash) : Prop :=
  f.header.checkGood = true ∧ f.header.closed = true ∧ f.trims.checkGood = true ∧ f.trims.values.length = 96 ∧
  ∀ t ∈ f.trims.values, -16 ≤ t ∧ t ≤ 15

/-- Start-up has set every table: its result and its record (R190). -/
def TablesLoaded (s t : State) : Prop :=
  t.agent.results.length = 8 ∧
  ∀ x, let result := t.agent.results[Table.code x - 1]?
    (s.tables.lock = true → x.lockable = true → t.table x = s.table x ∧ result = some .kept) ∧
    (s.tables.lock = false ∨ x.lockable = false →
      (∀ r, RecordGood s.flash x r → t.table x = ⟨r.values, .clean, 0, []⟩ ∧ result = some .loaded) ∧
      ((∀ r, ¬ RecordGood s.flash x r) → t.table x = ⟨defaultBank x, .clean, 0, []⟩ ∧ result = some .default))

/-- Start-up has set the trims, the flags and the lock (R177, R190). -/
def StoreLoaded (s t : State) : Prop :=
  TablesLoaded s t ∧
  (TrimsGood s.flash → t.trims = s.flash.trims.values ∧ t.agent.trimResult = .loaded) ∧
  (¬ TrimsGood s.flash → t.trims = List.replicate 96 0 ∧ t.agent.trimResult = .zero) ∧
  t.agent.saveCount = (if s.flash.header.checkGood then s.flash.header.saveCount else 0) ∧
  (t.agent.storeInvalid = true ↔ .default ∈ t.agent.results ∨ t.agent.trimResult = .zero) ∧
  (t.tables.layoutMissing = true ↔ t.agent.results[0]? = some .default) ∧
  (t.tables.lock = true ↔ s.tables.lock = true ∨ t.present .limits 10 = none ∨ t.present .limits 10 = some 1)

/-- The blocks have begun (R96, R99, R123, R191): C is evaluated and held by the Dimming Controller, the drive geometry is
taken, every module is LIT, local ticks run, and the conditions are handed over. `s` is the state before. -/
def BlocksBegun (s t : State) : Prop :=
  CeilingEvaluated t t.time.ceiling t.time.source ∧ t.dimming.ceiling = t.time.ceiling ∧
  GeometryTaken (t.table .layout).active (t.table .layout).bad t.drive.geometry ∧
  t.faults.modules = List.replicate t.drive.geometry.modules ⟨.lit, 1024⟩ ∧
  t.stream.localTick = some ⟨s.time.count, t.presentOrDefault .limits 9⟩ ∧
  t.time = { s.time with ceiling := t.time.ceiling, source := t.time.source } ∧
  t.handed = s.handed ++ t.conditionsHeld

/-- What a SOFT-RESET sets and keeps, block by block (Table 11-4). Of what has been handed over the second event alone is left
(log entry 23). -/
def SoftReset (s t : State) : Prop :=
  ResetCommon t ∧ BlocksBegun { s with handed := s.handed.filter (· == Instr.secondEventLink) } t ∧
  t.link = { s.link with
    holdSlot := none
    sendingU := if s.link.sendingU = .report true then .report false else s.link.sendingU } ∧
  t.faults.history = s.faults.history ∧
  t.trims = s.trims ∧ (∀ x, t.table x = { s.table x with shadow := .clean }) ∧ t.tables.lock = s.tables.lock ∧
  t.tables.corrected = s.tables.corrected ∧ t.tables.lastCorrected = s.tables.lastCorrected ∧
  t.tables.layoutMissing = s.tables.layoutMissing ∧ t.agent = { s.agent with save := none } ∧ t.flash = s.flash ∧
  t.started = s.started ∧ PassCutOff s t.out ∧ t.pending = s.pending

/-- A command that one block hands to another, or that drives the modules: none of them acts before start-up completes
(R100, R191). -/
def waitsForStart : Instr → Bool
  | .frameCaptureSync _ _ => true
  | .dimmingSync _ _ => true
  | .tableStoreSync _ => true
  | .streamSync => true
  | .sweepCountSync => true
  | .sweepTick => true
  | .secondEventLink => true
  | .summaryCountAdvance => true
  | .minuteEventCeiling => true
  | .sweepCountLocalTick => true
  | .moduleComputation => true
  | .faultEvaluationDelivery _ => true
  | .conditionDelivery _ _ => true
  | .tableEccDelivery _ _ => true
  | .localReportDelivery _ => true
  | _ => false

/-! ## The invariants that every step keeps -/

/-- The Link Interface and the Report Queue, in every state: DOWN ports hold nothing and send nothing, the three buffers keep
their sizes, what is being sent is there to be sent, an UP port with nothing being sent has nothing it could send, no
REPORT is sent while the inbound hold runs, and the outbound hold mark, its timer and the last HOLD agree (R1, R3, R9, R11,
R13, R18, R19, R21, R148, R151, R154 to R156, R191). -/
def LinkInvariant (s : State) : Prop :=
  let l := s.link
  let q := s.reports
  (s.started = false → l.upU = false ∧ l.upD = false) ∧
  (l.upD = true → l.dHasBeenUp = true) ∧
  (l.upD = false → l.forwardQueue = [] ∧ l.holdSlot = none ∧ l.sendingD = .idle) ∧
  (l.upU = false → l.replies = [] ∧ l.sendingU = .idle) ∧
  l.forwardQueue.length ≤ 4 ∧ l.replies.length ≤ 4 ∧ q.queue.length ≤ 48 ∧
  (l.sendingD = .forwarded → l.forwardQueue ≠ []) ∧
  (l.upD = true → l.sendingD = .idle → l.forwardQueue = [] ∧ l.holdSlot = none) ∧
  (l.sendingU = .reply → l.replies ≠ []) ∧ (l.sendingU = .report true → q.queue ≠ []) ∧
  (∀ b, l.sendingU = .report b → q.inbound = none) ∧
  (l.upU = true → l.sendingU = .idle → l.replies = [] ∧ (q.queue = [] ∨ q.inbound ≠ none)) ∧
  l.position ≤ 63 ∧ l.uDiscard ≤ 65535 ∧ l.dDiscard ≤ 65535 ∧ l.forwardOverflow ≤ 65535 ∧ l.repliesLost ≤ 65535 ∧
  l.uFailures ≤ 65535 ∧ q.lostLocal ≤ 65535 ∧ q.lostForwarded ≤ 65535 ∧
  (q.holdMark = true ↔ q.refresh ≠ none) ∧ (q.holdMark = true → q.lastHold ≠ none)

/-- The frame store, the clock, the trims and the override, in every state: the slots keep their canonical form, the
coverage map is rising and lies in its window, the clock is legal, and every value keeps its range (R28, R30, R37, R58,
R79, R84 to R88; Tables 4-1 and 5-1). -/
def StoredDataInvariant (s : State) : Prop :=
  SlotWf s.capture.display ∧ SlotWf s.capture.fill ∧ s.capture.incomplete ≤ 65535 ∧
  (∀ d, s.capture.displayed = some d → d.dwell ≤ 65535) ∧
  (∀ o, s.capture.opened = some o →
    o.coverage.Pairwise (· < ·) ∧ ∀ a ∈ o.coverage, a < o.geometry.width * o.geometry.height) ∧
  1 ≤ s.time.weekday ∧ s.time.weekday ≤ 7 ∧ s.time.minute < 1440 ∧ s.time.ms < 60000 ∧
  s.time.accumulator < 1000000 ∧ s.time.drift.natAbs ≤ 500 ∧
  s.trims.length = 96 ∧ (∀ t ∈ s.trims, -16 ≤ t ∧ t ≤ 15) ∧
  ∀ o, s.dimming.override = some o → o.level ≤ 1024 ∧ 1 ≤ o.minutes ∧ o.minutes ≤ 1440

/-- The banks, in every state: the law of R174, that the active bank of every table satisfies its table's validation, and
a POSTED shadow too; every bank has its table's size, marks are not doubled, SCHEDULE and LIMITS are CLEAN under the lock
(R176), no table is POSTED while a SAVE is in flight (R186), and the drive geometry is one that a valid LAYOUT gives, with
the pass, the sweep pointer and the poll in flight inside it (R24, R99 to R105). -/
def BankInvariant (s : State) : Prop :=
  (∀ x, validate x (s.table x).active = none ∧ (s.table x).active.length = x.size ∧ (s.table x).bad.Nodup ∧
    (∀ b e, (s.table x).shadow = .posted b e →
      validate x b = none ∧ b.length = x.size ∧ s.agent.save = none) ∧
    (∀ b d, (s.table x).shadow = .editing b d → b.length = x.size ∧ d.Nodup ∧ ∀ i ∈ d, i < x.size) ∧
    (s.tables.lock = true → x.lockable = true → (s.table x).shadow = .clean)) ∧
  let g := s.drive.geometry
  1 ≤ g.cols ∧ g.cols ≤ 8 ∧ 1 ≤ g.modules ∧ g.modules ≤ 32 ∧ g.moduleWidth ∈ [16, 32, 64] ∧
  g.moduleHeight ∈ [16, 32, 64] ∧ g.group ∈ [1, 2, 4, 8, 16] ∧ 1 ≤ g.strings ∧ g.strings ≤ 16 ∧
  s.drive.position < g.modules ∧ s.drive.startLine < g.group ∧ s.drive.sweepPointer < g.modules ∧
  (∀ p, s.drive.inFlight = some p → p.module < g.modules) ∧
  (∀ e, s.drive.unemitted = some e → e.module = s.drive.position) ∧
  (s.started = false → s.drive.position = 0 ∧ s.drive.startLine = 0 ∧ s.drive.sweepPointer = 0 ∧ s.drive.inFlight = none ∧
    s.drive.unemitted = none)

/-- The level and the stream, in every state, beside the banks: L and T are at most C, C is at most 1024 and the same at
the Time Base and the Dimming Controller; the mode is FORCED_DARK just while a forced-dark condition holds, and T is 0 then;
L is 0 while the part is UNCONFIGURED or CABINET_DARK holds; each stream timer runs just in its states; and a part that has
not started up receives nothing and is dark (R68 to R70, R73, R75, R76, R83, R96, R113 to R116, R123). -/
def LevelInvariant (s : State) : Prop :=
  BankInvariant s ∧
  s.dimming.level ≤ s.dimming.ceiling ∧ s.dimming.target ≤ s.dimming.ceiling ∧ s.dimming.ceiling ≤ 1024 ∧
  s.time.ceiling = s.dimming.ceiling ∧
  (s.forcedDark = true ↔ s.dimming.mode = .forcedDark) ∧ (s.forcedDark = true → s.dimming.target = 0) ∧
  (s.unconfigured = true → s.dimming.level = 0) ∧ (s.faults.flags.cabinetDark = true → s.dimming.level = 0) ∧
  (s.stream.timeout ≠ none ↔ s.stream.state = .live) ∧ (s.stream.hold ≠ none ↔ s.stream.state = .holding) ∧
  (s.stream.localTick ≠ none ↔ s.started = true ∧ (s.stream.state = .darkening ∨ s.stream.state = .dark)) ∧
  (s.started = false → s.link.upU = false ∧ s.stream.state = .dark ∧ s.dimming.level = 0)

/-- The commands that are waiting can occur. -/
def State.pendingFit (s : State) : Prop := ∀ c ∈ s.pending, c.wellFormed = true

/-- The fault table and the modules, in every state, beside the banks and while the commands that are waiting can occur: the table is as R129 has it and its records fit their
kinds, only module records latch, the flap counters number 128 and are at most 3; there is a status for each module of the
drive geometry, its derate at most 1024; the restore queue holds just the modules in RESTORE_WAIT, each once, and no module
waits that could be admitted; a condition that does not hold has no record, and one that holds lacks its record only while
every slot is in use (R128 to R135, R138 to R140, R146). -/
def FaultTableInvariant (s : State) : Prop :=
  let f := s.faults
  s.pendingFit ∧ BankInvariant s ∧ f.tableWf ∧
  (∀ r ∈ f.records, 1 ≤ r.hits ∧ r.hits ≤ 255 ∧ r.misses ≤ 255 ∧
    (r.scope = none → r.kind.moduleScope = false ∧ r.state ≠ .latched) ∧
    (∀ m, r.scope = some m → m < f.modules.length ∧ r.kind.moduleScope = true)) ∧
  f.flaps.length = 128 ∧ (∀ n ∈ f.flaps, n ≤ 3) ∧
  f.modules.length = s.drive.geometry.modules ∧ (∀ x ∈ f.modules, x.derate ≤ 1024) ∧
  f.restoreQueue.Nodup ∧
  (∀ m, m ∈ f.restoreQueue ↔ ∃ x, f.modules[m]? = some x ∧ x.state = .restoreWait) ∧
  f.history.length ≤ 4 ∧ (f.restoreQueue = [] ∨ f.history.length = 4) ∧ f.lostDetections ≤ 65535 ∧
  (s.started = false → f.records = [] ∧ f.restoreQueue = []) ∧
  ∀ k ∈ [FaultKind.streamLost, .tableEcc, .clockUnset, .storeInvalid, .cabinetDark],
    (f.presentCondition k = none → HoldsNone f none k) ∧
    (f.presentCondition k ≠ none → HoldsNone f none k → ∀ n, n < 64 → ∃ r ∈ f.records, r.slot = n)

end Sys2Proof.Machine
end

