-- ==== Sys2Proof/Certificates/Slice0/Obligations.lean ====
section
/-! DEFINITION. The statements for the provers: what each command of the DK-316 does, and what every step keeps. -/

open Sys2Proof Sys2Proof.Machine

/-! ## The block as a machine -/

/-- A step carries out the command at the front of the queue with the queue's rest, and an empty queue idles (the queue
and its idling are the model's, log entry 2). -/
def Obligations.StepRunsTheFrontCommand : Prop :=
  ∀ s : State,
    (∀ c rest, s.pending = c :: rest → step s = exec c { s with pending := rest }) ∧
    (s.pending = [] → step s = .next s)

/-- Every command, well-formed or not, completes with a next state and leaves the queue of waiting commands alone: no
command faults and none is refused. That a reset too leaves the queue alone, and that a command with operands which no frame
carries completes, are the model's choice (log entries 2 and 39). -/
def Obligations.EveryCommandCompletes : Prop :=
  ∀ (c : Instr) (s : State), Completes c s fun t => t.pending = s.pending

/-! ## The cascade link -/

/-- A port that is DOWN receives no frames: every command that is a frame at a port, good, failed or aborted, changes
nothing while that port is DOWN (R1). -/
def Obligations.DownPortsReceiveNothing : Prop :=
  ∀ (c : Instr) (p : Port) (s : State), receivedAt c = some p → s.portUp p = false → exec c s = .next s

/-- Every down-bound frame, written out in the bytes of Tables 1-1 to 1-5 with its check, is received at U as the command
it stands for, with every field as sent, and fails its check at D (R2). -/
def Obligations.DownFramesAreReadBack : Prop :=
  ∀ (f : DownFrame) (s : State), f.wellFormed = true →
    (∀ h code args, f = .mgmt h code args → s.frameReceived .u (frameBytes f) = downCommand (s.takenHere h).1 f) ∧
    ((∀ h code args, f ≠ .mgmt h code args) → s.frameReceived .u (frameBytes f) = downCommand false f) ∧
    s.frameReceived .d (frameBytes f) = .frameCheckFailure .d

/-- REPORT, REPLY and HOLD frames in the bytes of Tables 1-1, 1-2 and 1-6 and of R7 are received at their ports with
every field as sent, fail their check at the other port, and any down-bound frame whose check field is changed fails its
check (R2). An own REPLY's body has its origin, tag, code and status in the bytes that R7 gives them, with its payload after
them, and the part above receives it as a REPLY of that body. -/
def Obligations.UpFramesAreReadBack : Prop :=
  ∀ s : State,
    (∀ r : ReportRec, s.frameReceived .d (envelope 0x12 (reportBody r)) = .forwardedRecord r ∧
      s.frameReceived .u (envelope 0x12 (reportBody r)) = .frameCheckFailure .u) ∧
    (∀ body : List Byte, 5 ≤ body.length → body.length ≤ 4800 →
      s.frameReceived .d (envelope 0x11 body) = .forwardedReply body ∧
      s.frameReceived .u (envelope 0x11 body) = .frameCheckFailure .u) ∧
    (∀ (r : Reply) (payload : List Byte), r.origin ≤ 63 → payload.length ≤ 4795 →
      let body := replyHead r ++ payload
      (body.getD 0 0).toNat = r.origin ∧ body.getD 1 0 ++ body.getD 2 0 = r.tag ∧ body.getD 3 0 = r.code ∧
        (body.getD 4 0).toNat = r.status.code ∧ body.drop 5 = payload ∧
        s.frameReceived .d (envelope 0x11 body) = .forwardedReply body) ∧
    (∀ pause : Word, s.frameReceived .u (envelope 0x21 (wordBytes pause)) = .holdFrame pause ∧
      s.frameReceived .d (envelope 0x21 (wordBytes pause)) = .frameCheckFailure .d) ∧
    (∀ (f : DownFrame) (check : Check), f.wellFormed = true →
      let content := frameKind f :: wordBytes (BitVec.ofNat 16 (frameBody f).length) ++ frameBody f
      check ≠ crc32 content → s.frameReceived .u (content ++ checkBytes check) = .frameCheckFailure .u)

/-- The link events. LINK_UP: after start-up a DOWN port becomes UP and its direction resumes, U with the arbiter's choice
and D with the D-has-been-UP flag set; a port already UP, or a part still starting up, notes the partner only. LINK_DOWN:
the frame being sent is abandoned with an abort mark and the port's buffers are emptied, with no counter touched, while
report records stay queued (R1, R11, R21, R191). That each event notes the partner, before start-up and at a port that
stays as it is too, is the model's (log entry 9). -/
def Obligations.LinkEventsMoveThePorts : Prop :=
  ∀ s : State,
    (s.started = true → s.link.upU = false →
      Completes (.linkUp .u) s (GrantedU { s with link := { s.link with partnerU := true, upU := true } })) ∧
    (s.started = false ∨ s.link.upU = true →
      exec (.linkUp .u) s = .next { s with link := { s.link with partnerU := true } }) ∧
    (s.started = true → s.link.upD = false →
      Completes (.linkUp .d) s
        (GrantedD { s with link := { s.link with partnerD := true, upD := true, dHasBeenUp := true } })) ∧
    (s.started = false ∨ s.link.upD = true →
      exec (.linkUp .d) s = .next { s with link := { s.link with partnerD := true } }) ∧
    (s.link.upU = true →
      exec (.linkDown .u) s = .next
        { s with link := { s.link with partnerU := false, upU := false, replies := [], sendingU := .idle }
                 out := s.out ++ (if s.link.sendingU = .idle then [] else [.abortU]) }) ∧
    (s.link.upU = false → exec (.linkDown .u) s = .next { s with link := { s.link with partnerU := false } }) ∧
    (s.link.upD = true →
      exec (.linkDown .d) s = .next
        { s with link := { s.link with partnerD := false, upD := false, forwardQueue := [], holdSlot := none
                                       sendingD := .idle }
                 out := s.out ++ (if s.link.sendingD = .idle then [] else [.abortD]) }) ∧
    (s.link.upD = false → exec (.linkDown .d) s = .next { s with link := { s.link with partnerD := false } })

/-- A check failure is counted at its port, at U in the tally of the second too, each counter saturating at 65,535, and a
frame ended by an abort mark is counted nowhere (R2, R3). -/
def Obligations.CheckFailuresAreCounted : Prop :=
  ∀ s : State,
    (s.link.upU = true → exec (.frameCheckFailure .u) s = .next
      { s with link := { s.link with uDiscard := counted s.link.uDiscard, uFailures := counted s.link.uFailures } }) ∧
    (s.link.upD = true → exec (.frameCheckFailure .d) s = .next
      { s with link := { s.link with dDiscard := counted s.link.dDiscard } }) ∧
    ∀ p, exec (.frameAborted p) s = .next s

/-- A good SYNC is forwarded unchanged and handed, with its four values, to the five blocks that take it; ambient valid
is bit 0 of the flags byte (R4, R8). -/
def Obligations.SyncFrameIsForwardedAndDelivered : Prop :=
  ∀ (frame content lux : Word) (flags : Byte) (s : State), s.link.upU = true →
    ∃ u, Forwarded s (.sync frame content lux flags) u ∧
      exec (.syncFrame frame content lux flags) s = .next
        { u with handed := u.handed ++
            [.frameCaptureSync frame content, .dimmingSync lux (flags.toNat % 2 == 1), .tableStoreSync frame,
             .streamSync, .sweepCountSync] }

/-- A good PIXEL frame is forwarded as received, and those of its samples that fall in the open frame's window are
written into FILL and into the coverage map; nothing else is (R4, R8, R29, R30). The premise on FILL is kept by every
step (`StoredDataInvariantIsKept`). -/
def Obligations.PixelFrameWritesItsWindow : Prop :=
  ∀ (line column : Word) (samples : List Pixel) (pad : BitVec 4) (s : State), s.link.upU = true →
    SlotWf s.capture.fill →
    ∃ u d, Forwarded s (.pixel line column samples pad) u ∧
      PixelWritten s.capture (line.toNat % 4096) (column.toNat % 4096) samples d ∧
      exec (.pixelFrame line column samples pad) s = .next { u with capture := d }

/-- A good ENUM frame with counter c, a counter above 63 being taken as 63, sets the position to c + 1 and is forwarded
with counter c + 1, or sets it to 0 and is forwarded with 63 when c is 63. While D is DOWN the position is set all the
same. The frame forwarded carries a new check over its new body (R12). -/
def Obligations.EnumFrameSetsThePosition : Prop :=
  ∀ (counter : Byte) (s : State), s.link.upU = true →
    (counter.toNat ≤ 62 → Completes (.enumFrame counter) s
      (Forwarded { s with link := { s.link with position := counter.toNat + 1 } } (.enum (counter + 1)))) ∧
    (63 ≤ counter.toNat → Completes (.enumFrame counter) s
      (Forwarded { s with link := { s.link with position := 0 } } (.enum 63))) ∧
    ∀ c : Byte, frameBytes (.enum c) = [0x04, 0, 1, c] ++ checkBytes (crc32 [0x04, 0, 1, c])

/-- A MGMT frame that does not name this cabinet is forwarded and does nothing else here, whatever request it carries
(R5, R8, R15). That the command MGMT_NOT_TAKEN is forwarded only whatever its header says is the model's choice (log
entry 14). A group entry whose read shows a storage error is left out: the premise is that the storage shows none. -/
def Obligations.RequestsNotTakenAreForwarded : Prop :=
  ∀ (c : Instr) (h : MgmtHead) (code : Byte) (args : List Byte) (s : State), requestParts c = some (h, code, args) →
    s.link.upU = true → s.storage = [] →
    (¬ s.isAddressed h → Completes c s (Forwarded s (.mgmt h code args))) ∧
    (c = .mgmtNotTaken h code args → Completes c s (Forwarded s (.mgmt h code args)))

/-- A good HOLD frame at U starts the inbound hold timer with its pause from the present count, replacing a running one
and abandoning a REPORT frame being sent, or stops it with a pause of 0 and lets the arbiter choose. It is not forwarded
and not counted (R19, R20, R159). That it abandons also a REPORT frame started before a soft reset is the model's (log
entry 28). -/
def Obligations.HoldFrameSetsTheInboundTimer : Prop :=
  ∀ (pause : Word) (s : State), s.link.upU = true →
    let held : State := { s with reports := { s.reports with inbound := some ⟨s.time.count, pause.toNat⟩ } }
    (pause ≠ 0 → (∀ b, s.link.sendingU ≠ .report b) → exec (.holdFrame pause) s = .next held) ∧
    (pause ≠ 0 → ∀ b, s.link.sendingU = .report b → Completes (.holdFrame pause) s
      (GrantedU { held with link := { s.link with sendingU := .idle }, out := s.out ++ [.abortU] })) ∧
    (pause = 0 → Completes (.holdFrame pause) s
      (GrantedU { s with reports := { s.reports with inbound := none } }))

/-- The last byte of a frame out of D: a forwarded frame leaves the forward queue, a HOLD frame leaves its slot unless a
later HOLD took it meanwhile, and the next frame is started; of the two events the one whose frame is not being sent does
nothing (R9, R10). That a later HOLD can take the slot while one is being sent, and is sent next, is the model's (log
entry 13). -/
def Obligations.FramesLeaveTheDownPort : Prop :=
  ∀ s : State,
    (s.link.sendingD = .forwarded → Completes .forwardedFrameSent s
      (GrantedD { s with link := { s.link with forwardQueue := s.link.forwardQueue.tail, sendingD := .idle } })) ∧
    (s.link.sendingD ≠ .forwarded → exec .forwardedFrameSent s = .next s) ∧
    (s.link.sendingD = .hold → (∀ h, s.link.holdSlot = some h → h.started = true) → Completes .holdFrameSent s
      (GrantedD { s with link := { s.link with holdSlot := none, sendingD := .idle } })) ∧
    (s.link.sendingD = .hold → ∀ h, s.link.holdSlot = some h → h.started = false → Completes .holdFrameSent s
      (GrantedD { s with link := { s.link with sendingD := .idle } })) ∧
    (s.link.sendingD ≠ .hold → exec .holdFrameSent s = .next s)

/-- The last byte of a frame out of U: a reply leaves the buffer; a record leaves the queue and the outbound hold is
released at a depth of Lw or less; a REPORT started before a soft reset removes no record. The arbiter then chooses
(R19, R152, R155). -/
def Obligations.FramesLeaveTheUpPort : Prop :=
  ∀ s : State,
    (s.link.sendingU = .reply → Completes .replySent s
      (GrantedU { s with link := { s.link with replies := s.link.replies.tail, sendingU := .idle } })) ∧
    (s.link.sendingU ≠ .reply → exec .replySent s = .next s) ∧
    (s.link.sendingU = .report true → s.storage = [] → Completes .reportSent s fun t =>
      let u : State := { s with link := { s.link with sendingU := .idle }
                                reports := { s.reports with queue := s.reports.queue.tail } }
      (s.reports.holdMark = true ∧ s.reports.queue.length - 1 ≤ s.marks.2 → ∃ v, HoldReleased u v ∧ GrantedU v t) ∧
      (s.reports.holdMark = false ∨ s.marks.2 < s.reports.queue.length - 1 → GrantedU u t)) ∧
    (s.link.sendingU = .report false → Completes .reportSent s
      (GrantedU { s with link := { s.link with sendingU := .idle } })) ∧
    ((∀ b, s.link.sendingU ≠ .report b) → exec .reportSent s = .next s)

/-! ## Frame Capture -/

/-- A SYNC at Frame Capture closes and decides the open frame by Table 2-2, advances the dwell count of a DISPLAY that
holds a frame, hands over one evaluation of DWELL_EARLY and one of MOTION, and opens a frame with the geometry of LAYOUT
unless the part is UNCONFIGURED (R28, R31 to R38, R40, R41). That the two evaluations go as one delivery is the model's (log
entry 21). -/
def Obligations.FrameCaptureSyncDecides : Prop :=
  ∀ (frame content : Word) (s : State), s.started = true → s.storage = [] →
    ∃ r d t, FrameDecided s r d ∧ exec (.frameCaptureSync frame content) s = .next t ∧
      let e : Capture := { d with displayed := d.displayed.map fun x => { x with dwell := counted x.dwell } }
      t = { s with
              capture := { e with opened := t.capture.opened }
              handed := s.handed.erase (.frameCaptureSync frame content) ++
                [.faultEvaluationDelivery
                  [⟨.dwellEarly, none, r == .early, .absent⟩, ⟨.motion, none, r == .motion, .absent⟩]] } ∧
      (s.unconfigured = true → t.capture.opened = none) ∧
      (s.unconfigured = false →
        let l := fun i => entry (s.table .layout).active i
        t.capture.opened = some ⟨frame, content, ⟨l 0, l 1, l 2, l 3, l 4, l 5, l 6, l 7⟩, []⟩)

/-! ## The Report Queue -/

/-- Good frames at D: a REPLY is offered to the reply buffer unchanged and counts in the D discard count when the buffer is
full; the record of a REPORT joins the queue with every field as received while fewer than 48 wait there, or is discarded
and counted in lost-forwarded, with the checks of the outbound hold (R17, R18, R150, R151, R154, R157). -/
def Obligations.UpBoundFramesAreQueued : Prop :=
  ∀ s : State, s.link.upD = true →
    (∀ body, Completes (.forwardedReply body) s (Offered s (.forwarded body))) ∧
    (∀ r, s.storage = [] → Completes (.forwardedRecord r) s (Arrived s .forwarded r))

/-- A delivery of reports gives one record for each, in order, all with the position and the clock as they stand when it
is taken, each joining or being discarded before the next (R6, R149, R151). That a record of STREAM_LOST too has the clock of
the moment at which the delivery is taken, and not, as R119 says, that at which the Fault Monitor creates the report, is the
model's choice (log entry 44). -/
def Obligations.LocalReportsBecomeRecords : Prop :=
  ∀ (reports : List Report) (s : State), s.started = true → s.storage = [] →
    ∃ f : Report → ReportRec, (∀ p ∈ reports, IsLocalRecord s p (f p)) ∧
      Completes (.localReportDelivery reports) s
        (ArrivedAll { s with handed := s.handed.erase (.localReportDelivery reports) } (reports.map f))

/-- The summary count advances at each second event, and at 2^q or more it returns to 0 and a SUMMARY record arrives: when
it joins, both lost counters return to 0, and when it is discarded lost-local counts it (R161, R162). -/
def Obligations.SummaryCountMakesSummaries : Prop :=
  ∀ s : State, s.started = true → s.storage = [] →
    let u : State := { s with handed := s.handed.erase .summaryCountAdvance }
    let due := 2 ^ s.presentOrDefault .policy 43 ≤ s.reports.summaryCount + 1
    (¬ due → exec .summaryCountAdvance s =
      .next { u with reports := { s.reports with summaryCount := s.reports.summaryCount + 1 } }) ∧
    (due → ∃ r, IsSummary s r ∧ Completes .summaryCountAdvance s fun t =>
      (s.reports.queue.length < 48 →
        Joined { u with reports := { s.reports with summaryCount := 0, lostLocal := 0, lostForwarded := 0 } } r t) ∧
      (48 ≤ s.reports.queue.length →
        Discarded { u with reports := { s.reports with summaryCount := 0 } } .ownRecord t))

/-- The two timers of the hold. The refresh timer's expiry renews the outbound hold while the depth is above Lw and
releases it otherwise; the inbound timer's expiry stops it and lets the arbiter choose (R19, R155, R156, R160). That an
expiry whose timer does not run or is not due does nothing is the model's choice (log entry 12). -/
def Obligations.HoldTimersExpire : Prop :=
  ∀ s : State,
    (∀ x, s.reports.refresh = some x → x.duration ≤ (s.time.count - x.start).toNat → s.storage = [] →
      (s.marks.2 < s.reports.queue.length → Completes .holdRefreshExpiry s (HoldSent s)) ∧
      (s.reports.queue.length ≤ s.marks.2 → Completes .holdRefreshExpiry s (HoldReleased s))) ∧
    ((∀ x, s.reports.refresh = some x → (s.time.count - x.start).toNat < x.duration) →
      exec .holdRefreshExpiry s = .next s) ∧
    (∀ x, s.reports.inbound = some x → x.duration ≤ (s.time.count - x.start).toNat →
      Completes .inboundHoldExpiry s (GrantedU { s with reports := { s.reports with inbound := none } })) ∧
    ((∀ x, s.reports.inbound = some x → (s.time.count - x.start).toNat < x.duration) →
      exec .inboundHoldExpiry s = .next s)

/-! ## The Luminance Pipeline and the Drive Port -/

/-- A module computation of a module that is lit or derated, with a frame in DISPLAY and no bad mark in LAYOUT: the words
that stood to be emitted are out, the pass goes on to the next module, and its words stand to be emitted, each the six stages
over the stored sample of its pixel, in scan order (R44 to R56, R100, R101). That a colour whose coefficient and fallback are
both bad is dark whatever its trim is the model's reading of R49 beside R52 (log entry 49); that the words of a module are out
at the computation of the next is the model's (log entry 18). -/
def Obligations.ModuleComputationFormsTheWords : Prop :=
  ∀ s : State, s.started = true → s.soundTable .layout → s.capture.displayed.isSome = true →
    let v := s.emitted
    let g := s.drive.geometry
    let m := v.drive.position
    let status := s.faults.modules.getD m .lit
    let l := fun i => entry (s.table .layout).active i
    (status.state = .lit ∨ status.state = .derated) →
    ∃ lines, InScanOrder g v.drive.startLine lines ∧
      (∀ y ws, (y, ws) ∈ lines → y < g.moduleHeight → ws = (List.range g.moduleWidth).map fun x =>
        s.pixelWords m status.derate
          (readSlot ((m / l 4 * l 7 + y) * l 2 + (m % l 4 * l 6 + x)) s.capture.display)) ∧
      exec .moduleComputation s = .next (v.standing lines)

/-- Every drive word is 0 while DISPLAY is EMPTY, while the module is BLANKED or RESTORE_WAIT, and where an entry of
LAYOUT that the computation reads is marked bad; the words still stand to be emitted in scan order and the pass goes on
(R44, R56, R100). That the words of a module are out at the computation of the next is the model's (log entry 18). An error
that this computation's own read of LAYOUT finds is left out: the premise is that the storage shows none. -/
def Obligations.DarkModulesAreDrivenDark : Prop :=
  ∀ s : State, s.started = true → s.storage = [] →
    let v := s.emitted
    let g := s.drive.geometry
    let m := v.drive.position
    let status := s.faults.modules.getD m .lit
    (s.capture.displayed = none ∨ status.state = .blanked ∨ status.state = .restoreWait ∨
      (∃ i ∈ [2, 4, 6, 7], i ∈ (s.table .layout).bad)) →
    ∃ lines, InScanOrder g v.drive.startLine lines ∧
      (∀ y ws, (y, ws) ∈ lines → y < g.moduleHeight → ws = List.replicate g.moduleWidth (0, 0, 0)) ∧
      exec .moduleComputation s = .next (v.standing lines)

/-- The law of R56, for every module computation whatever the tables, the trims, the bad marks and the storage errors
supply: every word that it forms, and so every word that goes out, lies in 0..65519, and is 0 while the level is 0; and what
goes out at it is what stood to be emitted before. The premises on the level and the derates are kept by every step
(`LevelInvariantIsKept`, `FaultTableInvariantIsKept`). That the words of a module are out at the computation of the next is
the model's (log entry 18). -/
def Obligations.DriveWordsAreBounded : Prop :=
  ∀ s : State, s.started = true → s.dimming.level ≤ 1024 → (∀ x ∈ s.faults.modules, x.derate ≤ 1024) →
    Completes .moduleComputation s fun t =>
      ∃ lines, t.drive = (s.emitted.standing lines).drive ∧ t.out = s.emitted.out ∧
        ∀ v ws, (v, ws) ∈ lines → ∀ w ∈ ws,
          (w.1 ≤ 65519 ∧ w.2.1 ≤ 65519 ∧ w.2.2 ≤ 65519) ∧
          (s.dimming.level = 0 → w.1 = 0 ∧ w.2.1 = 0 ∧ w.2.2 = 0)

/-- Each pass emits every line of a module once: with a scan group of 1, 2, 4, 8 or 16 lines, a module height of 16, 32
or 64 and a start line within the group, the lines that a computation sets to be emitted are the lines 0 to height − 1 in some
order, under either scan order (R101). -/
def Obligations.EveryLineIsEmittedOnce : Prop :=
  ∀ s : State, s.started = true →
    s.drive.geometry.group ∈ [1, 2, 4, 8, 16] → s.drive.geometry.moduleHeight ∈ [16, 32, 64] →
    s.drive.startLine < s.drive.geometry.group →
    Completes .moduleComputation s fun t =>
      ∃ lines, t.drive = (s.emitted.standing lines).drive ∧
        lines.length = s.drive.geometry.moduleHeight ∧
        ∀ v, v < s.drive.geometry.moduleHeight → ∃ ws, (v, ws) ∈ lines ∧ ws.length = s.drive.geometry.moduleWidth

/-- A counted event, a good SYNC or a local tick at the Drive Port, adds one to the sweep count, and is a sweep tick when
the count is 2^n or more, n being 0 while its entry carries a bad mark (R104, R105). The block's own read of n may find a
storage error: a correctable one is counted and recorded and the value used; an uncorrectable one withdraws the entry, with
TABLE_ECC handed over, the start of UNCONFIGURED where it is the first cause, L and T at 0, the open frame discarded, and n as
0 (R76, R166, R169). That SWEEP_TICK by itself makes the three steps of R105 and leaves the sweep count alone is the model's
(log entry 10). -/
def Obligations.CountedEventsBringSweepTicks : Prop :=
  ∀ s : State, s.started = true →
    let counts := fun (c : Instr) (n : Nat) (u : State) =>
      (u.drive.sweepCount + 1 < 2 ^ n →
        exec c s = .next { u with drive := { u.drive with sweepCount := u.drive.sweepCount + 1 } }) ∧
      (2 ^ n ≤ u.drive.sweepCount + 1 → Completes c s (Swept { u with drive := { u.drive with sweepCount := 0 } }))
    (∀ c, c = .sweepCountSync ∨ c = .sweepCountLocalTick →
      let u : State := { s with handed := s.handed.erase c }
      (s.storage = [] → counts c ((s.present .policy 39).getD 0) u) ∧
      ∀ o, s.storage = [⟨.policy, .active, 39, o⟩] → 39 ∉ (s.table .policy).bad →
        ∃ r w, EntryRead { u with storage := [] } .policy .active 39 o r w ∧
          counts c (if r.2 = .bad then 0 else r.1.toNat) w) ∧
    Completes .sweepTick s (Swept s)

/-- A poll result that matches the poll in flight makes it absent and hands over, as one delivery in order, the
evaluations of OPEN_STRING, SHORT_STRING, OVER_TEMP where there is one, and DRIVER_SILENT; any other result changes
nothing (R106 to R109). That the module and the number alone tell the poll, for a result of a poll sent before a reset too, is the
model's (log entry 54). -/
def Obligations.PollResultsAreEvaluated : Prop :=
  ∀ (module : Nat) (number : Byte) (opens shorts : Word) (reading : Option Int) (s : State), s.storage = [] →
    ((∀ p, s.drive.inFlight = some p → p.module ≠ module ∨ p.number ≠ number) →
      exec (.pollResult module number opens shorts reading) s = .next s) ∧
    (∀ p, s.drive.inFlight = some p → p.module = module → p.number = number →
      ∃ e₁ e₂ es, StringEvaluated .openString module s.drive.geometry.strings opens e₁ ∧
        StringEvaluated .shortString module s.drive.geometry.strings shorts e₂ ∧ HeatEvaluated s module reading es ∧
        exec (.pollResult module number opens shorts reading) s = .next
          { s with
              drive := { s.drive with inFlight := none }
              handed := s.handed ++
                [.faultEvaluationDelivery ([e₁, e₂] ++ es ++ [⟨.driverSilent, some module, false, .absent⟩])] })

/-- A TRIM-NUDGE taken here moves each named trim of an existing module by one step, saturating at +15 and −16, changes no
other trim, and is answered with the module's three trims; or it is refused with BAD_ARGS or RANGE and changes nothing
(R59, R60). -/
def Obligations.TrimNudgeMovesTheNamedTrims : Prop :=
  ∀ (h : MgmtHead) (args : List Byte) (s : State), s.receives h → s.trims.length = 96 →
    Completes (.trimNudge h args) s (Served s h 0x0C args (TrimNudged args))

/-! ## The Dimming Controller -/

/-- A SYNC at the Dimming Controller records the reading, hands over one AMBIENT_INVALID evaluation, recomputes T, and is
a tick while the stream is LIVE and no tick otherwise (R66, R69 to R73). The premise on the AMBIENT bank is kept by every
step (`BankInvariantIsKept`). -/
def Obligations.DimmingSyncFollowsTheLight : Prop :=
  ∀ (lux : Word) (valid : Bool) (s : State), s.started = true → s.storage = [] →
    validate .ambient (s.table .ambient).active = none →
    Completes (.dimmingSync lux valid) s fun t => ∃ v,
      Recomputed
        { s with
            dimming := { s.dimming with lux := lux, luxValid := valid }
            handed := s.handed.erase (.dimmingSync lux valid) ++
              [.faultEvaluationDelivery [⟨.ambientInvalid, none, !valid, .absent⟩]] } v ∧
      (s.stream.state = .live → Ticked v t) ∧ (s.stream.state ≠ .live → t = v)

/-- A local tick that Stream Supervision has delivered while DARKENING is a tick of the level, which moves L toward 0, or toward
the released target where a SYNC has brought the stream to LIVE in between; one delivered in another state is none (R72, R74,
R77). That one delivered in DARKENING and taken in HOLDING or DARK is none, and that one which has not been delivered is judged by
the stream's state, is the model's (log entry 43). -/
def Obligations.LocalTicksMoveTheLevelInDarkening : Prop :=
  ∀ s : State, s.storage = [] →
    let u : State := { s with
      handed := s.handed.erase .dimmingLocalTick, stream := { s.stream with ticks := s.stream.ticks.tail } }
    (s.localTickCounts → Completes .dimmingLocalTick s (Ticked u)) ∧
    (¬ s.localTickCounts → exec .dimmingLocalTick s = .next u)

/-- The override counts down at a minute event and ends when its last minute has gone, T being recomputed (R80). That
OVERRIDE_EXPIRY by itself makes a record that is there absent whatever its minutes, and does nothing without one, is the
model's (log entry 11). -/
def Obligations.OverridesCountDown : Prop :=
  ∀ s : State, s.storage = [] → validate .ambient (s.table .ambient).active = none →
    let u : State := { s with handed := s.handed.erase .overrideMinute }
    (s.dimming.override = none → exec .overrideMinute s = .next u ∧ exec .overrideExpiry s = .next s) ∧
    ∀ o, s.dimming.override = some o →
      (2 ≤ o.minutes → exec .overrideMinute s =
        .next { u with dimming := { s.dimming with override := some ⟨o.level, o.minutes - 1⟩ } }) ∧
      (o.minutes ≤ 1 → Completes .overrideMinute s (OverrideSet u none)) ∧
      Completes .overrideExpiry s (OverrideSet s none)

/-- A LEVEL-OVERRIDE taken here sets the override record to the level, clamped to 1024, and the minutes, and recomputes T;
an OVERRIDE-END makes the record absent. The replies carry what R79 and R81 give, and malformed arguments are refused with
BAD_ARGS (R79, R81). -/
def Obligations.OverrideRequestsSetTheRecord : Prop :=
  ∀ (h : MgmtHead) (args : List Byte) (s : State), s.receives h → s.storage = [] →
    validate .ambient (s.table .ambient).active = none →
    Completes (.levelOverride h args) s (Served s h 0x0A args (LevelOverridden args)) ∧
    Completes (.overrideEnd h args) s (Served s h 0x0B args (OverrideEnded args))

/-- The law of R73, over every command and every state, whatever the storage shows: L rises only at a tick, a good SYNC
while the stream is LIVE or a local tick delivered while it is DARKENING (R72), and then by at most the S_up that the active
LIMITS bank holds. What a local tick is that is taken in HOLDING or DARK, or has not been delivered, is the model's choice (log
entry 43). -/
def Obligations.LevelRisesOnlyAtTicks : Prop :=
  ∀ (c : Instr) (s : State), Completes c s fun t =>
    s.dimming.level < t.dimming.level →
      ((∃ lux valid, c = .dimmingSync lux valid ∧ s.stream.state = .live) ∨
        (c = .dimmingLocalTick ∧ s.localTickCounts)) ∧
      t.dimming.level ≤ s.dimming.level + entry (s.table .limits).active 0

/-! ## Stream Supervision -/

/-- A good SYNC at Stream Supervision becomes the last good SYNC and starts the SYNC timeout afresh with Ts; in HOLDING,
DARKENING and DARK it also stops the other two timers, makes the state LIVE and hands STREAM_LOST over as ended
(R113, R118, R119). -/
def Obligations.SyncBringsTheStreamToLive : Prop :=
  ∀ s : State, s.started = true → s.storage = [] → validate .ambient (s.table .ambient).active = none →
    let x : Stream := { s.stream with
      lastSync := some s.time.count, timeout := some ⟨s.time.count, s.presentOrDefault .limits 7⟩ }
    let u : State := { s with handed := s.handed.erase .streamSync }
    (s.stream.state = .live → exec .streamSync s = .next { u with stream := x }) ∧
    (s.stream.state ≠ .live → Completes .streamSync s fun t => ∃ v,
      StreamSet { u with stream := { x with hold := none, localTick := none } } .live v ∧
      t = { v with handed := v.handed ++ [.conditionDelivery .streamLost false] })

/-- The stream's own expiries. The SYNC timeout in LIVE starts the hold of Th seconds, or enters DARKENING at once when Th
is 0, and hands STREAM_LOST over as present; the hold's expiry enters DARKENING. A local tick expiry
delivers one local tick to the Dimming Controller, noted with the present stream state, and one to the Drive Port, and restarts the timer from the count at which
it expired with the period read anew (R114 to R116, R118). That an expiry whose timer does not run or is not due does nothing
is the model's choice (log entry 12). -/
def Obligations.StreamTimersRunTheLoss : Prop :=
  ∀ s : State, s.storage = [] →
    let hold := s.presentOrDefault .limits 8
    let due := fun x : Option Timer => ∃ y, x = some y ∧ y.duration ≤ (s.time.count - y.start).toNat
    (s.stream.state = .live → due s.stream.timeout → Completes .syncTimeoutExpiry s fun t => ∃ v,
      (1 ≤ hold → v = { s with stream := { s.stream with
        timeout := none, hold := some ⟨s.time.count, hold * 1000⟩, state := .holding } }) ∧
      (hold = 0 → EnteredDarkening { s with stream := { s.stream with timeout := none } } v) ∧
      t = { v with handed := v.handed ++ [.conditionDelivery .streamLost true] }) ∧
    (s.stream.state ≠ .live ∨ ¬ due s.stream.timeout → exec .syncTimeoutExpiry s = .next s) ∧
    (s.stream.state = .holding → due s.stream.hold → Completes .holdExpiry s
      (EnteredDarkening { s with stream := { s.stream with hold := none } })) ∧
    (s.stream.state ≠ .holding ∨ ¬ due s.stream.hold → exec .holdExpiry s = .next s) ∧
    (∀ x, s.stream.localTick = some x → x.duration ≤ (s.time.count - x.start).toNat →
      exec .localTickExpiry s = .next
        { s with
            handed := s.handed ++ [.dimmingLocalTick, .sweepCountLocalTick]
            stream := { s.stream with
              ticks := s.stream.ticks ++ [s.stream.state]
              localTick := some ⟨x.start + BitVec.ofNat 32 x.duration, s.presentOrDefault .limits 9⟩ } }) ∧
    (¬ due s.stream.localTick → exec .localTickExpiry s = .next s)

/-- The notice that L has become 0 takes DARKENING to DARK with the local tick timer running on and the forced-dark condition
continuing, so that T is not recomputed, and changes nothing in LIVE, HOLDING and DARK (R112, R117). -/
def Obligations.LZeroNoticeEndsDarkening : Prop :=
  ∀ s : State,
    let u : State := { s with handed := s.handed.erase .lZeroNotice }
    (s.stream.state = .darkening → Completes .lZeroNotice s fun t =>
      StreamSet u .dark t ∧ t.stream = { s.stream with state := .dark }) ∧
    (s.stream.state ≠ .darkening → exec .lZeroNotice s = .next u)

/-- At a second event the tally of check failures at U is handed over and restarts at 0, and LINK_CRC, against the
threshold of POLICY, and DOWNSTREAM_DOWN are evaluated; a threshold marked bad gives no LINK_CRC evaluation (R3, R120, R121).
That the two go as one delivery is the model's (log entry 21). -/
def Obligations.SecondEventsEvaluateTheLink : Prop :=
  ∀ s : State, s.started = true → s.storage = [] →
    exec .secondEventLink s = .next
      { s with
          link := { s.link with uFailures := 0 }
          handed := s.handed.erase .secondEventLink ++ [.faultEvaluationDelivery
            ((match s.present .policy 38 with
              | some threshold => [⟨.linkCrc, none, decide (threshold ≤ s.link.uFailures), .absent⟩]
              | none => []) ++
            [⟨.downstreamDown, none, !s.link.upD && s.link.dHasBeenUp, .absent⟩])] }

/-! ## The Time Base -/

/-- The millisecond step: the count goes up by 1, wrapping; the accumulator adds the magnitude of the drift and gives a
compensated step at 1,000,000; the clock advances by 1, 2 or 0 ms with its rollover; and after start-up the second and
minute events of the boundaries it crosses are handed on (R84 to R87, R191). The premises are kept by every step
(`StoredDataInvariantIsKept`). -/
def Obligations.MillisecondStepAdvancesTime : Prop :=
  ∀ s : State, s.time.accumulator < 1000000 → s.time.drift.natAbs ≤ 500 →
    s.time.ms < 60000 → s.time.minute < 1440 → 1 ≤ s.time.weekday → s.time.weekday ≤ 7 →
    let sum := s.time.accumulator + s.time.drift.natAbs
    let amount := if sum < 1000000 then 1 else if 0 < s.time.drift then 2 else 0
    Completes .millisecondStep s fun t =>
      t = { s with
            time := { s.time with
              count := s.time.count + 1, weekday := t.time.weekday, minute := t.time.minute, ms := t.time.ms
              accumulator := if sum < 1000000 then sum else sum - 1000000 }
            handed := s.handed ++
              (if s.started ∧ s.time.ms / 1000 < (s.time.ms + amount) / 1000 then
                [.secondEventLink, .summaryCountAdvance] else []) ++
              (if s.started ∧ 60000 ≤ s.time.ms + amount then [.minuteEventCeiling, .overrideMinute] else []) } ∧
      ClockAdvanced s.time.weekday s.time.minute s.time.ms amount t.time.weekday t.time.minute t.time.ms

/-- A minute event evaluates C from the clock and the tables and hands a changed value to the Dimming Controller; before
start-up completes it brings no evaluation (R75, R93 to R96, R191). The ceiling source shown where a bad mark makes C the
substitute is the model's choice (log entry 53). -/
def Obligations.MinuteEventEvaluatesTheCeiling : Prop :=
  ∀ s : State, s.storage = [] → validate .ambient (s.table .ambient).active = none →
    let u : State := { s with handed := s.handed.erase .minuteEventCeiling }
    (s.started = true → Completes .minuteEventCeiling s (CeilingEvent u)) ∧
    (s.started = false → exec .minuteEventCeiling s = .next u)

/-- A TIME-SET taken here sets the clock and the clock-set flag, ends CLOCK_UNSET where the flag was no, and evaluates C;
arguments of the wrong length or out of range are refused with BAD_ARGS (R89, R90, R96). The ceiling source shown where a bad
mark makes C the substitute is the model's choice (log entry 53). -/
def Obligations.TimeSetSetsTheClock : Prop :=
  ∀ (h : MgmtHead) (args : List Byte) (s : State), s.receives h → s.storage = [] →
    validate .ambient (s.table .ambient).active = none →
    Completes (.timeSet h args) s (Served s h 0x08 args (TimeSet args))

/-- A DRIFT-SET taken here sets the drift, clamped to −500..+500, zeroes the accumulator, and is answered with the drift
in force, whether or not the clock or the ceiling lock is set; the wrong length is refused with BAD_ARGS. A millisecond
step taken after it adds the new magnitude to an accumulator of 0, and one taken before it uses the old drift and
accumulator (R88). -/
def Obligations.DriftSetSetsTheDrift : Prop :=
  ∀ (h : MgmtHead) (args : List Byte) (s : State), s.receives h →
    Completes (.driftSet h args) s (Served s h 0x09 args (DriftSet args)) ∧
    (∀ hi lo t, args = [hi, lo] → exec (.driftSet h args) s = .next t →
      Completes .millisecondStep t fun v => v.time.accumulator = t.time.drift.natAbs ∧ v.time.drift = t.time.drift) ∧
    (s.time.accumulator < 1000000 → s.time.drift.natAbs ≤ 500 → Completes .millisecondStep s fun v =>
      v.time.accumulator = (s.time.accumulator + s.time.drift.natAbs) % 1000000 ∧
      Completes (.driftSet h args) v (Served v h 0x09 args (DriftSet args)))

/-! ## The Fault Monitor -/

/-- A delivery of any number of evaluations is one event: they are carried through one after another in their order, each
whole, as a delivery of it alone is, and all their reports form one delivery, in that order; an evaluation for a module that
does not exist changes nothing (R124, R137). That an evaluation is carried through whole with the records that R135 gives to
unrecorded conditions, before the next evaluation is taken, is the model's (log entry 50). And the rows of Table 8-4 that neither enter ACTIVE nor release: an evaluation
counts the hits or the misses of its pair's record, creates or drops a SUSPECT record, brings a CLEARING record back to
ACTIVE, and leaves a LATCHED record as it is, with no report and nothing else changed (R128 to R131). The premises on the
table are kept by every step (`FaultTableInvariantIsKept`) but for unrecorded conditions, which a full table can leave. -/
def Obligations.EvaluationsAreDebounced : Prop :=
  (∀ (es : List Evaluation) (s : State), s.started = true →
    let u : State := { s with handed := s.handed.erase (.faultEvaluationDelivery es) }
    Completes (.faultEvaluationDelivery es) s fun t => ∃ reports v, EvaluationsCarried u es reports v ∧
      t = v.reported v.faults reports) ∧
  (∀ (e : Evaluation) (s : State), s.started = true → ¬ s.hasScope e.module →
    exec (.faultEvaluationDelivery [e]) s =
      .next { s with handed := s.handed.erase (.faultEvaluationDelivery [e]) }) ∧
  ∀ (e : Evaluation) (s : State), s.started = true → e.kind.debounced = true → s.storage = [] → s.hasScope e.module →
    s.faults.tableWf → s.faults.atRest →
    let c : Instr := .faultEvaluationDelivery [e]
    let u : State := { s with handed := s.handed.erase c }
    (HoldsNone s.faults e.module e.kind → e.detected = false → exec c s = .next u) ∧
    (HoldsNone s.faults e.module e.kind → e.detected = true → 2 ≤ s.confirmCount e.kind →
      ∀ n, LowestFree s.faults n → exec c s = .next
        { u with faults := { s.faults with
            records := s.faults.records ++ [s.created n e.module e.kind .suspect e.detail] } }) ∧
    ∀ r, Holds s.faults e.module e.kind r →
      (r.state = .suspect → e.detected = true → min 255 (r.hits + 1) < s.confirmCount e.kind →
        exec c s = .next { u with faults := s.faults.updated (s.detected r e.detail) }) ∧
      (r.state = .suspect → e.detected = false → exec c s = .next { u with faults := s.faults.without r }) ∧
      (r.state = .active → e.detected = true →
        exec c s = .next { u with faults := s.faults.updated (s.detected r e.detail) }) ∧
      (r.state = .active → e.detected = false → 2 ≤ s.releaseCount e.kind →
        exec c s = .next { u with faults := s.faults.updated { r with state := .clearing, misses := 1 } }) ∧
      (r.state = .clearing → e.detected = true → exec c s = .next
        { u with faults := s.faults.updated { s.detected r e.detail with state := .active, misses := 0 } }) ∧
      (r.state = .clearing → e.detected = false → min 255 (r.misses + 1) < s.releaseCount e.kind →
        exec c s = .next { u with faults := s.faults.updated { r with misses := min 255 (r.misses + 1) } }) ∧
      (r.state = .latched → exec c s = .next u)

/-- The rows of Table 8-4 that enter ACTIVE and release, for the kinds of cabinet scope: at the confirm count the record is
ACTIVE with a RAISED report, and at the release count it is freed with a CLEARED report; nothing else is changed
(R130 to R132, R137). -/
def Obligations.CabinetFaultsAreRaisedAndCleared : Prop :=
  ∀ (e : Evaluation) (s : State), s.started = true → e.kind.debounced = true → s.storage = [] → e.module = none →
    s.faults.tableWf → s.faults.atRest →
    let c : Instr := .faultEvaluationDelivery [e]
    let u : State := { s with handed := s.handed.erase c }
    (HoldsNone s.faults none e.kind → e.detected = true → s.confirmCount e.kind ≤ 1 → ∀ n, LowestFree s.faults n →
      exec c s = .next (u.reported
        { s.faults with records := s.faults.records ++ [s.created n none e.kind .active e.detail] }
        [⟨.raised, some e.kind, none, e.detail⟩])) ∧
    ∀ r, Holds s.faults none e.kind r →
      (r.state = .suspect → e.detected = true → s.confirmCount e.kind ≤ min 255 (r.hits + 1) →
        exec c s = .next (u.reported (s.faults.updated { s.detected r e.detail with state := .active })
          [⟨.raised, some e.kind, none, e.detail⟩])) ∧
      (r.state = .active → e.detected = false → s.releaseCount e.kind ≤ 1 →
        exec c s = .next (u.reported (s.faults.without r) [⟨.cleared, some e.kind, none, r.detail⟩])) ∧
      (r.state = .clearing → e.detected = false → s.releaseCount e.kind ≤ min 255 (r.misses + 1) →
        exec c s = .next (u.reported (s.faults.without r) [⟨.cleared, some e.kind, none, r.detail⟩]))

/-- A module record that reaches its confirm count, be it created at a count of 1 or in SUSPECT before, adds one to the
flap counter of its pair: below 3 it becomes ACTIVE with a RAISED report, at 3 LATCHED with a LATCHED report. A module record
that reaches its release count is freed with a CLEARED report, its flap counter staying. The module's state is then the one
that its records, the restore queue and POLICY give, and a module that holds no BLANK record any more joins the restore queue
and may be admitted at once (R130 to R132, R137 to R140). The premises on the table are kept by every step
(`FaultTableInvariantIsKept`) but for unrecorded conditions. -/
def Obligations.ModuleFaultsFlapAndLatch : Prop :=
  ∀ (k : FaultKind) (m : Nat) (s : State), k.moduleScope = true → m < 32 → s.started = true → s.storage = [] →
    s.hasScope (some m) → s.faults.tableWf → s.faults.atRest → s.faults.flaps.length = 128 →
    (∀ d : Detail,
      let c : Instr := .faultEvaluationDelivery [⟨k, some m, true, d⟩]
      let u : State := { s with handed := s.handed.erase c }
      (∀ r, Holds s.faults (some m) k r → r.state = .suspect → s.confirmCount k ≤ min 255 (r.hits + 1) →
        Completes c s (FaultConfirmed u m (s.detected r d))) ∧
      (∀ n, HoldsNone s.faults (some m) k → s.confirmCount k ≤ 1 → LowestFree s.faults n →
        Completes c s (FaultConfirmed u m (s.created n (some m) k .suspect d)))) ∧
    ∀ r, Holds s.faults (some m) k r →
      (r.state = .active ∧ s.releaseCount k ≤ 1) ∨ (r.state = .clearing ∧ s.releaseCount k ≤ min 255 (r.misses + 1)) →
      let c : Instr := .faultEvaluationDelivery [⟨k, some m, false, .absent⟩]
      Completes c s fun t => FaultFreed { s with handed := s.handed.erase c } m r t ∧ t.faults.flaps = s.faults.flaps

/-- A condition other than CABINET_DARK: present with its flag not set, it sets the flag and gives an ACTIVE record with a
RAISED report; present again, it counts; ended with its flag set, it clears the flag and frees the record with a CLEARED
report, its slot then going to the unrecorded conditions; ended otherwise, it changes nothing; and where its record is absent,
present again changes nothing and its end clears the flag alone (R133, R135). And CABINET_DARK: after every delivery of evaluations, condition or
TABLE_ECC, every window expiry and every FAULT-CLEAR taken here, it holds just where the blanked count is B or more, if it did
before; its start takes L and T to 0 and gives its record with a RAISED report, its end has T recomputed and frees the record
with a CLEARED report, and where it stands as before, after one evaluation and no admission, the Dimming Controller is as it
was; nothing else changes outside the Fault Monitor, but for the ports that a FAULT-CLEAR's frame and reply go out of (R70, R76,
R142). The premise that its record stands only while it holds is kept by every step
(`FaultTableInvariantIsKept`); that each module has the state that R138 gives it, by every step whose reads of POLICY find no
uncorrectable error (log entry 19). -/
def Obligations.ConditionsAreRaisedAndCleared : Prop :=
  (∀ (c : Instr) (s : State), FaultEvent s c → s.storage = [] → validate .ambient (s.table .ambient).active = none →
    s.faults.tableWf → s.faults.flags.cabinetDark = decide (s.darkAt ≤ s.blankedNow) →
    (s.faults.flags.cabinetDark = false → HoldsNone s.faults none .cabinetDark) →
    (∀ m x, s.faults.modules[m]? = some x → ModuleDerived s m x) →
    Completes c s fun t =>
      t.faults.flags.cabinetDark = decide (s.darkAt ≤ t.blankedNow) ∧ DarkTold s t ∧ DarkRecorded (s.taken c) t ∧
      OnlyFaults { s.taken c with link := t.link, out := t.out } t ∧
      ((∀ h args, c ≠ .faultClear h args) → t.link = s.link ∧ t.out = s.out) ∧
      ((∀ e e' es, c ≠ .faultEvaluationDelivery (e :: e' :: es)) → DimmingKept s t)) ∧
  ∀ (x : Condition) (s : State), s.started = true → s.storage = [] → x ≠ .cabinetDark → s.faults.tableWf →
    (s.faults.restoreQueue = [] ∨ s.faults.history.length = 4) →
    let u := fun b : Bool => ({ s with handed := s.handed.erase (.conditionDelivery x b) } : State)
    let f := fun b : Bool => ({ s.faults with flags := s.faults.flags.set x b } : Faults)
    (s.faults.flags.get x = false → HoldsNone s.faults none x.kind → ∀ n, LowestFree s.faults n →
      exec (.conditionDelivery x true) s = .next ((u true).reported
        { f true with records := s.faults.records ++ [s.created n none x.kind .active .absent] }
        [⟨.raised, some x.kind, none, .absent⟩])) ∧
    (s.faults.flags.get x = true → ∀ r, Holds s.faults none x.kind r →
      exec (.conditionDelivery x true) s = .next { u true with faults := s.faults.updated (s.detected r r.detail) }) ∧
    (s.faults.flags.get x = true → HoldsNone s.faults none x.kind →
      exec (.conditionDelivery x true) s = .next (u true) ∧
      exec (.conditionDelivery x false) s = .next { u false with faults := f false }) ∧
    (s.faults.flags.get x = true → ∀ r, Holds s.faults none x.kind r →
      let cleared : Report := ⟨.cleared, some x.kind, none, r.detail⟩
      (s.faults.atRest →
        exec (.conditionDelivery x false) s = .next ((u false).reported ((f false).without r) [cleared])) ∧
      ∃ reports g, ConditionsRecorded s [.streamLost, .tableEcc, .clockUnset, .storeInvalid, .cabinetDark]
          ((f false).without r) reports g ∧
        exec (.conditionDelivery x false) s = .next ((u false).reported g (cleared :: reports))) ∧
    (s.faults.flags.get x = false → exec (.conditionDelivery x false) s = .next (u false))

/-- A full table, with the restore queue at rest. A detection of a pair without a record, whatever its confirm count, or a
condition that starts, takes the slot of the oldest CLEARING record, which is freed with a CLEARED report first of all and
with its consequences for its module, which may wait or, where CABINET_DARK holds or the blanked count is below B, be admitted
at once; else that of the oldest SUSPECT record, freed without a report; and where all records are ACTIVE or LATCHED it adds one to the lost-detection counter and leaves the records
as they are, the condition's flag being set all the same; nothing outside the Fault Monitor changes but what CABINET_DARK
brings (R129, R130, R133, R136 to R140). And at a record freed in any table,
the unrecorded conditions take the free slots in order of kind code, with a RAISED report each (R135): here a SUSPECT record
that is not detected. -/
def Obligations.FullTableLosesDetections : Prop :=
  ∀ (e : Evaluation) (x : Condition) (s : State), s.started = true → e.kind.debounced = true → s.storage = [] →
    s.hasScope e.module → x ≠ .cabinetDark → (s.faults.restoreQueue = [] ∨ s.faults.history.length = 4) →
    let c : Instr := .faultEvaluationDelivery [e]
    let u : State := { s with handed := s.handed.erase c }
    let v : State := { s with handed := s.handed.erase (.conditionDelivery x true) }
    let flags := s.faults.flags.set x true
    let lost : Faults := { s.faults with lostDetections := counted s.faults.lostDetections }
    let cleared := fun r : FaultRecord => (⟨.cleared, some r.kind, r.scope, r.detail⟩ : Report)
    let detection := fun n => s.created n e.module e.kind .suspect e.detail
    let entered := fun n => s.created n e.module e.kind (s.entered e) e.detail
    (s.faults.full → s.faults.flags.get x = false →
      ConditionFindsTableFull (.conditionDelivery x true) s v { s.faults with flags := flags } x.kind .absent) ∧
    (s.faults.full → (∀ r ∈ s.faults.records, r.state = .active ∨ r.state = .latched) →
      HoldsNone s.faults e.module e.kind → e.detected = true → exec c s = .next { u with faults := lost }) ∧
    (s.faults.full → s.faults.tableWf → ∀ older r younger, OldestIn s.faults .clearing older r younger →
      (r.scope = none → HoldsNone s.faults e.module e.kind → e.detected = true → 2 ≤ s.confirmCount e.kind →
        exec c s = .next (u.reported { s.faults with records := older ++ younger ++ [detection r.slot] } [cleared r])) ∧
      (HoldsNone s.faults e.module e.kind → e.detected = true → s.confirmCount e.kind ≤ 1 →
        Completes c s fun t => entered r.slot ∈ t.faults.records ∧ OnlyFaults u t ∧
          ∃ more, ReportsGiven u (cleared r :: s.enteredReport e :: more) t) ∧
      ∀ m y, r.scope = some m → s.faults.modules[m]? = some y → ModuleDerived s m y →
        (s.faults.flags.cabinetDark = true ∨ s.blankedNow < s.darkAt ∨ s.faults.history.length = 4) →
        HoldsNone s.faults e.module e.kind → e.detected = true → 2 ≤ s.confirmCount e.kind →
          Completes c s fun t => detection r.slot ∈ t.faults.records ∧ OnlyFaults u t ∧
            (∃ more, ReportsGiven u (cleared r :: more) t) ∧ ModulesDerived u (fun z => z = m) t ∧
            JoinsQueue u m (older ++ younger) [cleared r] t ∧
            (s.faults.history.length = 4 →
              t.faults.records = older ++ younger ++ [detection r.slot] ∧ ReportsGiven u [cleared r] t)) ∧
    (s.faults.full → s.faults.tableWf → (∀ r ∈ s.faults.records, r.state ≠ .clearing) →
      ∀ older r younger, OldestIn s.faults .suspect older r younger →
      (HoldsNone s.faults e.module e.kind → e.detected = true → 2 ≤ s.confirmCount e.kind → exec c s = .next
        { u with faults := { s.faults with records := older ++ younger ++ [detection r.slot] } }) ∧
      (HoldsNone s.faults e.module e.kind → e.detected = true → s.confirmCount e.kind ≤ 1 →
        Completes c s fun t => entered r.slot ∈ t.faults.records ∧ OnlyFaults u t ∧
          ∃ more, ReportsGiven u (s.enteredReport e :: more) t)) ∧
    (s.faults.tableWf → ∀ r, Holds s.faults e.module e.kind r → r.state = .suspect → e.detected = false →
      ∃ reports g, ConditionsRecorded s [.streamLost, .tableEcc, .clockUnset, .storeInvalid, .cabinetDark]
          (s.faults.without r) reports g ∧
        exec c s = .next (u.reported g reports))

/-- TABLE_ECC: a present for a table that has bad marks and is not in the affected set adds it and is reported; one for a
table in the set counts; one for a table without bad marks changes nothing; and one that finds the table full takes the slot
that R136 gives it, or keeps the set without a record. An end takes its table out, freeing the record with a CLEARED report that
names it when the set is empty, its slot then going to the unrecorded conditions, and leaving the record to the lowest table
otherwise. Where the record is absent, a present for a table in the set changes nothing, and an end takes its table out alone
(R133 to R136). -/
def Obligations.TableEccFollowsTheAffectedSet : Prop :=
  ∀ (x : Table) (s : State), s.started = true → s.storage = [] → s.faults.tableWf →
    (s.faults.restoreQueue = [] ∨ s.faults.history.length = 4) →
    let u := fun b : Bool => ({ s with handed := s.handed.erase (.tableEccDelivery x b) } : State)
    let joined := Table.all.filter fun y => y == x || s.faults.affected.contains y
    let left := s.faults.affected.filter fun y => y != x
    ((s.table x).bad = [] → exec (.tableEccDelivery x true) s = .next (u true)) ∧
    (x ∉ s.faults.affected → exec (.tableEccDelivery x false) s = .next (u false)) ∧
    ((s.table x).bad ≠ [] → x ∉ s.faults.affected → HoldsNone s.faults none .tableEcc → ∀ n, LowestFree s.faults n →
      exec (.tableEccDelivery x true) s = .next ((u true).reported
        { s.faults with affected := joined
                        records := s.faults.records ++ [s.created n none .tableEcc .active (.table x)] }
        [⟨.raised, some .tableEcc, none, .table x⟩])) ∧
    ((s.table x).bad ≠ [] → x ∉ s.faults.affected → HoldsNone s.faults none .tableEcc → s.faults.full →
      ConditionFindsTableFull (.tableEccDelivery x true) s (u true) { s.faults with affected := joined } .tableEcc
        (.table x)) ∧
    (x ∈ s.faults.affected → HoldsNone s.faults none .tableEcc →
      ((s.table x).bad ≠ [] → exec (.tableEccDelivery x true) s = .next (u true)) ∧
      exec (.tableEccDelivery x false) s = .next { u false with faults := { s.faults with affected := left } }) ∧
    ∀ r, Holds s.faults none .tableEcc r →
      ((s.table x).bad ≠ [] → x ∉ s.faults.affected →
        exec (.tableEccDelivery x true) s = .next ((u true).reported
          ({ s.faults with affected := joined }.updated (s.detected r (.table x)))
          [⟨.raised, some .tableEcc, none, .table x⟩])) ∧
      ((s.table x).bad ≠ [] → x ∈ s.faults.affected →
        exec (.tableEccDelivery x true) s = .next { u true with faults := s.faults.updated (s.detected r r.detail) }) ∧
      (x ∈ s.faults.affected → ∀ y ys, left = y :: ys →
        exec (.tableEccDelivery x false) s = .next
          { u false with faults := { s.faults with affected := left }.updated { r with detail := .table y } }) ∧
      (x ∈ s.faults.affected → left = [] →
        let cleared : Report := ⟨.cleared, some .tableEcc, none, .table x⟩
        (s.faults.atRest → exec (.tableEccDelivery x false) s = .next
          ((u false).reported ({ s.faults with affected := [] }.without r) [cleared])) ∧
        ∃ reports g, ConditionsRecorded s [.streamLost, .tableEcc, .clockUnset, .storeInvalid, .cabinetDark]
            ({ s.faults with affected := [] }.without r) reports g ∧
          exec (.tableEccDelivery x false) s = .next ((u false).reported g (cleared :: reports)))

/-- A window expiry takes the oldest admission out of the restore history once it is 30,000 ms old, and the module at the
head of the restore queue is then admitted: it leaves the queue, the others keeping their order, the present count is entered,
its state is derived without the queue, and RESTORED is reported first. Only the Fault Monitor, the Dimming Controller and
what is handed over change, and only the one module, the queue and the history where CABINET_DARK stands as the new blanked
count has it; a start of CABINET_DARK, in a state in which it does not hold though the count is above B, may evict a record
(R136) whose module joins the queue. With an empty queue nothing else happens (R138, R140, R142). That an expiry before that
age, or with an empty history, does nothing is the model's choice (log entry 12). -/
def Obligations.RestoreWindowAdmitsTheHead : Prop :=
  ∀ s : State, s.storage = [] → s.faults.tableWf → s.faults.restoreQueue.Nodup →
    (∀ m ∈ s.faults.restoreQueue, (∃ x, s.faults.modules[m]? = some x ∧ x.state = .restoreWait) ∧
      ∀ r ∈ s.faults.records, ActsOn r m → s.presentOrDefault .policy (27 + r.kind.code) ≠ 2) →
    ((∀ c cs, s.faults.history = c :: cs → (s.time.count - c).toNat < 30000) → exec .restoreWindowExpiry s = .next s) ∧
    ∀ c cs, s.faults.history = c :: cs → 30000 ≤ (s.time.count - c).toNat →
      (s.faults.restoreQueue = [] →
        exec .restoreWindowExpiry s = .next { s with faults := { s.faults with history := cs } }) ∧
      (∀ m ms, s.faults.restoreQueue = m :: ms → cs.length = 3 → Completes .restoreWindowExpiry s fun t =>
        let restored : Report := ⟨.restored, none, some m, .absent⟩
        t.faults.history = cs ++ [s.time.count] ∧
        (∃ joined, t.faults.restoreQueue = ms ++ joined ∧
          (s.faults.flags.cabinetDark = true ∨ s.blankedNow ≤ s.darkAt → joined = [])) ∧
        (∃ more, ReportsGiven s (restored :: more) t) ∧
        (∃ x, t.faults.modules[m]? = some x ∧ (x.state = .lit ∨ x.state = .derated) ∧ ModuleDerived t m x ∧
          (s.faults.flags.cabinetDark = decide (s.darkAt < s.blankedNow) →
            t = { s with
                    faults := { s.faults with
                      restoreQueue := ms, history := cs ++ [s.time.count], modules := s.faults.modules.set m x }
                    handed := s.handed ++ [.localReportDelivery [restored]] })) ∧
        OnlyFaults s t)

/-- A FAULT-READ taken here completes and returns up to four records in slot order from the cursor on and says where to go
on, at the slot after the last returned. A FAULT-CLEAR taken here completes and frees the LATCHED record it names, or all of them in slot order, each with a CLEARED
report and its flap counter at 0, every other record and flap counter staying, and nothing outside the Fault Monitor changing
but what CABINET_DARK brings and the ports of its frame and reply; malformed arguments are refused with BAD_ARGS
and a pair without a LATCHED record with NOT_FOUND (R137 to R140, R143, R144). -/
def Obligations.FaultRequestsReadAndClear : Prop :=
  ∀ (h : MgmtHead) (args : List Byte) (s : State), s.receives h → s.faults.tableWf →
    Completes (.faultRead h args) s (Served s h 0x0D args (FaultsRead args)) ∧
    (s.storage = [] → s.faults.flaps.length = 128 →
      (∀ r ∈ s.faults.records, r.state = .latched → ∃ m, r.scope = some m ∧ m < 32 ∧ r.kind.moduleScope = true) →
      Completes (.faultClear h args) s (Served s h 0x0E args (FaultsCleared args)))

/-! ## The Table Store -/

/-- At a SYNC every POSTED table that is due swaps, and no other table changes: its shadow becomes the active bank without
marks, its shadow is CLEAN, its generation rises by 1, and the end of TABLE_ECC is handed over where the discarded bank had
bad marks. A LAYOUT swap brings the new geometry, the end of the pass with the words not yet emitted discarded, an EMPTY
DISPLAY, the end of STORE_INVALID, and, where it changes the module count, the trims of modules at or above the new count at 0
(R58; log entry 52); no other swap does any of it. Where one table alone swaps: the end of UNCONFIGURED, if the swap ends it,
has T recomputed first; GAMMA, CALIBRATION and GROUPS change nothing else, SCHEDULE evaluates C, AMBIENT recomputes T, LIMITS
does both and evaluates CABINET_DARK, and POLICY has every module's state derived anew; and where CABINET_DARK stands as
before and no module is admitted, LIMITS, POLICY and LAYOUT leave the Dimming Controller at just that, LIMITS where a slot is
free or CABINET_DARK holds already. At the Fault Monitor a LAYOUT swap frees the records of the removed modules with their
CLEARED reports, zeroes their flap counters, drops them from the restore queue and derives every state; the records, the flap
counters and the places of the modules left stay, and at the other swaps all do, but for what CABINET_DARK and the admissions
bring (R39, R58, R70, R96, R99, R103, R138, R142, R146, R173, R174). Before
start-up completes nothing swaps (R180; the model's form of it is log entry 29). -/
def Obligations.DueTablesSwap : Prop :=
  ∀ (frame : Word) (s : State), s.storage = [] →
    let c : Instr := .tableStoreSync frame
    let u : State := { s with handed := s.handed.erase c }
    let swapped := fun (x : Table) (bank : List Word) =>
      ({ u.setTable x ⟨bank, .clean, (s.table x).generation + 1, []⟩ with
          handed := u.handed ++ (if (s.table x).bad = [] then [] else [.tableEccDelivery x false]) } : State)
    (s.started = false ∨ (∀ x, s.dueBank frame x = none) → exec c s = .next u) ∧
    (s.started = true → Completes c s fun t =>
      (∀ x, (s.dueBank frame x = none → t.table x = s.table x) ∧
        ∀ bank, s.dueBank frame x = some bank →
          t.table x = ⟨bank, .clean, (s.table x).generation + 1, []⟩ ∧
          ((s.table x).bad ≠ [] → .tableEccDelivery x false ∈ t.handed)) ∧
      (∀ bank, s.dueBank frame .layout = some bank → LayoutSwapped s bank t) ∧
      (s.dueBank frame .layout = none → t.capture = s.capture ∧ t.trims = s.trims ∧ t.drive = s.drive ∧
        t.agent = s.agent ∧ t.out = s.out ∧ t.tables.layoutMissing = s.tables.layoutMissing ∧
        t.faults.flaps = s.faults.flaps ∧ (s.faults.tableWf → SwapKeeps s.faults (fun _ => False) t.faults)) ∧
      t = { s with
              tables := { s.tables with banks := t.tables.banks, layoutMissing := t.tables.layoutMissing }
              capture := t.capture, trims := t.trims, drive := t.drive, agent := t.agent, dimming := t.dimming
              time := { s.time with ceiling := t.time.ceiling, source := t.time.source }
              faults := t.faults, handed := t.handed, out := t.out }) ∧
    (s.started = true → ∀ x bank, s.dueBank frame x = some bank → (∀ y, y ≠ x → s.dueBank frame y = none) →
      let v := swapped x bank
      (x = .gamma ∨ x = .calibration ∨ x = .groups → exec c s = .next v) ∧
      (validate .ambient (v.table .ambient).active = none →
        (x = .schedule → Completes c s (CeilingEvent v)) ∧
        (x = .ambient → Completes c s (Recomputed v)) ∧
        (x = .limits → Completes c s fun t => ∃ e w z, UnconfiguredEnded s v e ∧ CeilingEvent e w ∧ Recomputed w z ∧
          OnlyFaults z t ∧ LimitsSwappedAlone s z t) ∧
        (x = .policy → Completes c s fun t => OnlyFaults v t ∧
          ∃ e, UnconfiguredEnded s v e ∧ PolicySwappedAlone s e t) ∧
        (x = .layout → Completes c s fun t => ∃ e,
          UnconfiguredEnded s { v with
            tables := { v.tables with layoutMissing := false }
            agent := { v.agent with storeInvalid := false }
            handed := v.handed ++
              (if s.agent.storeInvalid then [.conditionDelivery .storeInvalid false] else []) } e ∧
          LayoutSwappedAlone s e t)))

/-- TABLE-WRITE and TABLE-READ taken here. A write makes its checks in order, copies the active bank into a CLEAN shadow
with its bad entries as damaged, stores the values and counts the damage left. A read returns every entry with its mark
and, at an entry where the storage shows an error, corrects it, withdraws it from the active bank, or damages the shadow
and withdraws its post (R165, R166, R168 to R171). The premise on the shadows is kept by every step
(`BankInvariantIsKept`). -/
def Obligations.TableRequestsWriteAndRead : Prop :=
  ∀ (h : MgmtHead) (args : List Byte) (s : State), s.receives h →
    (s.storage = [] → (∀ x b d, (s.table x).shadow = .editing b d → b.length = x.size ∧ d.Nodup) →
      Completes (.tableWrite h args) s (Served s h 0x03 args (TableWritten args))) ∧
    Completes (.tableRead h args) s (Served s h 0x04 args (TableReadOut args))

/-- TABLE-COMMIT, TABLE-ABANDON and CEILING-LOCK taken here. A commit makes its checks in order and posts an EDITING shadow
whose entries are all present and that passes its table's validation, or answers INVALID with the failing index; an
abandon returns its table to CLEAN, active bank and generation as they were; the lock is set and returns SCHEDULE and
LIMITS to CLEAN (R172, R175, R176). The premise on the shadows is kept by every step (`BankInvariantIsKept`). -/
def Obligations.CommitAbandonAndLock : Prop :=
  ∀ (h : MgmtHead) (args : List Byte) (s : State), s.receives h →
    (s.storage = [] → (∀ x b d, (s.table x).shadow = .editing b d → b.length = x.size ∧ ∀ i ∈ d, i < x.size) →
      Completes (.tableCommit h args) s (Served s h 0x05 args (TableCommitted args))) ∧
    Completes (.tableAbandon h args) s (Served s h 0x06 args (TableAbandoned args)) ∧
    Completes (.ceilingLock h args) s (Served s h 0x07 args (CeilingLocked args))

/-! ## The Management Agent -/

/-- SAVE taken here is refused with BUSY while a SAVE is in flight or a table is POSTED, and otherwise writes the header
OPEN and answers nothing yet. Each write that succeeds stands in the parameter store and brings the next, the eight
tables, the trims and the header CLOSED; the header's success ends the SAVE with its reply, and so does a failure, which
leaves the header OPEN. A report without a SAVE in flight is discarded (R185 to R188). That a record stands in the store from
the success of its write, and that a failed write leaves what stood there, is the model's (log entry 26), and so is that any
report with a SAVE in flight is that of its present write (log entry 48). -/
def Obligations.SavesWriteTheStore : Prop :=
  (∀ (h : MgmtHead) (args : List Byte) (s : State), s.receives h →
    (args = [] → s.agent.save = none → (∀ x, (s.table x).shadow.name ≠ .posted) →
      Completes (.save h args) s fun t => ∃ u, Forwarded s (.mgmt h 0x0F args) u ∧ SaveBegun u h t) ∧
    (args = [] → s.agent.save ≠ none ∨ (∃ x, (s.table x).shadow.name = .posted) →
      Completes (.save h args) s (Served s h 0x0F args fun u a v => a = ⟨.busy, .empty⟩ ∧ v = u)) ∧
    (args ≠ [] → Completes (.save h args) s (Served s h 0x0F args fun u a v => a = ⟨.badArgs, .empty⟩ ∧ v = u))) ∧
  ∀ s : State,
    (s.agent.save = none → exec .saveWriteSuccess s = .next s ∧ exec .saveWriteFailure s = .next s) ∧
    ∀ run, s.agent.save = some run →
      (s.storage = [] → ∀ count, run.writing = .headerOpen count → Completes .saveWriteSuccess s
        (TableHanded { s with flash := { s.flash with header := ⟨false, count, true⟩ } } run .layout)) ∧
      (∀ x r, run.writing = .table x r →
        let u : State := { s with flash := { s.flash with tables := s.flash.tables.set (x.code - 1) r } }
        (s.storage = [] → ∀ y, y.code = x.code + 1 → Completes .saveWriteSuccess s (TableHanded u run y)) ∧
        (x = .groups → Completes .saveWriteSuccess s (RecordHanded u { run with writing := .trims s.trims }))) ∧
      (∀ trims, run.writing = .trims trims → Completes .saveWriteSuccess s
        (RecordHanded { s with flash := { s.flash with trims := ⟨trims, true⟩ } }
          { run with writing := .headerClosed s.agent.saveCount })) ∧
      (∀ count, run.writing = .headerClosed count → Completes .saveWriteSuccess s
        (SaveEnded { s with flash := { s.flash with header := ⟨true, count, true⟩ } } run
          ⟨if run.voids = [] then .ok else .storeFail, .saved count run.voids.length (run.voids.headD 0)⟩)) ∧
      ∀ code, (∀ x r, run.writing = .table x r → code = x.code) → (∀ trims, run.writing = .trims trims → code = 9) →
        (∀ count, run.writing = .headerOpen count ∨ run.writing = .headerClosed count → code = 10) →
        Completes .saveWriteFailure s (SaveEnded s run ⟨.storeFail, .saveFailed s.agent.saveCount code⟩)

/-- IDENTIFY is answered with the vendor code, the part code and a revision and serial number that no state changes,
STATUS-READ with every field as it stands, both refused with BAD_ARGS where they carry arguments, and a request with a code
outside Table 1-7 with UNKNOWN_REQUEST; none of them changes anything (R181, R183, R184). That the request's own frame is
forwarded, or lost and counted, before the reply is formed, so that the forward overflow count shown has its own loss in it, is
the model's choice (log entry 51). -/
def Obligations.IdentityAndStatusAreRead : Prop :=
  ∃ (revision : Byte) (serial : BitVec 32), 1 ≤ revision.toNat ∧
    ∀ (h : MgmtHead) (code : Byte) (args : List Byte) (s : State), s.receives h →
      Completes (.identify h args) s (Served s h 0x01 args fun u a v => v = u ∧
        (args = [] → a = ⟨.ok, .identity 0x5A17 0x0316 revision serial⟩) ∧ (args ≠ [] → a = ⟨.badArgs, .empty⟩)) ∧
      Completes (.statusRead h args) s (Served s h 0x02 args fun u a v => v = u ∧
        (args = [] → ∃ r, a = ⟨.ok, .status r⟩ ∧ StatusShows u r) ∧ (args ≠ [] → a = ⟨.badArgs, .empty⟩)) ∧
      Completes (.unknownRequest h code args) s (Served s h code args fun u a v =>
        v = u ∧ a = ⟨.unknownRequest, .empty⟩)

/-! ## Resets and start-up -/

/-- The three resets. Power-on and pin reset leave every block at its reset values and the part starting up, the pin reset
keeping the count, the clock, the drift, the restore history, the lock and, under the lock, SCHEDULE and LIMITS. A
SOFT-RESET taken here is answered first and then keeps and sets afresh what Table 11-4 gives; with arguments it is refused
with BAD_ARGS (R22, R43, R83, R98, R111, R123, R147, R164, R177, R180, R188, R189). The model's are: that the resets keep the
queue of waiting commands, and a SOFT-RESET the second event alone of what has been handed over (log entry 23), and the partners
at the ports (log entry 9); the order in which a SOFT-RESET hands the conditions over (log entry 37); that the words not yet emitted are discarded (log
entry 18); that a power-on or pin reset puts out no abort mark for a frame being sent (log entry 42); that the parameter store
stays as it is at a reset during a SAVE (log entry 26); and the ceiling source that a SOFT-RESET shows where a bad mark makes C
the substitute (log entry 53). -/
def Obligations.ResetsSetTheirValues : Prop :=
  (∀ s : State,
    Completes .powerOnReset s (fun t => ResetWhole s t ∧ t.time = ⟨0, 1, 0, 0, false, 0, 0, 0, .unset⟩ ∧
      t.faults.history = [] ∧ t.tables.lock = false ∧ ∀ x, (t.table x).generation = 0 ∧ (t.table x).bad = []) ∧
    Completes .pinReset s (fun t => ResetWhole s t ∧ t.time = { s.time with ceiling := 0, source := .unset } ∧
      t.faults.history = s.faults.history ∧ t.tables.lock = s.tables.lock ∧
      ∀ x, (s.tables.lock = true → x.lockable = true → t.table x = { s.table x with shadow := .clean }) ∧
        (s.tables.lock = false ∨ x.lockable = false → (t.table x).generation = 0 ∧ (t.table x).bad = []))) ∧
  ∀ (h : MgmtHead) (args : List Byte) (s : State), s.receives h → s.storage = [] →
    (args = [] → Completes (.softReset h args) s fun t => ∃ u v, Forwarded s (.mgmt h 0x10 args) u ∧
      Replied h 0x10 ⟨.ok, .empty⟩ u v ∧ SoftReset v t) ∧
    (args ≠ [] → Completes (.softReset h args) s
      (Served s h 0x10 args fun u a v => a = ⟨.badArgs, .empty⟩ ∧ v = u))

/-- The completion of start-up loads every table and the trims from good records and takes the built-in defaults for the
others, decides the flags and the lock, and lets the blocks begin: an UNCONFIGURED part is dark, C is evaluated, the
geometry is taken, every module is LIT, local ticks run, the conditions are handed over, and the ports with a partner
are UP. Before it, no command that one block hands to another has an effect, and a second completion has none (R96, R99,
R123, R169, R177, R185, R190 to R192). The model's are: that everything is loaded in the one step and a second completion does
nothing (log entry 8), the order in which the conditions are handed over (log entry 37), the hand-overs before start-up (log
entry 29), the partners (log entry 9), and the ceiling source shown where a bad mark makes C the substitute (log entry 53). The premises are kept by every step
(`LinkInvariantIsKept`, `LevelInvariantIsKept`) but for the empty report queue, which a reset leaves (R164). -/
def Obligations.StartUpLoadsTheStore : Prop :=
  ∀ s : State,
    (s.started = true → exec .startUpComplete s = .next s) ∧
    (s.started = false → ∀ c, waitsForStart c = true → exec c s = .next { s with handed := s.handed.erase c } ∨
      (exec c s = .next s ∧ (c = .sweepTick ∨ c = .moduleComputation))) ∧
    (s.started = false → s.storage = [] → LinkInvariant s → s.reports.queue = [] → s.dimming.level = 0 →
      Completes .startUpComplete s fun t =>
        StoreLoaded s t ∧ BlocksBegun s t ∧
        (t.unconfigured = true → ∃ src, t.dimming =
          { s.dimming with target := 0, mode := .forcedDark, source := src, ceiling := t.time.ceiling }) ∧
        (t.unconfigured = false → t.dimming = { s.dimming with ceiling := t.time.ceiling }) ∧
        t = { s with
                started := true, trims := t.trims, dimming := t.dimming, time := t.time, handed := t.handed
                agent := { t.agent with save := none }
                tables := { s.tables with
                  banks := t.tables.banks, lock := t.tables.lock, layoutMissing := t.tables.layoutMissing }
                capture := { s.capture with opened := if t.unconfigured then none else s.capture.opened }
                drive := { s.drive with geometry := t.drive.geometry }
                stream := { s.stream with localTick := t.stream.localTick }
                faults := { s.faults with modules := t.faults.modules }
                link := { s.link with
                  upU := s.link.partnerU, upD := s.link.partnerD
                  dHasBeenUp := s.link.dHasBeenUp || s.link.partnerD } })

/-! ## What every step keeps -/

/-- Every step keeps the invariant of the Link Interface and the Report Queue. -/
def Obligations.LinkInvariantIsKept : Prop :=
  ∀ s t : State, LinkInvariant s → step s = .next t → LinkInvariant t

/-- Every step keeps the frame store, the clock, the trims and the override in their forms and ranges. -/
def Obligations.StoredDataInvariantIsKept : Prop :=
  ∀ s t : State, StoredDataInvariant s → step s = .next t → StoredDataInvariant t

/-- Every step keeps the invariant of the banks, whatever the storage shows and the parameter store holds; and the law of
R176: once the ceiling lock is set, it stays set and the active SCHEDULE and LIMITS banks do not change until a power-on
reset. -/
def Obligations.BankInvariantIsKept : Prop :=
  ∀ s t : State, BankInvariant s → step s = .next t →
    BankInvariant t ∧
    (s.tables.lock = true → s.pending.head? ≠ some .powerOnReset →
      t.tables.lock = true ∧ (t.table .schedule).active = (s.table .schedule).active ∧
      (t.table .limits).active = (s.table .limits).active)

/-- Every step keeps the invariant of the level and the stream, whatever the storage shows. -/
def Obligations.LevelInvariantIsKept : Prop :=
  ∀ s t : State, LevelInvariant s → step s = .next t → LevelInvariant t

/-- Every step keeps the invariant of the fault table, whatever the storage shows. -/
def Obligations.FaultTableInvariantIsKept : Prop :=
  ∀ s t : State, FaultTableInvariant s → step s = .next t → FaultTableInvariant t

/-- The part right after power-on reset meets every invariant. That the banks are valid there before start-up has loaded
them is the model's choice of log entry 4. -/
def Obligations.ResetMeetsTheInvariants : Prop :=
  LinkInvariant State.reset ∧ StoredDataInvariant State.reset ∧ BankInvariant State.reset ∧ LevelInvariant State.reset ∧
    FaultTableInvariant State.reset
end

