-- ==== Sys2Proof/Laws/Capture.lean ====
section
/-! SUPPORT. The frame store's slots and the coverage map: a read after a write, the canonical form, and membership. -/

namespace Sys2Proof.Machine

/-- A position below every listed one reads as black. -/
theorem readSlot_below {a : Nat} {m : Slot} (h : ∀ p ∈ m, a < p.1) : readSlot a m = Pixel.black := by
  induction m with
  | nil => rfl
  | cons p rest ih =>
    obtain ⟨b, w⟩ := p
    have hb : a < b := h (b, w) (by simp)
    simp only [readSlot, if_neg (Nat.ne_of_lt hb)]
    exact ih fun q hq => h q (by simp [hq])

/-- A read after a write gives the sample written at its position and what was there elsewhere. -/
theorem readSlot_writeSlot {m : Slot} (hm : SlotWf m) (a b : Nat) (v : Pixel) :
    readSlot b (writeSlot a v m) = if b = a then v else readSlot b m := by
  induction m with
  | nil =>
    by_cases hv : v = Pixel.black <;> by_cases hb : b = a <;> simp [writeSlot, readSlot, hv, hb]
  | cons p rest ih =>
    obtain ⟨c, w⟩ := p
    obtain ⟨hp, hn⟩ := hm
    rw [List.pairwise_cons] at hp
    have ih' := ih ⟨hp.2, fun q hq => hn q (by simp [hq])⟩
    have below : ∀ x, x ≤ c → readSlot x rest = Pixel.black := fun x hx =>
      readSlot_below fun q hq => Nat.lt_of_le_of_lt hx (hp.1 q hq)
    simp only [writeSlot]
    by_cases h1 : a < c
    · by_cases hv : v = Pixel.black
      · by_cases hb : b = a
        · subst hb
          simp [h1, hv, readSlot, Nat.ne_of_lt h1, below b (Nat.le_of_lt h1)]
        · simp [h1, hv, hb]
      · by_cases hb : b = a <;> simp [h1, hv, hb, readSlot]
    · by_cases h2 : a = c
      · subst h2
        by_cases hv : v = Pixel.black
        · by_cases hb : b = a
          · simp [hv, hb, below a (Nat.le_refl a)]
          · simp [hv, hb, readSlot]
        · by_cases hb : b = a <;> simp [hv, hb, readSlot]
      · by_cases hb : b = c
        · subst hb
          have h3 : b ≠ a := fun h => h2 h.symm
          simp [h1, h2, h3, readSlot]
        · simp [h1, h2, hb, readSlot, ih']

/-- Every position of a slot after a write is the one written or was there. -/
theorem mem_writeSlot {a : Nat} {v : Pixel} {m : Slot} {p : Nat × Pixel} (h : p ∈ writeSlot a v m) :
    (p = (a, v) ∧ v ≠ Pixel.black) ∨ p ∈ m := by
  induction m with
  | nil =>
    by_cases hv : v = Pixel.black <;> simp_all [writeSlot]
  | cons q rest ih =>
    obtain ⟨c, w⟩ := q
    simp only [writeSlot] at h
    split at h
    · split at h
      · exact .inr h
      · rcases List.mem_cons.1 h with h | h
        · exact .inl ⟨h, ‹_›⟩
        · exact .inr h
    · split at h
      · split at h
        · exact .inr (List.mem_cons_of_mem _ h)
        · rcases List.mem_cons.1 h with h | h
          · exact .inl ⟨h, ‹_›⟩
          · exact .inr (List.mem_cons_of_mem _ h)
      · rcases List.mem_cons.1 h with h | h
        · exact .inr (by simp [h])
        · rcases ih h with h | h
          · exact .inl h
          · exact .inr (List.mem_cons_of_mem _ h)

/-- A write keeps the canonical form. -/
theorem slotWf_writeSlot {m : Slot} (hm : SlotWf m) (a : Nat) (v : Pixel) : SlotWf (writeSlot a v m) := by
  obtain ⟨hp, hn⟩ := hm
  refine ⟨?_, fun p h => ?_⟩
  · clear hn
    induction m with
    | nil => by_cases hv : v = Pixel.black <;> simp [writeSlot, hv]
    | cons q rest ih =>
      obtain ⟨c, w⟩ := q
      have hp' := List.pairwise_cons.1 hp
      simp only [writeSlot]
      split
      · split
        · exact hp
        · refine List.pairwise_cons.2 ⟨fun p h => ?_, hp⟩
          rcases List.mem_cons.1 h with h | h
          · simpa [h] using ‹a < c›
          · exact Nat.lt_trans ‹a < c› (hp'.1 p h)
      · split
        · split
          · exact hp'.2
          · refine List.pairwise_cons.2 ⟨fun p h => ?_, hp'.2⟩
            have := hp'.1 p h
            simp_all
        · refine List.pairwise_cons.2 ⟨fun p h => ?_, ih hp'.2⟩
          rcases mem_writeSlot h with ⟨h, -⟩ | h
          · simp only [h]
            omega
          · exact hp'.1 p h
  · rcases mem_writeSlot h with ⟨rfl, hv⟩ | hp
    · exact hv
    · exact hn p hp

/-- What a rising list holds once a number is added. -/
theorem mem_addSorted {a b : Nat} {l : List Nat} : b ∈ addSorted a l ↔ b = a ∨ b ∈ l := by
  induction l with
  | nil => simp [addSorted]
  | cons c rest ih =>
    simp only [addSorted]
    split
    · simp
    · split
      · simp_all
      · simp only [List.mem_cons, ih]
        tauto

/-- A number added keeps a rising list rising. -/
theorem addSorted_rising {a : Nat} {l : List Nat} (h : l.Pairwise (· < ·)) : (addSorted a l).Pairwise (· < ·) := by
  induction l with
  | nil => simp [addSorted]
  | cons c rest ih =>
    have h' := List.pairwise_cons.1 h
    simp only [addSorted]
    split
    · refine List.pairwise_cons.2 ⟨fun b hb => ?_, h⟩
      rcases List.mem_cons.1 hb with hb | hb
      · omega
      · exact Nat.lt_trans ‹a < c› (h'.1 b hb)
    · split
      · exact h
      · refine List.pairwise_cons.2 ⟨fun b hb => ?_, ih h'.2⟩
        rcases mem_addSorted.1 hb with rfl | hb
        · omega
        · exact h'.1 b hb

end Sys2Proof.Machine
end

