-- ==== Sys2Proof/Laws/DrivePort.lean ====
section
/-! SUPPORT. The passes of the Drive Port: what the end of an emission and the end of a pass do and leave unchanged. -/

namespace Sys2Proof.Machine

/-- The pass goes on as R100 says. -/
theorem Drive.nextModule_eq_passNext (d : Drive) : { d.nextModule with unemitted := none } = passNext d := by
  unfold Drive.nextModule passNext
  split <;> simp [*]

/-- The state once the last word of the module computed before has been emitted. -/
theorem State.wordsEmitted_eq_emitted (s : State) : s.wordsEmitted = s.emitted := by
  unfold State.wordsEmitted State.emitted
  rw [Drive.nextModule_eq_passNext]
  rfl

/-- The end of a pass discards the words not yet emitted, some number of them having gone out. -/
theorem State.passCutOff (s : State) : PassCutOff s (s.out ++ s.cutWords) := by
  unfold PassCutOff State.cutWords
  cases h : s.drive.unemitted with
  | none => simp
  | some e => simp

@[simp] theorem State.endPass_out (s : State) : s.endPass.out = s.out ++ s.cutWords := rfl
@[simp] theorem State.endPass_drive (s : State) : s.endPass.drive = { s.drive with unemitted := none } := rfl
@[simp] theorem State.endPass_started (s : State) : s.endPass.started = s.started := rfl
@[simp] theorem State.endPass_link (s : State) : s.endPass.link = s.link := rfl
@[simp] theorem State.endPass_capture (s : State) : s.endPass.capture = s.capture := rfl
@[simp] theorem State.endPass_trims (s : State) : s.endPass.trims = s.trims := rfl
@[simp] theorem State.endPass_dimming (s : State) : s.endPass.dimming = s.dimming := rfl
@[simp] theorem State.endPass_time (s : State) : s.endPass.time = s.time := rfl
@[simp] theorem State.endPass_stream (s : State) : s.endPass.stream = s.stream := rfl
@[simp] theorem State.endPass_faults (s : State) : s.endPass.faults = s.faults := rfl
@[simp] theorem State.endPass_reports (s : State) : s.endPass.reports = s.reports := rfl
@[simp] theorem State.endPass_tables (s : State) : s.endPass.tables = s.tables := rfl
@[simp] theorem State.endPass_agent (s : State) : s.endPass.agent = s.agent := rfl
@[simp] theorem State.endPass_flash (s : State) : s.endPass.flash = s.flash := rfl
@[simp] theorem State.endPass_storage (s : State) : s.endPass.storage = s.storage := rfl
@[simp] theorem State.endPass_handed (s : State) : s.endPass.handed = s.handed := rfl
@[simp] theorem State.endPass_pending (s : State) : s.endPass.pending = s.pending := rfl

end Sys2Proof.Machine
end

