-- ==== Sys2Proof/Laws/State.lean ====
section
/-! SUPPORT. The updates of the state: what each sets, and that it leaves every other field alone. -/

namespace Sys2Proof.Machine

/-- Two states are equal when all their fields are. -/
theorem State.eq_of_fields {a b : State} (h1 : a.started = b.started) (h2 : a.link = b.link)
    (h3 : a.capture = b.capture) (h4 : a.trims = b.trims) (h5 : a.dimming = b.dimming) (h6 : a.time = b.time)
    (h7 : a.drive = b.drive) (h8 : a.stream = b.stream) (h9 : a.faults = b.faults) (h10 : a.reports = b.reports)
    (h11 : a.tables = b.tables) (h12 : a.agent = b.agent) (h13 : a.flash = b.flash) (h14 : a.storage = b.storage)
    (h15 : a.handed = b.handed) (h16 : a.out = b.out) (h17 : a.pending = b.pending) : a = b := by
  cases a; cases b; simp_all

/-- A table record reads back as it was set, and the others as before. -/
@[simp] theorem Banks.get_set (b : Banks) (t x : Table) (r : TableRec) :
    (b.set t r).get x = if x = t then r else b.get x := by
  cases t <;> cases x <;> rfl

/-- The record of a table after one has been replaced. -/
@[simp] theorem State.setTable_table (s : State) (t x : Table) (r : TableRec) :
    (s.setTable t r).table x = if x = t then r else s.table x := Banks.get_set ..

/-- A condition flag reads back as it was set, and the others as before. -/
@[simp] theorem ConditionFlags.get_set (f : ConditionFlags) (c d : Condition) (b : Bool) :
    (f.set c b).get d = if d = c then b else f.get d := by
  cases c <;> cases d <;> rfl

@[simp] theorem State.hand_handed (s : State) (c : Instr) : (s.hand c).handed = s.handed ++ [c] := rfl

@[simp] theorem State.take_handed (s : State) (c : Instr) : (s.take c).handed = s.handed.erase c := rfl

@[simp] theorem State.emit_out (s : State) (o : Output) : (s.emit o).out = s.out ++ [o] := rfl

/-! `State.setTable` -/

@[simp] theorem State.setTable_started (s : State) (t : Table) (r : TableRec) :
    (s.setTable t r).started = s.started := rfl

@[simp] theorem State.setTable_link (s : State) (t : Table) (r : TableRec) :
    (s.setTable t r).link = s.link := rfl

@[simp] theorem State.setTable_capture (s : State) (t : Table) (r : TableRec) :
    (s.setTable t r).capture = s.capture := rfl

@[simp] theorem State.setTable_trims (s : State) (t : Table) (r : TableRec) :
    (s.setTable t r).trims = s.trims := rfl

@[simp] theorem State.setTable_dimming (s : State) (t : Table) (r : TableRec) :
    (s.setTable t r).dimming = s.dimming := rfl

@[simp] theorem State.setTable_time (s : State) (t : Table) (r : TableRec) :
    (s.setTable t r).time = s.time := rfl

@[simp] theorem State.setTable_drive (s : State) (t : Table) (r : TableRec) :
    (s.setTable t r).drive = s.drive := rfl

@[simp] theorem State.setTable_stream (s : State) (t : Table) (r : TableRec) :
    (s.setTable t r).stream = s.stream := rfl

@[simp] theorem State.setTable_faults (s : State) (t : Table) (r : TableRec) :
    (s.setTable t r).faults = s.faults := rfl

@[simp] theorem State.setTable_reports (s : State) (t : Table) (r : TableRec) :
    (s.setTable t r).reports = s.reports := rfl

@[simp] theorem State.setTable_agent (s : State) (t : Table) (r : TableRec) :
    (s.setTable t r).agent = s.agent := rfl

@[simp] theorem State.setTable_flash (s : State) (t : Table) (r : TableRec) :
    (s.setTable t r).flash = s.flash := rfl

@[simp] theorem State.setTable_storage (s : State) (t : Table) (r : TableRec) :
    (s.setTable t r).storage = s.storage := rfl

@[simp] theorem State.setTable_handed (s : State) (t : Table) (r : TableRec) :
    (s.setTable t r).handed = s.handed := rfl

@[simp] theorem State.setTable_out (s : State) (t : Table) (r : TableRec) :
    (s.setTable t r).out = s.out := rfl

@[simp] theorem State.setTable_pending (s : State) (t : Table) (r : TableRec) :
    (s.setTable t r).pending = s.pending := rfl

@[simp] theorem State.setTable_tables_lock (s : State) (t : Table) (r : TableRec) :
    (s.setTable t r).tables.lock = s.tables.lock := rfl

@[simp] theorem State.setTable_tables_corrected (s : State) (t : Table) (r : TableRec) :
    (s.setTable t r).tables.corrected = s.tables.corrected := rfl

@[simp] theorem State.setTable_tables_lastCorrected (s : State) (t : Table) (r : TableRec) :
    (s.setTable t r).tables.lastCorrected = s.tables.lastCorrected := rfl

@[simp] theorem State.setTable_tables_layoutMissing (s : State) (t : Table) (r : TableRec) :
    (s.setTable t r).tables.layoutMissing = s.tables.layoutMissing := rfl

/-! `State.hand` -/

@[simp] theorem State.hand_started (s : State) (c : Instr) :
    (s.hand c).started = s.started := rfl

@[simp] theorem State.hand_link (s : State) (c : Instr) :
    (s.hand c).link = s.link := rfl

@[simp] theorem State.hand_capture (s : State) (c : Instr) :
    (s.hand c).capture = s.capture := rfl

@[simp] theorem State.hand_trims (s : State) (c : Instr) :
    (s.hand c).trims = s.trims := rfl

@[simp] theorem State.hand_dimming (s : State) (c : Instr) :
    (s.hand c).dimming = s.dimming := rfl

@[simp] theorem State.hand_time (s : State) (c : Instr) :
    (s.hand c).time = s.time := rfl

@[simp] theorem State.hand_drive (s : State) (c : Instr) :
    (s.hand c).drive = s.drive := rfl

@[simp] theorem State.hand_stream (s : State) (c : Instr) :
    (s.hand c).stream = s.stream := rfl

@[simp] theorem State.hand_faults (s : State) (c : Instr) :
    (s.hand c).faults = s.faults := rfl

@[simp] theorem State.hand_reports (s : State) (c : Instr) :
    (s.hand c).reports = s.reports := rfl

@[simp] theorem State.hand_tables (s : State) (c : Instr) :
    (s.hand c).tables = s.tables := rfl

@[simp] theorem State.hand_agent (s : State) (c : Instr) :
    (s.hand c).agent = s.agent := rfl

@[simp] theorem State.hand_flash (s : State) (c : Instr) :
    (s.hand c).flash = s.flash := rfl

@[simp] theorem State.hand_storage (s : State) (c : Instr) :
    (s.hand c).storage = s.storage := rfl

@[simp] theorem State.hand_out (s : State) (c : Instr) :
    (s.hand c).out = s.out := rfl

@[simp] theorem State.hand_pending (s : State) (c : Instr) :
    (s.hand c).pending = s.pending := rfl

@[simp] theorem State.hand_table (s : State) (c : Instr) (x : Table) :
    (s.hand c).table x = s.table x := rfl

/-! `State.take` -/

@[simp] theorem State.take_started (s : State) (c : Instr) :
    (s.take c).started = s.started := rfl

@[simp] theorem State.take_link (s : State) (c : Instr) :
    (s.take c).link = s.link := rfl

@[simp] theorem State.take_capture (s : State) (c : Instr) :
    (s.take c).capture = s.capture := rfl

@[simp] theorem State.take_trims (s : State) (c : Instr) :
    (s.take c).trims = s.trims := rfl

@[simp] theorem State.take_dimming (s : State) (c : Instr) :
    (s.take c).dimming = s.dimming := rfl

@[simp] theorem State.take_time (s : State) (c : Instr) :
    (s.take c).time = s.time := rfl

@[simp] theorem State.take_drive (s : State) (c : Instr) :
    (s.take c).drive = s.drive := rfl

@[simp] theorem State.take_stream (s : State) (c : Instr) :
    (s.take c).stream = s.stream := rfl

@[simp] theorem State.take_faults (s : State) (c : Instr) :
    (s.take c).faults = s.faults := rfl

@[simp] theorem State.take_reports (s : State) (c : Instr) :
    (s.take c).reports = s.reports := rfl

@[simp] theorem State.take_tables (s : State) (c : Instr) :
    (s.take c).tables = s.tables := rfl

@[simp] theorem State.take_agent (s : State) (c : Instr) :
    (s.take c).agent = s.agent := rfl

@[simp] theorem State.take_flash (s : State) (c : Instr) :
    (s.take c).flash = s.flash := rfl

@[simp] theorem State.take_storage (s : State) (c : Instr) :
    (s.take c).storage = s.storage := rfl

@[simp] theorem State.take_out (s : State) (c : Instr) :
    (s.take c).out = s.out := rfl

@[simp] theorem State.take_pending (s : State) (c : Instr) :
    (s.take c).pending = s.pending := rfl

@[simp] theorem State.take_table (s : State) (c : Instr) (x : Table) :
    (s.take c).table x = s.table x := rfl

/-! `State.emit` -/

@[simp] theorem State.emit_started (s : State) (o : Output) :
    (s.emit o).started = s.started := rfl

@[simp] theorem State.emit_link (s : State) (o : Output) :
    (s.emit o).link = s.link := rfl

@[simp] theorem State.emit_capture (s : State) (o : Output) :
    (s.emit o).capture = s.capture := rfl

@[simp] theorem State.emit_trims (s : State) (o : Output) :
    (s.emit o).trims = s.trims := rfl

@[simp] theorem State.emit_dimming (s : State) (o : Output) :
    (s.emit o).dimming = s.dimming := rfl

@[simp] theorem State.emit_time (s : State) (o : Output) :
    (s.emit o).time = s.time := rfl

@[simp] theorem State.emit_drive (s : State) (o : Output) :
    (s.emit o).drive = s.drive := rfl

@[simp] theorem State.emit_stream (s : State) (o : Output) :
    (s.emit o).stream = s.stream := rfl

@[simp] theorem State.emit_faults (s : State) (o : Output) :
    (s.emit o).faults = s.faults := rfl

@[simp] theorem State.emit_reports (s : State) (o : Output) :
    (s.emit o).reports = s.reports := rfl

@[simp] theorem State.emit_tables (s : State) (o : Output) :
    (s.emit o).tables = s.tables := rfl

@[simp] theorem State.emit_agent (s : State) (o : Output) :
    (s.emit o).agent = s.agent := rfl

@[simp] theorem State.emit_flash (s : State) (o : Output) :
    (s.emit o).flash = s.flash := rfl

@[simp] theorem State.emit_storage (s : State) (o : Output) :
    (s.emit o).storage = s.storage := rfl

@[simp] theorem State.emit_handed (s : State) (o : Output) :
    (s.emit o).handed = s.handed := rfl

@[simp] theorem State.emit_pending (s : State) (o : Output) :
    (s.emit o).pending = s.pending := rfl

@[simp] theorem State.emit_table (s : State) (o : Output) (x : Table) :
    (s.emit o).table x = s.table x := rfl

end Sys2Proof.Machine
end

