-- ==== Sys2Proof/Laws/Storage.lean ====
section
/-! SUPPORT. What the reads of the banks yield, and what they and the start of UNCONFIGURED leave unchanged. -/

set_option linter.unusedSimpArgs false

namespace Sys2Proof.Machine

/-- A read that finds no storage error and no bad mark yields the entry and changes nothing (R166). -/
theorem State.readActive_quiet {s : State} (h : s.storage = []) (t : Table) (i : Nat) :
    s.readActive t i = (if i ∈ (s.table t).bad then .bad else .good ((s.table t).active.getD i 0), s) := by
  have hc : s.consult t .active i = (.sound, s) := by
    simp only [State.consult, h, popOutcome]
    cases s; simp_all
  unfold State.readActive
  split <;> simp [*]

/-! `State.lowerLevel` -/

@[simp] theorem State.lowerLevel_started (s : State) (l : Nat) :
    (s.lowerLevel l).started = s.started := by unfold State.lowerLevel; split <;> simp [State.table]

@[simp] theorem State.lowerLevel_link (s : State) (l : Nat) :
    (s.lowerLevel l).link = s.link := by unfold State.lowerLevel; split <;> simp [State.table]

@[simp] theorem State.lowerLevel_capture (s : State) (l : Nat) :
    (s.lowerLevel l).capture = s.capture := by unfold State.lowerLevel; split <;> simp [State.table]

@[simp] theorem State.lowerLevel_trims (s : State) (l : Nat) :
    (s.lowerLevel l).trims = s.trims := by unfold State.lowerLevel; split <;> simp [State.table]

@[simp] theorem State.lowerLevel_time (s : State) (l : Nat) :
    (s.lowerLevel l).time = s.time := by unfold State.lowerLevel; split <;> simp [State.table]

@[simp] theorem State.lowerLevel_drive (s : State) (l : Nat) :
    (s.lowerLevel l).drive = s.drive := by unfold State.lowerLevel; split <;> simp [State.table]

@[simp] theorem State.lowerLevel_stream (s : State) (l : Nat) :
    (s.lowerLevel l).stream = s.stream := by unfold State.lowerLevel; split <;> simp [State.table]

@[simp] theorem State.lowerLevel_faults (s : State) (l : Nat) :
    (s.lowerLevel l).faults = s.faults := by unfold State.lowerLevel; split <;> simp [State.table]

@[simp] theorem State.lowerLevel_reports (s : State) (l : Nat) :
    (s.lowerLevel l).reports = s.reports := by unfold State.lowerLevel; split <;> simp [State.table]

@[simp] theorem State.lowerLevel_tables (s : State) (l : Nat) :
    (s.lowerLevel l).tables = s.tables := by unfold State.lowerLevel; split <;> simp [State.table]

@[simp] theorem State.lowerLevel_agent (s : State) (l : Nat) :
    (s.lowerLevel l).agent = s.agent := by unfold State.lowerLevel; split <;> simp [State.table]

@[simp] theorem State.lowerLevel_flash (s : State) (l : Nat) :
    (s.lowerLevel l).flash = s.flash := by unfold State.lowerLevel; split <;> simp [State.table]

@[simp] theorem State.lowerLevel_storage (s : State) (l : Nat) :
    (s.lowerLevel l).storage = s.storage := by unfold State.lowerLevel; split <;> simp [State.table]

@[simp] theorem State.lowerLevel_out (s : State) (l : Nat) :
    (s.lowerLevel l).out = s.out := by unfold State.lowerLevel; split <;> simp [State.table]

@[simp] theorem State.lowerLevel_pending (s : State) (l : Nat) :
    (s.lowerLevel l).pending = s.pending := by unfold State.lowerLevel; split <;> simp [State.table]

@[simp] theorem State.lowerLevel_dimming_target (s : State) (l : Nat) :
    (s.lowerLevel l).dimming.target = s.dimming.target := by unfold State.lowerLevel; split <;> simp [State.table]

@[simp] theorem State.lowerLevel_dimming_mode (s : State) (l : Nat) :
    (s.lowerLevel l).dimming.mode = s.dimming.mode := by unfold State.lowerLevel; split <;> simp [State.table]

@[simp] theorem State.lowerLevel_dimming_source (s : State) (l : Nat) :
    (s.lowerLevel l).dimming.source = s.dimming.source := by unfold State.lowerLevel; split <;> simp [State.table]

@[simp] theorem State.lowerLevel_dimming_override (s : State) (l : Nat) :
    (s.lowerLevel l).dimming.override = s.dimming.override := by unfold State.lowerLevel; split <;> simp [State.table]

@[simp] theorem State.lowerLevel_dimming_lux (s : State) (l : Nat) :
    (s.lowerLevel l).dimming.lux = s.dimming.lux := by unfold State.lowerLevel; split <;> simp [State.table]

@[simp] theorem State.lowerLevel_dimming_luxValid (s : State) (l : Nat) :
    (s.lowerLevel l).dimming.luxValid = s.dimming.luxValid := by unfold State.lowerLevel; split <;> simp [State.table]

@[simp] theorem State.lowerLevel_dimming_ceiling (s : State) (l : Nat) :
    (s.lowerLevel l).dimming.ceiling = s.dimming.ceiling := by unfold State.lowerLevel; split <;> simp [State.table]

@[simp] theorem State.lowerLevel_table (s : State) (l : Nat) (x : Table) :
    (s.lowerLevel l).table x = s.table x := by unfold State.lowerLevel; split <;> simp [State.table]

/-! `State.darkTarget` -/

@[simp] theorem State.darkTarget_started (s : State) :
    (s.darkTarget).started = s.started := rfl

@[simp] theorem State.darkTarget_link (s : State) :
    (s.darkTarget).link = s.link := rfl

@[simp] theorem State.darkTarget_capture (s : State) :
    (s.darkTarget).capture = s.capture := rfl

@[simp] theorem State.darkTarget_trims (s : State) :
    (s.darkTarget).trims = s.trims := rfl

@[simp] theorem State.darkTarget_time (s : State) :
    (s.darkTarget).time = s.time := rfl

@[simp] theorem State.darkTarget_drive (s : State) :
    (s.darkTarget).drive = s.drive := rfl

@[simp] theorem State.darkTarget_stream (s : State) :
    (s.darkTarget).stream = s.stream := rfl

@[simp] theorem State.darkTarget_faults (s : State) :
    (s.darkTarget).faults = s.faults := rfl

@[simp] theorem State.darkTarget_reports (s : State) :
    (s.darkTarget).reports = s.reports := rfl

@[simp] theorem State.darkTarget_tables (s : State) :
    (s.darkTarget).tables = s.tables := rfl

@[simp] theorem State.darkTarget_agent (s : State) :
    (s.darkTarget).agent = s.agent := rfl

@[simp] theorem State.darkTarget_flash (s : State) :
    (s.darkTarget).flash = s.flash := rfl

@[simp] theorem State.darkTarget_storage (s : State) :
    (s.darkTarget).storage = s.storage := rfl

@[simp] theorem State.darkTarget_handed (s : State) :
    (s.darkTarget).handed = s.handed := rfl

@[simp] theorem State.darkTarget_out (s : State) :
    (s.darkTarget).out = s.out := rfl

@[simp] theorem State.darkTarget_pending (s : State) :
    (s.darkTarget).pending = s.pending := rfl

@[simp] theorem State.darkTarget_dimming_level (s : State) :
    (s.darkTarget).dimming.level = s.dimming.level := rfl

@[simp] theorem State.darkTarget_dimming_override (s : State) :
    (s.darkTarget).dimming.override = s.dimming.override := rfl

@[simp] theorem State.darkTarget_dimming_lux (s : State) :
    (s.darkTarget).dimming.lux = s.dimming.lux := rfl

@[simp] theorem State.darkTarget_dimming_luxValid (s : State) :
    (s.darkTarget).dimming.luxValid = s.dimming.luxValid := rfl

@[simp] theorem State.darkTarget_dimming_ceiling (s : State) :
    (s.darkTarget).dimming.ceiling = s.dimming.ceiling := rfl

@[simp] theorem State.darkTarget_table (s : State) (x : Table) :
    (s.darkTarget).table x = s.table x := rfl

/-! `State.darkAtOnce` -/

@[simp] theorem State.darkAtOnce_started (s : State) :
    (s.darkAtOnce).started = s.started := by simp [State.darkAtOnce]

@[simp] theorem State.darkAtOnce_link (s : State) :
    (s.darkAtOnce).link = s.link := by simp [State.darkAtOnce]

@[simp] theorem State.darkAtOnce_capture (s : State) :
    (s.darkAtOnce).capture = s.capture := by simp [State.darkAtOnce]

@[simp] theorem State.darkAtOnce_trims (s : State) :
    (s.darkAtOnce).trims = s.trims := by simp [State.darkAtOnce]

@[simp] theorem State.darkAtOnce_time (s : State) :
    (s.darkAtOnce).time = s.time := by simp [State.darkAtOnce]

@[simp] theorem State.darkAtOnce_drive (s : State) :
    (s.darkAtOnce).drive = s.drive := by simp [State.darkAtOnce]

@[simp] theorem State.darkAtOnce_stream (s : State) :
    (s.darkAtOnce).stream = s.stream := by simp [State.darkAtOnce]

@[simp] theorem State.darkAtOnce_faults (s : State) :
    (s.darkAtOnce).faults = s.faults := by simp [State.darkAtOnce]

@[simp] theorem State.darkAtOnce_reports (s : State) :
    (s.darkAtOnce).reports = s.reports := by simp [State.darkAtOnce]

@[simp] theorem State.darkAtOnce_tables (s : State) :
    (s.darkAtOnce).tables = s.tables := by simp [State.darkAtOnce]

@[simp] theorem State.darkAtOnce_agent (s : State) :
    (s.darkAtOnce).agent = s.agent := by simp [State.darkAtOnce]

@[simp] theorem State.darkAtOnce_flash (s : State) :
    (s.darkAtOnce).flash = s.flash := by simp [State.darkAtOnce]

@[simp] theorem State.darkAtOnce_storage (s : State) :
    (s.darkAtOnce).storage = s.storage := by simp [State.darkAtOnce]

@[simp] theorem State.darkAtOnce_out (s : State) :
    (s.darkAtOnce).out = s.out := by simp [State.darkAtOnce]

@[simp] theorem State.darkAtOnce_pending (s : State) :
    (s.darkAtOnce).pending = s.pending := by simp [State.darkAtOnce]

@[simp] theorem State.darkAtOnce_dimming_override (s : State) :
    (s.darkAtOnce).dimming.override = s.dimming.override := by simp [State.darkAtOnce]

@[simp] theorem State.darkAtOnce_dimming_lux (s : State) :
    (s.darkAtOnce).dimming.lux = s.dimming.lux := by simp [State.darkAtOnce]

@[simp] theorem State.darkAtOnce_dimming_luxValid (s : State) :
    (s.darkAtOnce).dimming.luxValid = s.dimming.luxValid := by simp [State.darkAtOnce]

@[simp] theorem State.darkAtOnce_dimming_ceiling (s : State) :
    (s.darkAtOnce).dimming.ceiling = s.dimming.ceiling := by simp [State.darkAtOnce]

@[simp] theorem State.darkAtOnce_table (s : State) (x : Table) :
    (s.darkAtOnce).table x = s.table x := by simp [State.darkAtOnce]

/-! `State.beginUnconfigured` -/

@[simp] theorem State.beginUnconfigured_started (s : State) :
    (s.beginUnconfigured).started = s.started := by simp [State.beginUnconfigured]

@[simp] theorem State.beginUnconfigured_link (s : State) :
    (s.beginUnconfigured).link = s.link := by simp [State.beginUnconfigured]

@[simp] theorem State.beginUnconfigured_trims (s : State) :
    (s.beginUnconfigured).trims = s.trims := by simp [State.beginUnconfigured]

@[simp] theorem State.beginUnconfigured_time (s : State) :
    (s.beginUnconfigured).time = s.time := by simp [State.beginUnconfigured]

@[simp] theorem State.beginUnconfigured_drive (s : State) :
    (s.beginUnconfigured).drive = s.drive := by simp [State.beginUnconfigured]

@[simp] theorem State.beginUnconfigured_stream (s : State) :
    (s.beginUnconfigured).stream = s.stream := by simp [State.beginUnconfigured]

@[simp] theorem State.beginUnconfigured_faults (s : State) :
    (s.beginUnconfigured).faults = s.faults := by simp [State.beginUnconfigured]

@[simp] theorem State.beginUnconfigured_reports (s : State) :
    (s.beginUnconfigured).reports = s.reports := by simp [State.beginUnconfigured]

@[simp] theorem State.beginUnconfigured_tables (s : State) :
    (s.beginUnconfigured).tables = s.tables := by simp [State.beginUnconfigured]

@[simp] theorem State.beginUnconfigured_agent (s : State) :
    (s.beginUnconfigured).agent = s.agent := by simp [State.beginUnconfigured]

@[simp] theorem State.beginUnconfigured_flash (s : State) :
    (s.beginUnconfigured).flash = s.flash := by simp [State.beginUnconfigured]

@[simp] theorem State.beginUnconfigured_storage (s : State) :
    (s.beginUnconfigured).storage = s.storage := by simp [State.beginUnconfigured]

@[simp] theorem State.beginUnconfigured_out (s : State) :
    (s.beginUnconfigured).out = s.out := by simp [State.beginUnconfigured]

@[simp] theorem State.beginUnconfigured_pending (s : State) :
    (s.beginUnconfigured).pending = s.pending := by simp [State.beginUnconfigured]

@[simp] theorem State.beginUnconfigured_capture_displayed (s : State) :
    (s.beginUnconfigured).capture.displayed = s.capture.displayed := by simp [State.beginUnconfigured]

@[simp] theorem State.beginUnconfigured_capture_display (s : State) :
    (s.beginUnconfigured).capture.display = s.capture.display := by simp [State.beginUnconfigured]

@[simp] theorem State.beginUnconfigured_capture_fill (s : State) :
    (s.beginUnconfigured).capture.fill = s.capture.fill := by simp [State.beginUnconfigured]

@[simp] theorem State.beginUnconfigured_capture_incomplete (s : State) :
    (s.beginUnconfigured).capture.incomplete = s.capture.incomplete := by simp [State.beginUnconfigured]

@[simp] theorem State.beginUnconfigured_dimming_override (s : State) :
    (s.beginUnconfigured).dimming.override = s.dimming.override := by simp [State.beginUnconfigured]

@[simp] theorem State.beginUnconfigured_dimming_lux (s : State) :
    (s.beginUnconfigured).dimming.lux = s.dimming.lux := by simp [State.beginUnconfigured]

@[simp] theorem State.beginUnconfigured_dimming_luxValid (s : State) :
    (s.beginUnconfigured).dimming.luxValid = s.dimming.luxValid := by simp [State.beginUnconfigured]

@[simp] theorem State.beginUnconfigured_dimming_ceiling (s : State) :
    (s.beginUnconfigured).dimming.ceiling = s.dimming.ceiling := by simp [State.beginUnconfigured]

@[simp] theorem State.beginUnconfigured_table (s : State) (x : Table) :
    (s.beginUnconfigured).table x = s.table x := by simp [State.beginUnconfigured, State.table]

/-! `State.consult` -/

@[simp] theorem State.consult_started (s : State) (t : Table) (b : BankName) (i : Nat) :
    ((s.consult t b i).2).started = s.started := rfl

@[simp] theorem State.consult_link (s : State) (t : Table) (b : BankName) (i : Nat) :
    ((s.consult t b i).2).link = s.link := rfl

@[simp] theorem State.consult_capture (s : State) (t : Table) (b : BankName) (i : Nat) :
    ((s.consult t b i).2).capture = s.capture := rfl

@[simp] theorem State.consult_trims (s : State) (t : Table) (b : BankName) (i : Nat) :
    ((s.consult t b i).2).trims = s.trims := rfl

@[simp] theorem State.consult_dimming (s : State) (t : Table) (b : BankName) (i : Nat) :
    ((s.consult t b i).2).dimming = s.dimming := rfl

@[simp] theorem State.consult_time (s : State) (t : Table) (b : BankName) (i : Nat) :
    ((s.consult t b i).2).time = s.time := rfl

@[simp] theorem State.consult_drive (s : State) (t : Table) (b : BankName) (i : Nat) :
    ((s.consult t b i).2).drive = s.drive := rfl

@[simp] theorem State.consult_stream (s : State) (t : Table) (b : BankName) (i : Nat) :
    ((s.consult t b i).2).stream = s.stream := rfl

@[simp] theorem State.consult_faults (s : State) (t : Table) (b : BankName) (i : Nat) :
    ((s.consult t b i).2).faults = s.faults := rfl

@[simp] theorem State.consult_reports (s : State) (t : Table) (b : BankName) (i : Nat) :
    ((s.consult t b i).2).reports = s.reports := rfl

@[simp] theorem State.consult_tables (s : State) (t : Table) (b : BankName) (i : Nat) :
    ((s.consult t b i).2).tables = s.tables := rfl

@[simp] theorem State.consult_agent (s : State) (t : Table) (b : BankName) (i : Nat) :
    ((s.consult t b i).2).agent = s.agent := rfl

@[simp] theorem State.consult_flash (s : State) (t : Table) (b : BankName) (i : Nat) :
    ((s.consult t b i).2).flash = s.flash := rfl

@[simp] theorem State.consult_handed (s : State) (t : Table) (b : BankName) (i : Nat) :
    ((s.consult t b i).2).handed = s.handed := rfl

@[simp] theorem State.consult_out (s : State) (t : Table) (b : BankName) (i : Nat) :
    ((s.consult t b i).2).out = s.out := rfl

@[simp] theorem State.consult_pending (s : State) (t : Table) (b : BankName) (i : Nat) :
    ((s.consult t b i).2).pending = s.pending := rfl

@[simp] theorem State.consult_table (s : State) (t : Table) (b : BankName) (i : Nat) (x : Table) :
    ((s.consult t b i).2).table x = s.table x := rfl

/-! `State.noteCorrected` -/

@[simp] theorem State.noteCorrected_started (s : State) (t : Table) (b : BankName) (i : Nat) :
    (s.noteCorrected t b i).started = s.started := rfl

@[simp] theorem State.noteCorrected_link (s : State) (t : Table) (b : BankName) (i : Nat) :
    (s.noteCorrected t b i).link = s.link := rfl

@[simp] theorem State.noteCorrected_capture (s : State) (t : Table) (b : BankName) (i : Nat) :
    (s.noteCorrected t b i).capture = s.capture := rfl

@[simp] theorem State.noteCorrected_trims (s : State) (t : Table) (b : BankName) (i : Nat) :
    (s.noteCorrected t b i).trims = s.trims := rfl

@[simp] theorem State.noteCorrected_dimming (s : State) (t : Table) (b : BankName) (i : Nat) :
    (s.noteCorrected t b i).dimming = s.dimming := rfl

@[simp] theorem State.noteCorrected_time (s : State) (t : Table) (b : BankName) (i : Nat) :
    (s.noteCorrected t b i).time = s.time := rfl

@[simp] theorem State.noteCorrected_drive (s : State) (t : Table) (b : BankName) (i : Nat) :
    (s.noteCorrected t b i).drive = s.drive := rfl

@[simp] theorem State.noteCorrected_stream (s : State) (t : Table) (b : BankName) (i : Nat) :
    (s.noteCorrected t b i).stream = s.stream := rfl

@[simp] theorem State.noteCorrected_faults (s : State) (t : Table) (b : BankName) (i : Nat) :
    (s.noteCorrected t b i).faults = s.faults := rfl

@[simp] theorem State.noteCorrected_reports (s : State) (t : Table) (b : BankName) (i : Nat) :
    (s.noteCorrected t b i).reports = s.reports := rfl

@[simp] theorem State.noteCorrected_agent (s : State) (t : Table) (b : BankName) (i : Nat) :
    (s.noteCorrected t b i).agent = s.agent := rfl

@[simp] theorem State.noteCorrected_flash (s : State) (t : Table) (b : BankName) (i : Nat) :
    (s.noteCorrected t b i).flash = s.flash := rfl

@[simp] theorem State.noteCorrected_storage (s : State) (t : Table) (b : BankName) (i : Nat) :
    (s.noteCorrected t b i).storage = s.storage := rfl

@[simp] theorem State.noteCorrected_handed (s : State) (t : Table) (b : BankName) (i : Nat) :
    (s.noteCorrected t b i).handed = s.handed := rfl

@[simp] theorem State.noteCorrected_out (s : State) (t : Table) (b : BankName) (i : Nat) :
    (s.noteCorrected t b i).out = s.out := rfl

@[simp] theorem State.noteCorrected_pending (s : State) (t : Table) (b : BankName) (i : Nat) :
    (s.noteCorrected t b i).pending = s.pending := rfl

@[simp] theorem State.noteCorrected_tables_lock (s : State) (t : Table) (b : BankName) (i : Nat) :
    (s.noteCorrected t b i).tables.lock = s.tables.lock := rfl

@[simp] theorem State.noteCorrected_tables_layoutMissing (s : State) (t : Table) (b : BankName) (i : Nat) :
    (s.noteCorrected t b i).tables.layoutMissing = s.tables.layoutMissing := rfl

@[simp] theorem State.noteCorrected_table_active (s : State) (t : Table) (b : BankName) (i : Nat) (x : Table) :
    ((s.noteCorrected t b i).table x).active = (s.table x).active := rfl

@[simp] theorem State.noteCorrected_table_shadow (s : State) (t : Table) (b : BankName) (i : Nat) (x : Table) :
    ((s.noteCorrected t b i).table x).shadow = (s.table x).shadow := rfl

@[simp] theorem State.noteCorrected_table_generation (s : State) (t : Table) (b : BankName) (i : Nat) (x : Table) :
    ((s.noteCorrected t b i).table x).generation = (s.table x).generation := rfl

@[simp] theorem State.noteCorrected_table_bad (s : State) (t : Table) (b : BankName) (i : Nat) (x : Table) :
    ((s.noteCorrected t b i).table x).bad = (s.table x).bad := rfl

/-! `State.markBad` -/

@[simp] theorem State.markBad_started (s : State) (t : Table) (i : Nat) :
    (s.markBad t i).started = s.started := by unfold State.markBad; dsimp only; (repeat' split) <;> simp

@[simp] theorem State.markBad_link (s : State) (t : Table) (i : Nat) :
    (s.markBad t i).link = s.link := by unfold State.markBad; dsimp only; (repeat' split) <;> simp

@[simp] theorem State.markBad_trims (s : State) (t : Table) (i : Nat) :
    (s.markBad t i).trims = s.trims := by unfold State.markBad; dsimp only; (repeat' split) <;> simp

@[simp] theorem State.markBad_time (s : State) (t : Table) (i : Nat) :
    (s.markBad t i).time = s.time := by unfold State.markBad; dsimp only; (repeat' split) <;> simp

@[simp] theorem State.markBad_drive (s : State) (t : Table) (i : Nat) :
    (s.markBad t i).drive = s.drive := by unfold State.markBad; dsimp only; (repeat' split) <;> simp

@[simp] theorem State.markBad_stream (s : State) (t : Table) (i : Nat) :
    (s.markBad t i).stream = s.stream := by unfold State.markBad; dsimp only; (repeat' split) <;> simp

@[simp] theorem State.markBad_faults (s : State) (t : Table) (i : Nat) :
    (s.markBad t i).faults = s.faults := by unfold State.markBad; dsimp only; (repeat' split) <;> simp

@[simp] theorem State.markBad_reports (s : State) (t : Table) (i : Nat) :
    (s.markBad t i).reports = s.reports := by unfold State.markBad; dsimp only; (repeat' split) <;> simp

@[simp] theorem State.markBad_agent (s : State) (t : Table) (i : Nat) :
    (s.markBad t i).agent = s.agent := by unfold State.markBad; dsimp only; (repeat' split) <;> simp

@[simp] theorem State.markBad_flash (s : State) (t : Table) (i : Nat) :
    (s.markBad t i).flash = s.flash := by unfold State.markBad; dsimp only; (repeat' split) <;> simp

@[simp] theorem State.markBad_storage (s : State) (t : Table) (i : Nat) :
    (s.markBad t i).storage = s.storage := by unfold State.markBad; dsimp only; (repeat' split) <;> simp

@[simp] theorem State.markBad_out (s : State) (t : Table) (i : Nat) :
    (s.markBad t i).out = s.out := by unfold State.markBad; dsimp only; (repeat' split) <;> simp

@[simp] theorem State.markBad_pending (s : State) (t : Table) (i : Nat) :
    (s.markBad t i).pending = s.pending := by unfold State.markBad; dsimp only; (repeat' split) <;> simp

@[simp] theorem State.markBad_capture_displayed (s : State) (t : Table) (i : Nat) :
    (s.markBad t i).capture.displayed = s.capture.displayed := by unfold State.markBad; dsimp only; (repeat' split) <;> simp

@[simp] theorem State.markBad_capture_display (s : State) (t : Table) (i : Nat) :
    (s.markBad t i).capture.display = s.capture.display := by unfold State.markBad; dsimp only; (repeat' split) <;> simp

@[simp] theorem State.markBad_capture_fill (s : State) (t : Table) (i : Nat) :
    (s.markBad t i).capture.fill = s.capture.fill := by unfold State.markBad; dsimp only; (repeat' split) <;> simp

@[simp] theorem State.markBad_capture_incomplete (s : State) (t : Table) (i : Nat) :
    (s.markBad t i).capture.incomplete = s.capture.incomplete := by unfold State.markBad; dsimp only; (repeat' split) <;> simp

@[simp] theorem State.markBad_dimming_override (s : State) (t : Table) (i : Nat) :
    (s.markBad t i).dimming.override = s.dimming.override := by unfold State.markBad; dsimp only; (repeat' split) <;> simp

@[simp] theorem State.markBad_dimming_lux (s : State) (t : Table) (i : Nat) :
    (s.markBad t i).dimming.lux = s.dimming.lux := by unfold State.markBad; dsimp only; (repeat' split) <;> simp

@[simp] theorem State.markBad_dimming_luxValid (s : State) (t : Table) (i : Nat) :
    (s.markBad t i).dimming.luxValid = s.dimming.luxValid := by unfold State.markBad; dsimp only; (repeat' split) <;> simp

@[simp] theorem State.markBad_dimming_ceiling (s : State) (t : Table) (i : Nat) :
    (s.markBad t i).dimming.ceiling = s.dimming.ceiling := by unfold State.markBad; dsimp only; (repeat' split) <;> simp

@[simp] theorem State.markBad_tables_lock (s : State) (t : Table) (i : Nat) :
    (s.markBad t i).tables.lock = s.tables.lock := by unfold State.markBad; dsimp only; (repeat' split) <;> simp

@[simp] theorem State.markBad_tables_corrected (s : State) (t : Table) (i : Nat) :
    (s.markBad t i).tables.corrected = s.tables.corrected := by unfold State.markBad; dsimp only; (repeat' split) <;> simp

@[simp] theorem State.markBad_tables_lastCorrected (s : State) (t : Table) (i : Nat) :
    (s.markBad t i).tables.lastCorrected = s.tables.lastCorrected := by unfold State.markBad; dsimp only; (repeat' split) <;> simp

@[simp] theorem State.markBad_tables_layoutMissing (s : State) (t : Table) (i : Nat) :
    (s.markBad t i).tables.layoutMissing = s.tables.layoutMissing := by unfold State.markBad; dsimp only; (repeat' split) <;> simp

@[simp] theorem State.markBad_table_active (s : State) (t : Table) (i : Nat) (x : Table) :
    ((s.markBad t i).table x).active = (s.table x).active := by unfold State.markBad; dsimp only; (repeat' split) <;> simp <;> (try split) <;> simp_all

@[simp] theorem State.markBad_table_shadow (s : State) (t : Table) (i : Nat) (x : Table) :
    ((s.markBad t i).table x).shadow = (s.table x).shadow := by unfold State.markBad; dsimp only; (repeat' split) <;> simp <;> (try split) <;> simp_all

@[simp] theorem State.markBad_table_generation (s : State) (t : Table) (i : Nat) (x : Table) :
    ((s.markBad t i).table x).generation = (s.table x).generation := by unfold State.markBad; dsimp only; (repeat' split) <;> simp <;> (try split) <;> simp_all

/-! `State.readActive` -/

@[simp] theorem State.readActive_started (s : State) (t : Table) (i : Nat) :
    ((s.readActive t i).2).started = s.started := by unfold State.readActive; dsimp only; (repeat' split) <;> simp

@[simp] theorem State.readActive_link (s : State) (t : Table) (i : Nat) :
    ((s.readActive t i).2).link = s.link := by unfold State.readActive; dsimp only; (repeat' split) <;> simp

@[simp] theorem State.readActive_trims (s : State) (t : Table) (i : Nat) :
    ((s.readActive t i).2).trims = s.trims := by unfold State.readActive; dsimp only; (repeat' split) <;> simp

@[simp] theorem State.readActive_time (s : State) (t : Table) (i : Nat) :
    ((s.readActive t i).2).time = s.time := by unfold State.readActive; dsimp only; (repeat' split) <;> simp

@[simp] theorem State.readActive_drive (s : State) (t : Table) (i : Nat) :
    ((s.readActive t i).2).drive = s.drive := by unfold State.readActive; dsimp only; (repeat' split) <;> simp

@[simp] theorem State.readActive_stream (s : State) (t : Table) (i : Nat) :
    ((s.readActive t i).2).stream = s.stream := by unfold State.readActive; dsimp only; (repeat' split) <;> simp

@[simp] theorem State.readActive_faults (s : State) (t : Table) (i : Nat) :
    ((s.readActive t i).2).faults = s.faults := by unfold State.readActive; dsimp only; (repeat' split) <;> simp

@[simp] theorem State.readActive_reports (s : State) (t : Table) (i : Nat) :
    ((s.readActive t i).2).reports = s.reports := by unfold State.readActive; dsimp only; (repeat' split) <;> simp

@[simp] theorem State.readActive_agent (s : State) (t : Table) (i : Nat) :
    ((s.readActive t i).2).agent = s.agent := by unfold State.readActive; dsimp only; (repeat' split) <;> simp

@[simp] theorem State.readActive_flash (s : State) (t : Table) (i : Nat) :
    ((s.readActive t i).2).flash = s.flash := by unfold State.readActive; dsimp only; (repeat' split) <;> simp

@[simp] theorem State.readActive_out (s : State) (t : Table) (i : Nat) :
    ((s.readActive t i).2).out = s.out := by unfold State.readActive; dsimp only; (repeat' split) <;> simp

@[simp] theorem State.readActive_pending (s : State) (t : Table) (i : Nat) :
    ((s.readActive t i).2).pending = s.pending := by unfold State.readActive; dsimp only; (repeat' split) <;> simp

@[simp] theorem State.readActive_capture_displayed (s : State) (t : Table) (i : Nat) :
    ((s.readActive t i).2).capture.displayed = s.capture.displayed := by unfold State.readActive; dsimp only; (repeat' split) <;> simp

@[simp] theorem State.readActive_capture_display (s : State) (t : Table) (i : Nat) :
    ((s.readActive t i).2).capture.display = s.capture.display := by unfold State.readActive; dsimp only; (repeat' split) <;> simp

@[simp] theorem State.readActive_capture_fill (s : State) (t : Table) (i : Nat) :
    ((s.readActive t i).2).capture.fill = s.capture.fill := by unfold State.readActive; dsimp only; (repeat' split) <;> simp

@[simp] theorem State.readActive_capture_incomplete (s : State) (t : Table) (i : Nat) :
    ((s.readActive t i).2).capture.incomplete = s.capture.incomplete := by unfold State.readActive; dsimp only; (repeat' split) <;> simp

@[simp] theorem State.readActive_dimming_override (s : State) (t : Table) (i : Nat) :
    ((s.readActive t i).2).dimming.override = s.dimming.override := by unfold State.readActive; dsimp only; (repeat' split) <;> simp

@[simp] theorem State.readActive_dimming_lux (s : State) (t : Table) (i : Nat) :
    ((s.readActive t i).2).dimming.lux = s.dimming.lux := by unfold State.readActive; dsimp only; (repeat' split) <;> simp

@[simp] theorem State.readActive_dimming_luxValid (s : State) (t : Table) (i : Nat) :
    ((s.readActive t i).2).dimming.luxValid = s.dimming.luxValid := by unfold State.readActive; dsimp only; (repeat' split) <;> simp

@[simp] theorem State.readActive_dimming_ceiling (s : State) (t : Table) (i : Nat) :
    ((s.readActive t i).2).dimming.ceiling = s.dimming.ceiling := by unfold State.readActive; dsimp only; (repeat' split) <;> simp

@[simp] theorem State.readActive_tables_lock (s : State) (t : Table) (i : Nat) :
    ((s.readActive t i).2).tables.lock = s.tables.lock := by unfold State.readActive; dsimp only; (repeat' split) <;> simp

@[simp] theorem State.readActive_tables_layoutMissing (s : State) (t : Table) (i : Nat) :
    ((s.readActive t i).2).tables.layoutMissing = s.tables.layoutMissing := by unfold State.readActive; dsimp only; (repeat' split) <;> simp

@[simp] theorem State.readActive_table_active (s : State) (t : Table) (i : Nat) (x : Table) :
    (((s.readActive t i).2).table x).active = (s.table x).active := by unfold State.readActive; dsimp only; (repeat' split) <;> simp

@[simp] theorem State.readActive_table_shadow (s : State) (t : Table) (i : Nat) (x : Table) :
    (((s.readActive t i).2).table x).shadow = (s.table x).shadow := by unfold State.readActive; dsimp only; (repeat' split) <;> simp

@[simp] theorem State.readActive_table_generation (s : State) (t : Table) (i : Nat) (x : Table) :
    (((s.readActive t i).2).table x).generation = (s.table x).generation := by unfold State.readActive; dsimp only; (repeat' split) <;> simp

/-! `State.readEntry` -/

@[simp] theorem State.readEntry_started (s : State) (t : Table) (i : Nat) :
    ((s.readEntry t i).2).started = s.started := by simp [State.readEntry]

@[simp] theorem State.readEntry_link (s : State) (t : Table) (i : Nat) :
    ((s.readEntry t i).2).link = s.link := by simp [State.readEntry]

@[simp] theorem State.readEntry_trims (s : State) (t : Table) (i : Nat) :
    ((s.readEntry t i).2).trims = s.trims := by simp [State.readEntry]

@[simp] theorem State.readEntry_time (s : State) (t : Table) (i : Nat) :
    ((s.readEntry t i).2).time = s.time := by simp [State.readEntry]

@[simp] theorem State.readEntry_drive (s : State) (t : Table) (i : Nat) :
    ((s.readEntry t i).2).drive = s.drive := by simp [State.readEntry]

@[simp] theorem State.readEntry_stream (s : State) (t : Table) (i : Nat) :
    ((s.readEntry t i).2).stream = s.stream := by simp [State.readEntry]

@[simp] theorem State.readEntry_faults (s : State) (t : Table) (i : Nat) :
    ((s.readEntry t i).2).faults = s.faults := by simp [State.readEntry]

@[simp] theorem State.readEntry_reports (s : State) (t : Table) (i : Nat) :
    ((s.readEntry t i).2).reports = s.reports := by simp [State.readEntry]

@[simp] theorem State.readEntry_agent (s : State) (t : Table) (i : Nat) :
    ((s.readEntry t i).2).agent = s.agent := by simp [State.readEntry]

@[simp] theorem State.readEntry_flash (s : State) (t : Table) (i : Nat) :
    ((s.readEntry t i).2).flash = s.flash := by simp [State.readEntry]

@[simp] theorem State.readEntry_out (s : State) (t : Table) (i : Nat) :
    ((s.readEntry t i).2).out = s.out := by simp [State.readEntry]

@[simp] theorem State.readEntry_pending (s : State) (t : Table) (i : Nat) :
    ((s.readEntry t i).2).pending = s.pending := by simp [State.readEntry]

@[simp] theorem State.readEntry_capture_displayed (s : State) (t : Table) (i : Nat) :
    ((s.readEntry t i).2).capture.displayed = s.capture.displayed := by simp [State.readEntry]

@[simp] theorem State.readEntry_capture_display (s : State) (t : Table) (i : Nat) :
    ((s.readEntry t i).2).capture.display = s.capture.display := by simp [State.readEntry]

@[simp] theorem State.readEntry_capture_fill (s : State) (t : Table) (i : Nat) :
    ((s.readEntry t i).2).capture.fill = s.capture.fill := by simp [State.readEntry]

@[simp] theorem State.readEntry_capture_incomplete (s : State) (t : Table) (i : Nat) :
    ((s.readEntry t i).2).capture.incomplete = s.capture.incomplete := by simp [State.readEntry]

@[simp] theorem State.readEntry_dimming_override (s : State) (t : Table) (i : Nat) :
    ((s.readEntry t i).2).dimming.override = s.dimming.override := by simp [State.readEntry]

@[simp] theorem State.readEntry_dimming_lux (s : State) (t : Table) (i : Nat) :
    ((s.readEntry t i).2).dimming.lux = s.dimming.lux := by simp [State.readEntry]

@[simp] theorem State.readEntry_dimming_luxValid (s : State) (t : Table) (i : Nat) :
    ((s.readEntry t i).2).dimming.luxValid = s.dimming.luxValid := by simp [State.readEntry]

@[simp] theorem State.readEntry_dimming_ceiling (s : State) (t : Table) (i : Nat) :
    ((s.readEntry t i).2).dimming.ceiling = s.dimming.ceiling := by simp [State.readEntry]

@[simp] theorem State.readEntry_tables_lock (s : State) (t : Table) (i : Nat) :
    ((s.readEntry t i).2).tables.lock = s.tables.lock := by simp [State.readEntry]

@[simp] theorem State.readEntry_tables_layoutMissing (s : State) (t : Table) (i : Nat) :
    ((s.readEntry t i).2).tables.layoutMissing = s.tables.layoutMissing := by simp [State.readEntry]

@[simp] theorem State.readEntry_table_active (s : State) (t : Table) (i : Nat) (x : Table) :
    (((s.readEntry t i).2).table x).active = (s.table x).active := by simp [State.readEntry]

@[simp] theorem State.readEntry_table_shadow (s : State) (t : Table) (i : Nat) (x : Table) :
    (((s.readEntry t i).2).table x).shadow = (s.table x).shadow := by simp [State.readEntry]

@[simp] theorem State.readEntry_table_generation (s : State) (t : Table) (i : Nat) (x : Table) :
    (((s.readEntry t i).2).table x).generation = (s.table x).generation := by simp [State.readEntry]

/-! `State.readOrDefault` -/

@[simp] theorem State.readOrDefault_started (s : State) (t : Table) (i : Nat) :
    ((s.readOrDefault t i).2).started = s.started := by simp [State.readOrDefault]

@[simp] theorem State.readOrDefault_link (s : State) (t : Table) (i : Nat) :
    ((s.readOrDefault t i).2).link = s.link := by simp [State.readOrDefault]

@[simp] theorem State.readOrDefault_trims (s : State) (t : Table) (i : Nat) :
    ((s.readOrDefault t i).2).trims = s.trims := by simp [State.readOrDefault]

@[simp] theorem State.readOrDefault_time (s : State) (t : Table) (i : Nat) :
    ((s.readOrDefault t i).2).time = s.time := by simp [State.readOrDefault]

@[simp] theorem State.readOrDefault_drive (s : State) (t : Table) (i : Nat) :
    ((s.readOrDefault t i).2).drive = s.drive := by simp [State.readOrDefault]

@[simp] theorem State.readOrDefault_stream (s : State) (t : Table) (i : Nat) :
    ((s.readOrDefault t i).2).stream = s.stream := by simp [State.readOrDefault]

@[simp] theorem State.readOrDefault_faults (s : State) (t : Table) (i : Nat) :
    ((s.readOrDefault t i).2).faults = s.faults := by simp [State.readOrDefault]

@[simp] theorem State.readOrDefault_reports (s : State) (t : Table) (i : Nat) :
    ((s.readOrDefault t i).2).reports = s.reports := by simp [State.readOrDefault]

@[simp] theorem State.readOrDefault_agent (s : State) (t : Table) (i : Nat) :
    ((s.readOrDefault t i).2).agent = s.agent := by simp [State.readOrDefault]

@[simp] theorem State.readOrDefault_flash (s : State) (t : Table) (i : Nat) :
    ((s.readOrDefault t i).2).flash = s.flash := by simp [State.readOrDefault]

@[simp] theorem State.readOrDefault_out (s : State) (t : Table) (i : Nat) :
    ((s.readOrDefault t i).2).out = s.out := by simp [State.readOrDefault]

@[simp] theorem State.readOrDefault_pending (s : State) (t : Table) (i : Nat) :
    ((s.readOrDefault t i).2).pending = s.pending := by simp [State.readOrDefault]

@[simp] theorem State.readOrDefault_capture_displayed (s : State) (t : Table) (i : Nat) :
    ((s.readOrDefault t i).2).capture.displayed = s.capture.displayed := by simp [State.readOrDefault]

@[simp] theorem State.readOrDefault_capture_display (s : State) (t : Table) (i : Nat) :
    ((s.readOrDefault t i).2).capture.display = s.capture.display := by simp [State.readOrDefault]

@[simp] theorem State.readOrDefault_capture_fill (s : State) (t : Table) (i : Nat) :
    ((s.readOrDefault t i).2).capture.fill = s.capture.fill := by simp [State.readOrDefault]

@[simp] theorem State.readOrDefault_capture_incomplete (s : State) (t : Table) (i : Nat) :
    ((s.readOrDefault t i).2).capture.incomplete = s.capture.incomplete := by simp [State.readOrDefault]

@[simp] theorem State.readOrDefault_dimming_override (s : State) (t : Table) (i : Nat) :
    ((s.readOrDefault t i).2).dimming.override = s.dimming.override := by simp [State.readOrDefault]

@[simp] theorem State.readOrDefault_dimming_lux (s : State) (t : Table) (i : Nat) :
    ((s.readOrDefault t i).2).dimming.lux = s.dimming.lux := by simp [State.readOrDefault]

@[simp] theorem State.readOrDefault_dimming_luxValid (s : State) (t : Table) (i : Nat) :
    ((s.readOrDefault t i).2).dimming.luxValid = s.dimming.luxValid := by simp [State.readOrDefault]

@[simp] theorem State.readOrDefault_dimming_ceiling (s : State) (t : Table) (i : Nat) :
    ((s.readOrDefault t i).2).dimming.ceiling = s.dimming.ceiling := by simp [State.readOrDefault]

@[simp] theorem State.readOrDefault_tables_lock (s : State) (t : Table) (i : Nat) :
    ((s.readOrDefault t i).2).tables.lock = s.tables.lock := by simp [State.readOrDefault]

@[simp] theorem State.readOrDefault_tables_layoutMissing (s : State) (t : Table) (i : Nat) :
    ((s.readOrDefault t i).2).tables.layoutMissing = s.tables.layoutMissing := by simp [State.readOrDefault]

@[simp] theorem State.readOrDefault_table_active (s : State) (t : Table) (i : Nat) (x : Table) :
    (((s.readOrDefault t i).2).table x).active = (s.table x).active := by simp [State.readOrDefault]

@[simp] theorem State.readOrDefault_table_shadow (s : State) (t : Table) (i : Nat) (x : Table) :
    (((s.readOrDefault t i).2).table x).shadow = (s.table x).shadow := by simp [State.readOrDefault]

@[simp] theorem State.readOrDefault_table_generation (s : State) (t : Table) (i : Nat) (x : Table) :
    (((s.readOrDefault t i).2).table x).generation = (s.table x).generation := by simp [State.readOrDefault]

/-! `State.readEntries` -/

@[simp] theorem State.readEntries_started (s : State) (t : Table) (l : List Nat) :
    ((s.readEntries t l).2).started = s.started := by induction l generalizing s <;> simp [State.readEntries, *]

@[simp] theorem State.readEntries_link (s : State) (t : Table) (l : List Nat) :
    ((s.readEntries t l).2).link = s.link := by induction l generalizing s <;> simp [State.readEntries, *]

@[simp] theorem State.readEntries_trims (s : State) (t : Table) (l : List Nat) :
    ((s.readEntries t l).2).trims = s.trims := by induction l generalizing s <;> simp [State.readEntries, *]

@[simp] theorem State.readEntries_time (s : State) (t : Table) (l : List Nat) :
    ((s.readEntries t l).2).time = s.time := by induction l generalizing s <;> simp [State.readEntries, *]

@[simp] theorem State.readEntries_drive (s : State) (t : Table) (l : List Nat) :
    ((s.readEntries t l).2).drive = s.drive := by induction l generalizing s <;> simp [State.readEntries, *]

@[simp] theorem State.readEntries_stream (s : State) (t : Table) (l : List Nat) :
    ((s.readEntries t l).2).stream = s.stream := by induction l generalizing s <;> simp [State.readEntries, *]

@[simp] theorem State.readEntries_faults (s : State) (t : Table) (l : List Nat) :
    ((s.readEntries t l).2).faults = s.faults := by induction l generalizing s <;> simp [State.readEntries, *]

@[simp] theorem State.readEntries_reports (s : State) (t : Table) (l : List Nat) :
    ((s.readEntries t l).2).reports = s.reports := by induction l generalizing s <;> simp [State.readEntries, *]

@[simp] theorem State.readEntries_agent (s : State) (t : Table) (l : List Nat) :
    ((s.readEntries t l).2).agent = s.agent := by induction l generalizing s <;> simp [State.readEntries, *]

@[simp] theorem State.readEntries_flash (s : State) (t : Table) (l : List Nat) :
    ((s.readEntries t l).2).flash = s.flash := by induction l generalizing s <;> simp [State.readEntries, *]

@[simp] theorem State.readEntries_out (s : State) (t : Table) (l : List Nat) :
    ((s.readEntries t l).2).out = s.out := by induction l generalizing s <;> simp [State.readEntries, *]

@[simp] theorem State.readEntries_pending (s : State) (t : Table) (l : List Nat) :
    ((s.readEntries t l).2).pending = s.pending := by induction l generalizing s <;> simp [State.readEntries, *]

@[simp] theorem State.readEntries_capture_displayed (s : State) (t : Table) (l : List Nat) :
    ((s.readEntries t l).2).capture.displayed = s.capture.displayed := by induction l generalizing s <;> simp [State.readEntries, *]

@[simp] theorem State.readEntries_capture_display (s : State) (t : Table) (l : List Nat) :
    ((s.readEntries t l).2).capture.display = s.capture.display := by induction l generalizing s <;> simp [State.readEntries, *]

@[simp] theorem State.readEntries_capture_fill (s : State) (t : Table) (l : List Nat) :
    ((s.readEntries t l).2).capture.fill = s.capture.fill := by induction l generalizing s <;> simp [State.readEntries, *]

@[simp] theorem State.readEntries_capture_incomplete (s : State) (t : Table) (l : List Nat) :
    ((s.readEntries t l).2).capture.incomplete = s.capture.incomplete := by induction l generalizing s <;> simp [State.readEntries, *]

@[simp] theorem State.readEntries_dimming_override (s : State) (t : Table) (l : List Nat) :
    ((s.readEntries t l).2).dimming.override = s.dimming.override := by induction l generalizing s <;> simp [State.readEntries, *]

@[simp] theorem State.readEntries_dimming_lux (s : State) (t : Table) (l : List Nat) :
    ((s.readEntries t l).2).dimming.lux = s.dimming.lux := by induction l generalizing s <;> simp [State.readEntries, *]

@[simp] theorem State.readEntries_dimming_luxValid (s : State) (t : Table) (l : List Nat) :
    ((s.readEntries t l).2).dimming.luxValid = s.dimming.luxValid := by induction l generalizing s <;> simp [State.readEntries, *]

@[simp] theorem State.readEntries_dimming_ceiling (s : State) (t : Table) (l : List Nat) :
    ((s.readEntries t l).2).dimming.ceiling = s.dimming.ceiling := by induction l generalizing s <;> simp [State.readEntries, *]

@[simp] theorem State.readEntries_tables_lock (s : State) (t : Table) (l : List Nat) :
    ((s.readEntries t l).2).tables.lock = s.tables.lock := by induction l generalizing s <;> simp [State.readEntries, *]

@[simp] theorem State.readEntries_tables_layoutMissing (s : State) (t : Table) (l : List Nat) :
    ((s.readEntries t l).2).tables.layoutMissing = s.tables.layoutMissing := by induction l generalizing s <;> simp [State.readEntries, *]

@[simp] theorem State.readEntries_table_active (s : State) (t : Table) (l : List Nat) (x : Table) :
    (((s.readEntries t l).2).table x).active = (s.table x).active := by induction l generalizing s <;> simp [State.readEntries, *]

@[simp] theorem State.readEntries_table_shadow (s : State) (t : Table) (l : List Nat) (x : Table) :
    (((s.readEntries t l).2).table x).shadow = (s.table x).shadow := by induction l generalizing s <;> simp [State.readEntries, *]

@[simp] theorem State.readEntries_table_generation (s : State) (t : Table) (l : List Nat) (x : Table) :
    (((s.readEntries t l).2).table x).generation = (s.table x).generation := by induction l generalizing s <;> simp [State.readEntries, *]

/-! `State.readResults` -/

@[simp] theorem State.readResults_started (s : State) (t : Table) (l : List Nat) :
    ((s.readResults t l).2).started = s.started := by induction l generalizing s <;> simp [State.readResults, *]

@[simp] theorem State.readResults_link (s : State) (t : Table) (l : List Nat) :
    ((s.readResults t l).2).link = s.link := by induction l generalizing s <;> simp [State.readResults, *]

@[simp] theorem State.readResults_trims (s : State) (t : Table) (l : List Nat) :
    ((s.readResults t l).2).trims = s.trims := by induction l generalizing s <;> simp [State.readResults, *]

@[simp] theorem State.readResults_time (s : State) (t : Table) (l : List Nat) :
    ((s.readResults t l).2).time = s.time := by induction l generalizing s <;> simp [State.readResults, *]

@[simp] theorem State.readResults_drive (s : State) (t : Table) (l : List Nat) :
    ((s.readResults t l).2).drive = s.drive := by induction l generalizing s <;> simp [State.readResults, *]

@[simp] theorem State.readResults_stream (s : State) (t : Table) (l : List Nat) :
    ((s.readResults t l).2).stream = s.stream := by induction l generalizing s <;> simp [State.readResults, *]

@[simp] theorem State.readResults_faults (s : State) (t : Table) (l : List Nat) :
    ((s.readResults t l).2).faults = s.faults := by induction l generalizing s <;> simp [State.readResults, *]

@[simp] theorem State.readResults_reports (s : State) (t : Table) (l : List Nat) :
    ((s.readResults t l).2).reports = s.reports := by induction l generalizing s <;> simp [State.readResults, *]

@[simp] theorem State.readResults_agent (s : State) (t : Table) (l : List Nat) :
    ((s.readResults t l).2).agent = s.agent := by induction l generalizing s <;> simp [State.readResults, *]

@[simp] theorem State.readResults_flash (s : State) (t : Table) (l : List Nat) :
    ((s.readResults t l).2).flash = s.flash := by induction l generalizing s <;> simp [State.readResults, *]

@[simp] theorem State.readResults_out (s : State) (t : Table) (l : List Nat) :
    ((s.readResults t l).2).out = s.out := by induction l generalizing s <;> simp [State.readResults, *]

@[simp] theorem State.readResults_pending (s : State) (t : Table) (l : List Nat) :
    ((s.readResults t l).2).pending = s.pending := by induction l generalizing s <;> simp [State.readResults, *]

@[simp] theorem State.readResults_capture_displayed (s : State) (t : Table) (l : List Nat) :
    ((s.readResults t l).2).capture.displayed = s.capture.displayed := by induction l generalizing s <;> simp [State.readResults, *]

@[simp] theorem State.readResults_capture_display (s : State) (t : Table) (l : List Nat) :
    ((s.readResults t l).2).capture.display = s.capture.display := by induction l generalizing s <;> simp [State.readResults, *]

@[simp] theorem State.readResults_capture_fill (s : State) (t : Table) (l : List Nat) :
    ((s.readResults t l).2).capture.fill = s.capture.fill := by induction l generalizing s <;> simp [State.readResults, *]

@[simp] theorem State.readResults_capture_incomplete (s : State) (t : Table) (l : List Nat) :
    ((s.readResults t l).2).capture.incomplete = s.capture.incomplete := by induction l generalizing s <;> simp [State.readResults, *]

@[simp] theorem State.readResults_dimming_override (s : State) (t : Table) (l : List Nat) :
    ((s.readResults t l).2).dimming.override = s.dimming.override := by induction l generalizing s <;> simp [State.readResults, *]

@[simp] theorem State.readResults_dimming_lux (s : State) (t : Table) (l : List Nat) :
    ((s.readResults t l).2).dimming.lux = s.dimming.lux := by induction l generalizing s <;> simp [State.readResults, *]

@[simp] theorem State.readResults_dimming_luxValid (s : State) (t : Table) (l : List Nat) :
    ((s.readResults t l).2).dimming.luxValid = s.dimming.luxValid := by induction l generalizing s <;> simp [State.readResults, *]

@[simp] theorem State.readResults_dimming_ceiling (s : State) (t : Table) (l : List Nat) :
    ((s.readResults t l).2).dimming.ceiling = s.dimming.ceiling := by induction l generalizing s <;> simp [State.readResults, *]

@[simp] theorem State.readResults_tables_lock (s : State) (t : Table) (l : List Nat) :
    ((s.readResults t l).2).tables.lock = s.tables.lock := by induction l generalizing s <;> simp [State.readResults, *]

@[simp] theorem State.readResults_tables_layoutMissing (s : State) (t : Table) (l : List Nat) :
    ((s.readResults t l).2).tables.layoutMissing = s.tables.layoutMissing := by induction l generalizing s <;> simp [State.readResults, *]

@[simp] theorem State.readResults_table_active (s : State) (t : Table) (l : List Nat) (x : Table) :
    (((s.readResults t l).2).table x).active = (s.table x).active := by induction l generalizing s <;> simp [State.readResults, *]

@[simp] theorem State.readResults_table_shadow (s : State) (t : Table) (l : List Nat) (x : Table) :
    (((s.readResults t l).2).table x).shadow = (s.table x).shadow := by induction l generalizing s <;> simp [State.readResults, *]

@[simp] theorem State.readResults_table_generation (s : State) (t : Table) (l : List Nat) (x : Table) :
    (((s.readResults t l).2).table x).generation = (s.table x).generation := by induction l generalizing s <;> simp [State.readResults, *]

/-! `State.readShadow` -/

@[simp] theorem State.readShadow_started (s : State) (t : Table) (i : Nat) :
    ((s.readShadow t i).2).started = s.started := by unfold State.readShadow; dsimp only; (repeat' split) <;> simp

@[simp] theorem State.readShadow_link (s : State) (t : Table) (i : Nat) :
    ((s.readShadow t i).2).link = s.link := by unfold State.readShadow; dsimp only; (repeat' split) <;> simp

@[simp] theorem State.readShadow_trims (s : State) (t : Table) (i : Nat) :
    ((s.readShadow t i).2).trims = s.trims := by unfold State.readShadow; dsimp only; (repeat' split) <;> simp

@[simp] theorem State.readShadow_time (s : State) (t : Table) (i : Nat) :
    ((s.readShadow t i).2).time = s.time := by unfold State.readShadow; dsimp only; (repeat' split) <;> simp

@[simp] theorem State.readShadow_drive (s : State) (t : Table) (i : Nat) :
    ((s.readShadow t i).2).drive = s.drive := by unfold State.readShadow; dsimp only; (repeat' split) <;> simp

@[simp] theorem State.readShadow_stream (s : State) (t : Table) (i : Nat) :
    ((s.readShadow t i).2).stream = s.stream := by unfold State.readShadow; dsimp only; (repeat' split) <;> simp

@[simp] theorem State.readShadow_faults (s : State) (t : Table) (i : Nat) :
    ((s.readShadow t i).2).faults = s.faults := by unfold State.readShadow; dsimp only; (repeat' split) <;> simp

@[simp] theorem State.readShadow_reports (s : State) (t : Table) (i : Nat) :
    ((s.readShadow t i).2).reports = s.reports := by unfold State.readShadow; dsimp only; (repeat' split) <;> simp

@[simp] theorem State.readShadow_agent (s : State) (t : Table) (i : Nat) :
    ((s.readShadow t i).2).agent = s.agent := by unfold State.readShadow; dsimp only; (repeat' split) <;> simp

@[simp] theorem State.readShadow_flash (s : State) (t : Table) (i : Nat) :
    ((s.readShadow t i).2).flash = s.flash := by unfold State.readShadow; dsimp only; (repeat' split) <;> simp

@[simp] theorem State.readShadow_out (s : State) (t : Table) (i : Nat) :
    ((s.readShadow t i).2).out = s.out := by unfold State.readShadow; dsimp only; (repeat' split) <;> simp

@[simp] theorem State.readShadow_pending (s : State) (t : Table) (i : Nat) :
    ((s.readShadow t i).2).pending = s.pending := by unfold State.readShadow; dsimp only; (repeat' split) <;> simp

@[simp] theorem State.readShadow_capture_displayed (s : State) (t : Table) (i : Nat) :
    ((s.readShadow t i).2).capture.displayed = s.capture.displayed := by unfold State.readShadow; dsimp only; (repeat' split) <;> simp

@[simp] theorem State.readShadow_capture_display (s : State) (t : Table) (i : Nat) :
    ((s.readShadow t i).2).capture.display = s.capture.display := by unfold State.readShadow; dsimp only; (repeat' split) <;> simp

@[simp] theorem State.readShadow_capture_fill (s : State) (t : Table) (i : Nat) :
    ((s.readShadow t i).2).capture.fill = s.capture.fill := by unfold State.readShadow; dsimp only; (repeat' split) <;> simp

@[simp] theorem State.readShadow_capture_incomplete (s : State) (t : Table) (i : Nat) :
    ((s.readShadow t i).2).capture.incomplete = s.capture.incomplete := by unfold State.readShadow; dsimp only; (repeat' split) <;> simp

@[simp] theorem State.readShadow_dimming_override (s : State) (t : Table) (i : Nat) :
    ((s.readShadow t i).2).dimming.override = s.dimming.override := by unfold State.readShadow; dsimp only; (repeat' split) <;> simp

@[simp] theorem State.readShadow_dimming_lux (s : State) (t : Table) (i : Nat) :
    ((s.readShadow t i).2).dimming.lux = s.dimming.lux := by unfold State.readShadow; dsimp only; (repeat' split) <;> simp

@[simp] theorem State.readShadow_dimming_luxValid (s : State) (t : Table) (i : Nat) :
    ((s.readShadow t i).2).dimming.luxValid = s.dimming.luxValid := by unfold State.readShadow; dsimp only; (repeat' split) <;> simp

@[simp] theorem State.readShadow_dimming_ceiling (s : State) (t : Table) (i : Nat) :
    ((s.readShadow t i).2).dimming.ceiling = s.dimming.ceiling := by unfold State.readShadow; dsimp only; (repeat' split) <;> simp

@[simp] theorem State.readShadow_tables_lock (s : State) (t : Table) (i : Nat) :
    ((s.readShadow t i).2).tables.lock = s.tables.lock := by unfold State.readShadow; dsimp only; (repeat' split) <;> simp

@[simp] theorem State.readShadow_tables_layoutMissing (s : State) (t : Table) (i : Nat) :
    ((s.readShadow t i).2).tables.layoutMissing = s.tables.layoutMissing := by unfold State.readShadow; dsimp only; (repeat' split) <;> simp

@[simp] theorem State.readShadow_table_active (s : State) (t : Table) (i : Nat) (x : Table) :
    (((s.readShadow t i).2).table x).active = (s.table x).active := by unfold State.readShadow; dsimp only; (repeat' split) <;> simp <;> (try split) <;> simp_all

@[simp] theorem State.readShadow_table_generation (s : State) (t : Table) (i : Nat) (x : Table) :
    (((s.readShadow t i).2).table x).generation = (s.table x).generation := by unfold State.readShadow; dsimp only; (repeat' split) <;> simp <;> (try split) <;> simp_all

/-! `State.readShadows` -/

@[simp] theorem State.readShadows_started (s : State) (t : Table) (l : List Nat) :
    ((s.readShadows t l).2).started = s.started := by induction l generalizing s <;> simp [State.readShadows, *]

@[simp] theorem State.readShadows_link (s : State) (t : Table) (l : List Nat) :
    ((s.readShadows t l).2).link = s.link := by induction l generalizing s <;> simp [State.readShadows, *]

@[simp] theorem State.readShadows_trims (s : State) (t : Table) (l : List Nat) :
    ((s.readShadows t l).2).trims = s.trims := by induction l generalizing s <;> simp [State.readShadows, *]

@[simp] theorem State.readShadows_time (s : State) (t : Table) (l : List Nat) :
    ((s.readShadows t l).2).time = s.time := by induction l generalizing s <;> simp [State.readShadows, *]

@[simp] theorem State.readShadows_drive (s : State) (t : Table) (l : List Nat) :
    ((s.readShadows t l).2).drive = s.drive := by induction l generalizing s <;> simp [State.readShadows, *]

@[simp] theorem State.readShadows_stream (s : State) (t : Table) (l : List Nat) :
    ((s.readShadows t l).2).stream = s.stream := by induction l generalizing s <;> simp [State.readShadows, *]

@[simp] theorem State.readShadows_faults (s : State) (t : Table) (l : List Nat) :
    ((s.readShadows t l).2).faults = s.faults := by induction l generalizing s <;> simp [State.readShadows, *]

@[simp] theorem State.readShadows_reports (s : State) (t : Table) (l : List Nat) :
    ((s.readShadows t l).2).reports = s.reports := by induction l generalizing s <;> simp [State.readShadows, *]

@[simp] theorem State.readShadows_agent (s : State) (t : Table) (l : List Nat) :
    ((s.readShadows t l).2).agent = s.agent := by induction l generalizing s <;> simp [State.readShadows, *]

@[simp] theorem State.readShadows_flash (s : State) (t : Table) (l : List Nat) :
    ((s.readShadows t l).2).flash = s.flash := by induction l generalizing s <;> simp [State.readShadows, *]

@[simp] theorem State.readShadows_out (s : State) (t : Table) (l : List Nat) :
    ((s.readShadows t l).2).out = s.out := by induction l generalizing s <;> simp [State.readShadows, *]

@[simp] theorem State.readShadows_pending (s : State) (t : Table) (l : List Nat) :
    ((s.readShadows t l).2).pending = s.pending := by induction l generalizing s <;> simp [State.readShadows, *]

@[simp] theorem State.readShadows_capture_displayed (s : State) (t : Table) (l : List Nat) :
    ((s.readShadows t l).2).capture.displayed = s.capture.displayed := by induction l generalizing s <;> simp [State.readShadows, *]

@[simp] theorem State.readShadows_capture_display (s : State) (t : Table) (l : List Nat) :
    ((s.readShadows t l).2).capture.display = s.capture.display := by induction l generalizing s <;> simp [State.readShadows, *]

@[simp] theorem State.readShadows_capture_fill (s : State) (t : Table) (l : List Nat) :
    ((s.readShadows t l).2).capture.fill = s.capture.fill := by induction l generalizing s <;> simp [State.readShadows, *]

@[simp] theorem State.readShadows_capture_incomplete (s : State) (t : Table) (l : List Nat) :
    ((s.readShadows t l).2).capture.incomplete = s.capture.incomplete := by induction l generalizing s <;> simp [State.readShadows, *]

@[simp] theorem State.readShadows_dimming_override (s : State) (t : Table) (l : List Nat) :
    ((s.readShadows t l).2).dimming.override = s.dimming.override := by induction l generalizing s <;> simp [State.readShadows, *]

@[simp] theorem State.readShadows_dimming_lux (s : State) (t : Table) (l : List Nat) :
    ((s.readShadows t l).2).dimming.lux = s.dimming.lux := by induction l generalizing s <;> simp [State.readShadows, *]

@[simp] theorem State.readShadows_dimming_luxValid (s : State) (t : Table) (l : List Nat) :
    ((s.readShadows t l).2).dimming.luxValid = s.dimming.luxValid := by induction l generalizing s <;> simp [State.readShadows, *]

@[simp] theorem State.readShadows_dimming_ceiling (s : State) (t : Table) (l : List Nat) :
    ((s.readShadows t l).2).dimming.ceiling = s.dimming.ceiling := by induction l generalizing s <;> simp [State.readShadows, *]

@[simp] theorem State.readShadows_tables_lock (s : State) (t : Table) (l : List Nat) :
    ((s.readShadows t l).2).tables.lock = s.tables.lock := by induction l generalizing s <;> simp [State.readShadows, *]

@[simp] theorem State.readShadows_tables_layoutMissing (s : State) (t : Table) (l : List Nat) :
    ((s.readShadows t l).2).tables.layoutMissing = s.tables.layoutMissing := by induction l generalizing s <;> simp [State.readShadows, *]

@[simp] theorem State.readShadows_table_active (s : State) (t : Table) (l : List Nat) (x : Table) :
    (((s.readShadows t l).2).table x).active = (s.table x).active := by induction l generalizing s <;> simp [State.readShadows, *]

@[simp] theorem State.readShadows_table_generation (s : State) (t : Table) (l : List Nat) (x : Table) :
    (((s.readShadows t l).2).table x).generation = (s.table x).generation := by induction l generalizing s <;> simp [State.readShadows, *]

end Sys2Proof.Machine
end

