-- ==== Sys2Proof/Laws/Quiet.lean ====
section
/-! SUPPORT. Reads while the storage has no error to show: each yields the entry, or none where it is marked bad, and
changes nothing. -/

namespace Sys2Proof.Machine

/-- A read of an active entry yields what the bank holds (R166). -/
theorem State.readEntry_quiet {s : State} (h : s.storage = []) (t : Table) (i : Nat) :
    s.readEntry t i = (s.present t i, s) := by
  simp only [State.readEntry, State.readActive_quiet h, State.present, entry]
  split <;> simp [ReadResult.value]

/-- A read with a built-in default for a bad entry yields one of the two (R167). -/
theorem State.readOrDefault_quiet {s : State} (h : s.storage = []) (t : Table) (i : Nat) :
    s.readOrDefault t i = (s.presentOrDefault t i, s) := by
  simp [State.readOrDefault, State.readEntry_quiet h, State.presentOrDefault]

/-- Several reads yield what the bank holds. -/
theorem State.readEntries_quiet {s : State} (h : s.storage = []) (t : Table) (l : List Nat) :
    s.readEntries t l = (l.map (s.present t), s) := by
  induction l with
  | nil => rfl
  | cons i is ih => simp [State.readEntries, State.readEntry_quiet h, ih]

/-- A read of a shadow entry yields what the shadow holds, or the active entry of a CLEAN shadow (R165, R168). -/
theorem State.readShadow_quiet {s : State} (h : s.storage = []) (t : Table) (i : Nat) :
    s.readShadow t i =
      (match (s.table t).shadow with
        | .clean => if i ∈ (s.table t).bad then .bad else .good ((s.table t).active.getD i 0)
        | .editing b d => if i ∈ d then .bad else .good (b.getD i 0)
        | .posted b _ => .good (b.getD i 0), s) := by
  have hc : s.consult t .shadow i = (.sound, s) := by
    simp only [State.consult, h, popOutcome]
    cases s; simp_all
  unfold State.readShadow
  rcases (s.table t).shadow with _ | ⟨b, d⟩ | ⟨b, e⟩
  · simp [State.readActive_quiet h]
  · simp only [hc]
    split <;> rfl
  · simp only [hc]

end Sys2Proof.Machine
end

