-- ==== Sys2Proof/Laws/Link.lean ====
section
/-! SUPPORT. The Link Interface: each shared operation does what its rule says, and what it leaves unchanged. -/

set_option linter.unusedSimpArgs false

namespace Sys2Proof.Machine

/-- The downstream transmitter's choice is that of R9. -/
theorem State.grantD_granted (s : State) : GrantedD s s.grantD := by
  unfold GrantedD State.grantD
  refine ⟨?_, ?_⟩
  · rintro (h | h) <;> simp [h]
  · intro hu hs
    simp only [hu, hs, and_self, if_true]
    refine ⟨?_, ?_, ?_⟩
    · intro h hh; simp [hh, State.emit]
    · intro f fs hh hf; simp [hh, hf, State.emit]
    · intro hh hf; simp [hh, hf]

/-- Arrival at the forward queue is that of R9. -/
theorem State.forward_forwarded (s : State) (f : DownFrame) : Forwarded s f (s.forward f) := by
  unfold Forwarded State.forward forwardMax
  refine ⟨?_, ?_, ?_⟩
  · intro h; simp [h]
  · intro h hl; rw [if_pos h, if_pos hl]; exact State.grantD_granted _
  · intro h hl; simp [h, Nat.not_lt.mpr hl, counted, saturate, counterMax]

/-- A HOLD frame is handed over as R10 says. -/
theorem State.handHold_holdHanded (s : State) (pause : Word) : HoldHanded s pause (s.handHold pause) := by
  unfold HoldHanded State.handHold
  refine ⟨?_, ?_⟩
  · intro h; simp [h]
  · intro h; rw [if_pos h]; exact State.grantD_granted _

/-- The upstream arbiter's choice is that of R19. -/
theorem State.grantU_granted (s : State) : GrantedU s s.grantU := by
  unfold GrantedU State.grantU
  refine ⟨?_, ?_⟩
  · rintro (h | h) <;> simp [h]
  · intro hu hs
    simp only [hu, hs, and_self, if_true]
    refine ⟨?_, ?_, ?_⟩
    · intro r rs hr; simp [hr, State.emit]
    · intro r rs hr hq hi; simp [hr, hq, hi, State.emit]
    · intro hr hq
      simp only [hr]
      rcases hq with hq | hi
      · simp [hq]
      · cases hq : s.reports.queue <;> cases hn : s.reports.inbound <;> simp_all

/-- An own reply is offered as R18 says. -/
theorem State.offerOwn_offered (s : State) (r : Reply) : Offered s (.own r) (s.offerOwn r) := by
  unfold Offered State.offerOwn replyMax
  refine ⟨?_, ?_, ?_⟩
  · intro h; simp [h]
  · intro h hl; rw [if_pos h, if_pos hl]; exact State.grantU_granted _
  · intro h hl; simp [h, Nat.not_lt.mpr hl, counted, saturate, counterMax]

/-- A forwarded reply is offered as R18 says. -/
theorem State.offerForwarded_offered (s : State) (body : List Byte) :
    Offered s (.forwarded body) (s.offerForwarded body) := by
  unfold Offered State.offerForwarded replyMax
  refine ⟨?_, ?_, ?_⟩
  · intro h; simp [h]
  · intro h hl; rw [if_pos h, if_pos hl]; exact State.grantU_granted _
  · intro h hl; simp [h, Nat.not_lt.mpr hl, counted, saturate, counterMax]

/-- A request is answered as R16 says. -/
theorem State.reply_replied (s : State) (h : MgmtHead) (code : Byte) (a : Answer) :
    Replied h code a s (s.reply h code a) := by
  unfold Replied State.reply
  refine ⟨?_, ?_⟩
  · intro hm; rw [if_pos hm]; exact State.offerOwn_offered _ _
  · intro hm; rw [if_neg hm]

/-! `State.grantD` -/

@[simp] theorem State.grantD_started (s : State) :
    (s.grantD).started = s.started := by unfold State.grantD; (repeat' split) <;> simp

@[simp] theorem State.grantD_capture (s : State) :
    (s.grantD).capture = s.capture := by unfold State.grantD; (repeat' split) <;> simp

@[simp] theorem State.grantD_trims (s : State) :
    (s.grantD).trims = s.trims := by unfold State.grantD; (repeat' split) <;> simp

@[simp] theorem State.grantD_dimming (s : State) :
    (s.grantD).dimming = s.dimming := by unfold State.grantD; (repeat' split) <;> simp

@[simp] theorem State.grantD_time (s : State) :
    (s.grantD).time = s.time := by unfold State.grantD; (repeat' split) <;> simp

@[simp] theorem State.grantD_drive (s : State) :
    (s.grantD).drive = s.drive := by unfold State.grantD; (repeat' split) <;> simp

@[simp] theorem State.grantD_stream (s : State) :
    (s.grantD).stream = s.stream := by unfold State.grantD; (repeat' split) <;> simp

@[simp] theorem State.grantD_faults (s : State) :
    (s.grantD).faults = s.faults := by unfold State.grantD; (repeat' split) <;> simp

@[simp] theorem State.grantD_reports (s : State) :
    (s.grantD).reports = s.reports := by unfold State.grantD; (repeat' split) <;> simp

@[simp] theorem State.grantD_tables (s : State) :
    (s.grantD).tables = s.tables := by unfold State.grantD; (repeat' split) <;> simp

@[simp] theorem State.grantD_agent (s : State) :
    (s.grantD).agent = s.agent := by unfold State.grantD; (repeat' split) <;> simp

@[simp] theorem State.grantD_flash (s : State) :
    (s.grantD).flash = s.flash := by unfold State.grantD; (repeat' split) <;> simp

@[simp] theorem State.grantD_storage (s : State) :
    (s.grantD).storage = s.storage := by unfold State.grantD; (repeat' split) <;> simp

@[simp] theorem State.grantD_handed (s : State) :
    (s.grantD).handed = s.handed := by unfold State.grantD; (repeat' split) <;> simp

@[simp] theorem State.grantD_pending (s : State) :
    (s.grantD).pending = s.pending := by unfold State.grantD; (repeat' split) <;> simp

@[simp] theorem State.grantD_link_upU (s : State) :
    (s.grantD).link.upU = s.link.upU := by unfold State.grantD; (repeat' split) <;> simp

@[simp] theorem State.grantD_link_upD (s : State) :
    (s.grantD).link.upD = s.link.upD := by unfold State.grantD; (repeat' split) <;> simp

@[simp] theorem State.grantD_link_partnerU (s : State) :
    (s.grantD).link.partnerU = s.link.partnerU := by unfold State.grantD; (repeat' split) <;> simp

@[simp] theorem State.grantD_link_partnerD (s : State) :
    (s.grantD).link.partnerD = s.link.partnerD := by unfold State.grantD; (repeat' split) <;> simp

@[simp] theorem State.grantD_link_dHasBeenUp (s : State) :
    (s.grantD).link.dHasBeenUp = s.link.dHasBeenUp := by unfold State.grantD; (repeat' split) <;> simp

@[simp] theorem State.grantD_link_position (s : State) :
    (s.grantD).link.position = s.link.position := by unfold State.grantD; (repeat' split) <;> simp

@[simp] theorem State.grantD_link_uDiscard (s : State) :
    (s.grantD).link.uDiscard = s.link.uDiscard := by unfold State.grantD; (repeat' split) <;> simp

@[simp] theorem State.grantD_link_dDiscard (s : State) :
    (s.grantD).link.dDiscard = s.link.dDiscard := by unfold State.grantD; (repeat' split) <;> simp

@[simp] theorem State.grantD_link_forwardOverflow (s : State) :
    (s.grantD).link.forwardOverflow = s.link.forwardOverflow := by unfold State.grantD; (repeat' split) <;> simp

@[simp] theorem State.grantD_link_repliesLost (s : State) :
    (s.grantD).link.repliesLost = s.link.repliesLost := by unfold State.grantD; (repeat' split) <;> simp

@[simp] theorem State.grantD_link_uFailures (s : State) :
    (s.grantD).link.uFailures = s.link.uFailures := by unfold State.grantD; (repeat' split) <;> simp

@[simp] theorem State.grantD_link_forwardQueue (s : State) :
    (s.grantD).link.forwardQueue = s.link.forwardQueue := by unfold State.grantD; (repeat' split) <;> simp

@[simp] theorem State.grantD_link_replies (s : State) :
    (s.grantD).link.replies = s.link.replies := by unfold State.grantD; (repeat' split) <;> simp

@[simp] theorem State.grantD_link_sendingU (s : State) :
    (s.grantD).link.sendingU = s.link.sendingU := by unfold State.grantD; (repeat' split) <;> simp

@[simp] theorem State.grantD_table (s : State) (x : Table) :
    (s.grantD).table x = s.table x := by unfold State.grantD; dsimp only; (repeat' split) <;> simp [State.table]

/-! `State.forward` -/

@[simp] theorem State.forward_started (s : State) (f : DownFrame) :
    (s.forward f).started = s.started := by unfold State.forward; (repeat' split) <;> simp

@[simp] theorem State.forward_capture (s : State) (f : DownFrame) :
    (s.forward f).capture = s.capture := by unfold State.forward; (repeat' split) <;> simp

@[simp] theorem State.forward_trims (s : State) (f : DownFrame) :
    (s.forward f).trims = s.trims := by unfold State.forward; (repeat' split) <;> simp

@[simp] theorem State.forward_dimming (s : State) (f : DownFrame) :
    (s.forward f).dimming = s.dimming := by unfold State.forward; (repeat' split) <;> simp

@[simp] theorem State.forward_time (s : State) (f : DownFrame) :
    (s.forward f).time = s.time := by unfold State.forward; (repeat' split) <;> simp

@[simp] theorem State.forward_drive (s : State) (f : DownFrame) :
    (s.forward f).drive = s.drive := by unfold State.forward; (repeat' split) <;> simp

@[simp] theorem State.forward_stream (s : State) (f : DownFrame) :
    (s.forward f).stream = s.stream := by unfold State.forward; (repeat' split) <;> simp

@[simp] theorem State.forward_faults (s : State) (f : DownFrame) :
    (s.forward f).faults = s.faults := by unfold State.forward; (repeat' split) <;> simp

@[simp] theorem State.forward_reports (s : State) (f : DownFrame) :
    (s.forward f).reports = s.reports := by unfold State.forward; (repeat' split) <;> simp

@[simp] theorem State.forward_tables (s : State) (f : DownFrame) :
    (s.forward f).tables = s.tables := by unfold State.forward; (repeat' split) <;> simp

@[simp] theorem State.forward_agent (s : State) (f : DownFrame) :
    (s.forward f).agent = s.agent := by unfold State.forward; (repeat' split) <;> simp

@[simp] theorem State.forward_flash (s : State) (f : DownFrame) :
    (s.forward f).flash = s.flash := by unfold State.forward; (repeat' split) <;> simp

@[simp] theorem State.forward_storage (s : State) (f : DownFrame) :
    (s.forward f).storage = s.storage := by unfold State.forward; (repeat' split) <;> simp

@[simp] theorem State.forward_handed (s : State) (f : DownFrame) :
    (s.forward f).handed = s.handed := by unfold State.forward; (repeat' split) <;> simp

@[simp] theorem State.forward_pending (s : State) (f : DownFrame) :
    (s.forward f).pending = s.pending := by unfold State.forward; (repeat' split) <;> simp

@[simp] theorem State.forward_link_upU (s : State) (f : DownFrame) :
    (s.forward f).link.upU = s.link.upU := by unfold State.forward; (repeat' split) <;> simp

@[simp] theorem State.forward_link_upD (s : State) (f : DownFrame) :
    (s.forward f).link.upD = s.link.upD := by unfold State.forward; (repeat' split) <;> simp

@[simp] theorem State.forward_link_partnerU (s : State) (f : DownFrame) :
    (s.forward f).link.partnerU = s.link.partnerU := by unfold State.forward; (repeat' split) <;> simp

@[simp] theorem State.forward_link_partnerD (s : State) (f : DownFrame) :
    (s.forward f).link.partnerD = s.link.partnerD := by unfold State.forward; (repeat' split) <;> simp

@[simp] theorem State.forward_link_dHasBeenUp (s : State) (f : DownFrame) :
    (s.forward f).link.dHasBeenUp = s.link.dHasBeenUp := by unfold State.forward; (repeat' split) <;> simp

@[simp] theorem State.forward_link_position (s : State) (f : DownFrame) :
    (s.forward f).link.position = s.link.position := by unfold State.forward; (repeat' split) <;> simp

@[simp] theorem State.forward_link_uDiscard (s : State) (f : DownFrame) :
    (s.forward f).link.uDiscard = s.link.uDiscard := by unfold State.forward; (repeat' split) <;> simp

@[simp] theorem State.forward_link_dDiscard (s : State) (f : DownFrame) :
    (s.forward f).link.dDiscard = s.link.dDiscard := by unfold State.forward; (repeat' split) <;> simp

@[simp] theorem State.forward_link_repliesLost (s : State) (f : DownFrame) :
    (s.forward f).link.repliesLost = s.link.repliesLost := by unfold State.forward; (repeat' split) <;> simp

@[simp] theorem State.forward_link_uFailures (s : State) (f : DownFrame) :
    (s.forward f).link.uFailures = s.link.uFailures := by unfold State.forward; (repeat' split) <;> simp

@[simp] theorem State.forward_link_replies (s : State) (f : DownFrame) :
    (s.forward f).link.replies = s.link.replies := by unfold State.forward; (repeat' split) <;> simp

@[simp] theorem State.forward_link_sendingU (s : State) (f : DownFrame) :
    (s.forward f).link.sendingU = s.link.sendingU := by unfold State.forward; (repeat' split) <;> simp

@[simp] theorem State.forward_table (s : State) (f : DownFrame) (x : Table) :
    (s.forward f).table x = s.table x := by unfold State.forward; dsimp only; (repeat' split) <;> simp [State.table]

/-! `State.handHold` -/

@[simp] theorem State.handHold_started (s : State) (p : Word) :
    (s.handHold p).started = s.started := by unfold State.handHold; split <;> simp [State.table]

@[simp] theorem State.handHold_capture (s : State) (p : Word) :
    (s.handHold p).capture = s.capture := by unfold State.handHold; split <;> simp [State.table]

@[simp] theorem State.handHold_trims (s : State) (p : Word) :
    (s.handHold p).trims = s.trims := by unfold State.handHold; split <;> simp [State.table]

@[simp] theorem State.handHold_dimming (s : State) (p : Word) :
    (s.handHold p).dimming = s.dimming := by unfold State.handHold; split <;> simp [State.table]

@[simp] theorem State.handHold_time (s : State) (p : Word) :
    (s.handHold p).time = s.time := by unfold State.handHold; split <;> simp [State.table]

@[simp] theorem State.handHold_drive (s : State) (p : Word) :
    (s.handHold p).drive = s.drive := by unfold State.handHold; split <;> simp [State.table]

@[simp] theorem State.handHold_stream (s : State) (p : Word) :
    (s.handHold p).stream = s.stream := by unfold State.handHold; split <;> simp [State.table]

@[simp] theorem State.handHold_faults (s : State) (p : Word) :
    (s.handHold p).faults = s.faults := by unfold State.handHold; split <;> simp [State.table]

@[simp] theorem State.handHold_reports (s : State) (p : Word) :
    (s.handHold p).reports = s.reports := by unfold State.handHold; split <;> simp [State.table]

@[simp] theorem State.handHold_tables (s : State) (p : Word) :
    (s.handHold p).tables = s.tables := by unfold State.handHold; split <;> simp [State.table]

@[simp] theorem State.handHold_agent (s : State) (p : Word) :
    (s.handHold p).agent = s.agent := by unfold State.handHold; split <;> simp [State.table]

@[simp] theorem State.handHold_flash (s : State) (p : Word) :
    (s.handHold p).flash = s.flash := by unfold State.handHold; split <;> simp [State.table]

@[simp] theorem State.handHold_storage (s : State) (p : Word) :
    (s.handHold p).storage = s.storage := by unfold State.handHold; split <;> simp [State.table]

@[simp] theorem State.handHold_handed (s : State) (p : Word) :
    (s.handHold p).handed = s.handed := by unfold State.handHold; split <;> simp [State.table]

@[simp] theorem State.handHold_pending (s : State) (p : Word) :
    (s.handHold p).pending = s.pending := by unfold State.handHold; split <;> simp [State.table]

@[simp] theorem State.handHold_link_upU (s : State) (p : Word) :
    (s.handHold p).link.upU = s.link.upU := by unfold State.handHold; split <;> simp [State.table]

@[simp] theorem State.handHold_link_upD (s : State) (p : Word) :
    (s.handHold p).link.upD = s.link.upD := by unfold State.handHold; split <;> simp [State.table]

@[simp] theorem State.handHold_link_partnerU (s : State) (p : Word) :
    (s.handHold p).link.partnerU = s.link.partnerU := by unfold State.handHold; split <;> simp [State.table]

@[simp] theorem State.handHold_link_partnerD (s : State) (p : Word) :
    (s.handHold p).link.partnerD = s.link.partnerD := by unfold State.handHold; split <;> simp [State.table]

@[simp] theorem State.handHold_link_dHasBeenUp (s : State) (p : Word) :
    (s.handHold p).link.dHasBeenUp = s.link.dHasBeenUp := by unfold State.handHold; split <;> simp [State.table]

@[simp] theorem State.handHold_link_position (s : State) (p : Word) :
    (s.handHold p).link.position = s.link.position := by unfold State.handHold; split <;> simp [State.table]

@[simp] theorem State.handHold_link_uDiscard (s : State) (p : Word) :
    (s.handHold p).link.uDiscard = s.link.uDiscard := by unfold State.handHold; split <;> simp [State.table]

@[simp] theorem State.handHold_link_dDiscard (s : State) (p : Word) :
    (s.handHold p).link.dDiscard = s.link.dDiscard := by unfold State.handHold; split <;> simp [State.table]

@[simp] theorem State.handHold_link_forwardOverflow (s : State) (p : Word) :
    (s.handHold p).link.forwardOverflow = s.link.forwardOverflow := by unfold State.handHold; split <;> simp [State.table]

@[simp] theorem State.handHold_link_repliesLost (s : State) (p : Word) :
    (s.handHold p).link.repliesLost = s.link.repliesLost := by unfold State.handHold; split <;> simp [State.table]

@[simp] theorem State.handHold_link_uFailures (s : State) (p : Word) :
    (s.handHold p).link.uFailures = s.link.uFailures := by unfold State.handHold; split <;> simp [State.table]

@[simp] theorem State.handHold_link_forwardQueue (s : State) (p : Word) :
    (s.handHold p).link.forwardQueue = s.link.forwardQueue := by unfold State.handHold; split <;> simp [State.table]

@[simp] theorem State.handHold_link_replies (s : State) (p : Word) :
    (s.handHold p).link.replies = s.link.replies := by unfold State.handHold; split <;> simp [State.table]

@[simp] theorem State.handHold_link_sendingU (s : State) (p : Word) :
    (s.handHold p).link.sendingU = s.link.sendingU := by unfold State.handHold; split <;> simp [State.table]

@[simp] theorem State.handHold_table (s : State) (p : Word) (x : Table) :
    (s.handHold p).table x = s.table x := by unfold State.handHold; split <;> simp [State.table]

/-! `State.grantU` -/

@[simp] theorem State.grantU_started (s : State) :
    (s.grantU).started = s.started := by unfold State.grantU; (repeat' split) <;> simp

@[simp] theorem State.grantU_capture (s : State) :
    (s.grantU).capture = s.capture := by unfold State.grantU; (repeat' split) <;> simp

@[simp] theorem State.grantU_trims (s : State) :
    (s.grantU).trims = s.trims := by unfold State.grantU; (repeat' split) <;> simp

@[simp] theorem State.grantU_dimming (s : State) :
    (s.grantU).dimming = s.dimming := by unfold State.grantU; (repeat' split) <;> simp

@[simp] theorem State.grantU_time (s : State) :
    (s.grantU).time = s.time := by unfold State.grantU; (repeat' split) <;> simp

@[simp] theorem State.grantU_drive (s : State) :
    (s.grantU).drive = s.drive := by unfold State.grantU; (repeat' split) <;> simp

@[simp] theorem State.grantU_stream (s : State) :
    (s.grantU).stream = s.stream := by unfold State.grantU; (repeat' split) <;> simp

@[simp] theorem State.grantU_faults (s : State) :
    (s.grantU).faults = s.faults := by unfold State.grantU; (repeat' split) <;> simp

@[simp] theorem State.grantU_reports (s : State) :
    (s.grantU).reports = s.reports := by unfold State.grantU; (repeat' split) <;> simp

@[simp] theorem State.grantU_tables (s : State) :
    (s.grantU).tables = s.tables := by unfold State.grantU; (repeat' split) <;> simp

@[simp] theorem State.grantU_agent (s : State) :
    (s.grantU).agent = s.agent := by unfold State.grantU; (repeat' split) <;> simp

@[simp] theorem State.grantU_flash (s : State) :
    (s.grantU).flash = s.flash := by unfold State.grantU; (repeat' split) <;> simp

@[simp] theorem State.grantU_storage (s : State) :
    (s.grantU).storage = s.storage := by unfold State.grantU; (repeat' split) <;> simp

@[simp] theorem State.grantU_handed (s : State) :
    (s.grantU).handed = s.handed := by unfold State.grantU; (repeat' split) <;> simp

@[simp] theorem State.grantU_pending (s : State) :
    (s.grantU).pending = s.pending := by unfold State.grantU; (repeat' split) <;> simp

@[simp] theorem State.grantU_link_upU (s : State) :
    (s.grantU).link.upU = s.link.upU := by unfold State.grantU; (repeat' split) <;> simp

@[simp] theorem State.grantU_link_upD (s : State) :
    (s.grantU).link.upD = s.link.upD := by unfold State.grantU; (repeat' split) <;> simp

@[simp] theorem State.grantU_link_partnerU (s : State) :
    (s.grantU).link.partnerU = s.link.partnerU := by unfold State.grantU; (repeat' split) <;> simp

@[simp] theorem State.grantU_link_partnerD (s : State) :
    (s.grantU).link.partnerD = s.link.partnerD := by unfold State.grantU; (repeat' split) <;> simp

@[simp] theorem State.grantU_link_dHasBeenUp (s : State) :
    (s.grantU).link.dHasBeenUp = s.link.dHasBeenUp := by unfold State.grantU; (repeat' split) <;> simp

@[simp] theorem State.grantU_link_position (s : State) :
    (s.grantU).link.position = s.link.position := by unfold State.grantU; (repeat' split) <;> simp

@[simp] theorem State.grantU_link_uDiscard (s : State) :
    (s.grantU).link.uDiscard = s.link.uDiscard := by unfold State.grantU; (repeat' split) <;> simp

@[simp] theorem State.grantU_link_dDiscard (s : State) :
    (s.grantU).link.dDiscard = s.link.dDiscard := by unfold State.grantU; (repeat' split) <;> simp

@[simp] theorem State.grantU_link_forwardOverflow (s : State) :
    (s.grantU).link.forwardOverflow = s.link.forwardOverflow := by unfold State.grantU; (repeat' split) <;> simp

@[simp] theorem State.grantU_link_repliesLost (s : State) :
    (s.grantU).link.repliesLost = s.link.repliesLost := by unfold State.grantU; (repeat' split) <;> simp

@[simp] theorem State.grantU_link_uFailures (s : State) :
    (s.grantU).link.uFailures = s.link.uFailures := by unfold State.grantU; (repeat' split) <;> simp

@[simp] theorem State.grantU_link_forwardQueue (s : State) :
    (s.grantU).link.forwardQueue = s.link.forwardQueue := by unfold State.grantU; (repeat' split) <;> simp

@[simp] theorem State.grantU_link_holdSlot (s : State) :
    (s.grantU).link.holdSlot = s.link.holdSlot := by unfold State.grantU; (repeat' split) <;> simp

@[simp] theorem State.grantU_link_sendingD (s : State) :
    (s.grantU).link.sendingD = s.link.sendingD := by unfold State.grantU; (repeat' split) <;> simp

@[simp] theorem State.grantU_link_replies (s : State) :
    (s.grantU).link.replies = s.link.replies := by unfold State.grantU; (repeat' split) <;> simp

@[simp] theorem State.grantU_table (s : State) (x : Table) :
    (s.grantU).table x = s.table x := by unfold State.grantU; dsimp only; (repeat' split) <;> simp [State.table]

/-! `State.joinReply` -/

@[simp] theorem State.joinReply_started (s : State) (r : ReplyFrame) :
    (s.joinReply r).started = s.started := by simp [State.joinReply]

@[simp] theorem State.joinReply_capture (s : State) (r : ReplyFrame) :
    (s.joinReply r).capture = s.capture := by simp [State.joinReply]

@[simp] theorem State.joinReply_trims (s : State) (r : ReplyFrame) :
    (s.joinReply r).trims = s.trims := by simp [State.joinReply]

@[simp] theorem State.joinReply_dimming (s : State) (r : ReplyFrame) :
    (s.joinReply r).dimming = s.dimming := by simp [State.joinReply]

@[simp] theorem State.joinReply_time (s : State) (r : ReplyFrame) :
    (s.joinReply r).time = s.time := by simp [State.joinReply]

@[simp] theorem State.joinReply_drive (s : State) (r : ReplyFrame) :
    (s.joinReply r).drive = s.drive := by simp [State.joinReply]

@[simp] theorem State.joinReply_stream (s : State) (r : ReplyFrame) :
    (s.joinReply r).stream = s.stream := by simp [State.joinReply]

@[simp] theorem State.joinReply_faults (s : State) (r : ReplyFrame) :
    (s.joinReply r).faults = s.faults := by simp [State.joinReply]

@[simp] theorem State.joinReply_reports (s : State) (r : ReplyFrame) :
    (s.joinReply r).reports = s.reports := by simp [State.joinReply]

@[simp] theorem State.joinReply_tables (s : State) (r : ReplyFrame) :
    (s.joinReply r).tables = s.tables := by simp [State.joinReply]

@[simp] theorem State.joinReply_agent (s : State) (r : ReplyFrame) :
    (s.joinReply r).agent = s.agent := by simp [State.joinReply]

@[simp] theorem State.joinReply_flash (s : State) (r : ReplyFrame) :
    (s.joinReply r).flash = s.flash := by simp [State.joinReply]

@[simp] theorem State.joinReply_storage (s : State) (r : ReplyFrame) :
    (s.joinReply r).storage = s.storage := by simp [State.joinReply]

@[simp] theorem State.joinReply_handed (s : State) (r : ReplyFrame) :
    (s.joinReply r).handed = s.handed := by simp [State.joinReply]

@[simp] theorem State.joinReply_pending (s : State) (r : ReplyFrame) :
    (s.joinReply r).pending = s.pending := by simp [State.joinReply]

@[simp] theorem State.joinReply_link_upU (s : State) (r : ReplyFrame) :
    (s.joinReply r).link.upU = s.link.upU := by simp [State.joinReply]

@[simp] theorem State.joinReply_link_upD (s : State) (r : ReplyFrame) :
    (s.joinReply r).link.upD = s.link.upD := by simp [State.joinReply]

@[simp] theorem State.joinReply_link_partnerU (s : State) (r : ReplyFrame) :
    (s.joinReply r).link.partnerU = s.link.partnerU := by simp [State.joinReply]

@[simp] theorem State.joinReply_link_partnerD (s : State) (r : ReplyFrame) :
    (s.joinReply r).link.partnerD = s.link.partnerD := by simp [State.joinReply]

@[simp] theorem State.joinReply_link_dHasBeenUp (s : State) (r : ReplyFrame) :
    (s.joinReply r).link.dHasBeenUp = s.link.dHasBeenUp := by simp [State.joinReply]

@[simp] theorem State.joinReply_link_position (s : State) (r : ReplyFrame) :
    (s.joinReply r).link.position = s.link.position := by simp [State.joinReply]

@[simp] theorem State.joinReply_link_uDiscard (s : State) (r : ReplyFrame) :
    (s.joinReply r).link.uDiscard = s.link.uDiscard := by simp [State.joinReply]

@[simp] theorem State.joinReply_link_dDiscard (s : State) (r : ReplyFrame) :
    (s.joinReply r).link.dDiscard = s.link.dDiscard := by simp [State.joinReply]

@[simp] theorem State.joinReply_link_forwardOverflow (s : State) (r : ReplyFrame) :
    (s.joinReply r).link.forwardOverflow = s.link.forwardOverflow := by simp [State.joinReply]

@[simp] theorem State.joinReply_link_repliesLost (s : State) (r : ReplyFrame) :
    (s.joinReply r).link.repliesLost = s.link.repliesLost := by simp [State.joinReply]

@[simp] theorem State.joinReply_link_uFailures (s : State) (r : ReplyFrame) :
    (s.joinReply r).link.uFailures = s.link.uFailures := by simp [State.joinReply]

@[simp] theorem State.joinReply_link_forwardQueue (s : State) (r : ReplyFrame) :
    (s.joinReply r).link.forwardQueue = s.link.forwardQueue := by simp [State.joinReply]

@[simp] theorem State.joinReply_link_holdSlot (s : State) (r : ReplyFrame) :
    (s.joinReply r).link.holdSlot = s.link.holdSlot := by simp [State.joinReply]

@[simp] theorem State.joinReply_link_sendingD (s : State) (r : ReplyFrame) :
    (s.joinReply r).link.sendingD = s.link.sendingD := by simp [State.joinReply]

@[simp] theorem State.joinReply_table (s : State) (r : ReplyFrame) (x : Table) :
    (s.joinReply r).table x = s.table x := by simp [State.joinReply, State.table]

/-! `State.offerOwn` -/

@[simp] theorem State.offerOwn_started (s : State) (r : Reply) :
    (s.offerOwn r).started = s.started := by unfold State.offerOwn; (repeat' split) <;> simp

@[simp] theorem State.offerOwn_capture (s : State) (r : Reply) :
    (s.offerOwn r).capture = s.capture := by unfold State.offerOwn; (repeat' split) <;> simp

@[simp] theorem State.offerOwn_trims (s : State) (r : Reply) :
    (s.offerOwn r).trims = s.trims := by unfold State.offerOwn; (repeat' split) <;> simp

@[simp] theorem State.offerOwn_dimming (s : State) (r : Reply) :
    (s.offerOwn r).dimming = s.dimming := by unfold State.offerOwn; (repeat' split) <;> simp

@[simp] theorem State.offerOwn_time (s : State) (r : Reply) :
    (s.offerOwn r).time = s.time := by unfold State.offerOwn; (repeat' split) <;> simp

@[simp] theorem State.offerOwn_drive (s : State) (r : Reply) :
    (s.offerOwn r).drive = s.drive := by unfold State.offerOwn; (repeat' split) <;> simp

@[simp] theorem State.offerOwn_stream (s : State) (r : Reply) :
    (s.offerOwn r).stream = s.stream := by unfold State.offerOwn; (repeat' split) <;> simp

@[simp] theorem State.offerOwn_faults (s : State) (r : Reply) :
    (s.offerOwn r).faults = s.faults := by unfold State.offerOwn; (repeat' split) <;> simp

@[simp] theorem State.offerOwn_reports (s : State) (r : Reply) :
    (s.offerOwn r).reports = s.reports := by unfold State.offerOwn; (repeat' split) <;> simp

@[simp] theorem State.offerOwn_tables (s : State) (r : Reply) :
    (s.offerOwn r).tables = s.tables := by unfold State.offerOwn; (repeat' split) <;> simp

@[simp] theorem State.offerOwn_agent (s : State) (r : Reply) :
    (s.offerOwn r).agent = s.agent := by unfold State.offerOwn; (repeat' split) <;> simp

@[simp] theorem State.offerOwn_flash (s : State) (r : Reply) :
    (s.offerOwn r).flash = s.flash := by unfold State.offerOwn; (repeat' split) <;> simp

@[simp] theorem State.offerOwn_storage (s : State) (r : Reply) :
    (s.offerOwn r).storage = s.storage := by unfold State.offerOwn; (repeat' split) <;> simp

@[simp] theorem State.offerOwn_handed (s : State) (r : Reply) :
    (s.offerOwn r).handed = s.handed := by unfold State.offerOwn; (repeat' split) <;> simp

@[simp] theorem State.offerOwn_pending (s : State) (r : Reply) :
    (s.offerOwn r).pending = s.pending := by unfold State.offerOwn; (repeat' split) <;> simp

@[simp] theorem State.offerOwn_link_upU (s : State) (r : Reply) :
    (s.offerOwn r).link.upU = s.link.upU := by unfold State.offerOwn; (repeat' split) <;> simp

@[simp] theorem State.offerOwn_link_upD (s : State) (r : Reply) :
    (s.offerOwn r).link.upD = s.link.upD := by unfold State.offerOwn; (repeat' split) <;> simp

@[simp] theorem State.offerOwn_link_partnerU (s : State) (r : Reply) :
    (s.offerOwn r).link.partnerU = s.link.partnerU := by unfold State.offerOwn; (repeat' split) <;> simp

@[simp] theorem State.offerOwn_link_partnerD (s : State) (r : Reply) :
    (s.offerOwn r).link.partnerD = s.link.partnerD := by unfold State.offerOwn; (repeat' split) <;> simp

@[simp] theorem State.offerOwn_link_dHasBeenUp (s : State) (r : Reply) :
    (s.offerOwn r).link.dHasBeenUp = s.link.dHasBeenUp := by unfold State.offerOwn; (repeat' split) <;> simp

@[simp] theorem State.offerOwn_link_position (s : State) (r : Reply) :
    (s.offerOwn r).link.position = s.link.position := by unfold State.offerOwn; (repeat' split) <;> simp

@[simp] theorem State.offerOwn_link_uDiscard (s : State) (r : Reply) :
    (s.offerOwn r).link.uDiscard = s.link.uDiscard := by unfold State.offerOwn; (repeat' split) <;> simp

@[simp] theorem State.offerOwn_link_dDiscard (s : State) (r : Reply) :
    (s.offerOwn r).link.dDiscard = s.link.dDiscard := by unfold State.offerOwn; (repeat' split) <;> simp

@[simp] theorem State.offerOwn_link_forwardOverflow (s : State) (r : Reply) :
    (s.offerOwn r).link.forwardOverflow = s.link.forwardOverflow := by unfold State.offerOwn; (repeat' split) <;> simp

@[simp] theorem State.offerOwn_link_uFailures (s : State) (r : Reply) :
    (s.offerOwn r).link.uFailures = s.link.uFailures := by unfold State.offerOwn; (repeat' split) <;> simp

@[simp] theorem State.offerOwn_link_forwardQueue (s : State) (r : Reply) :
    (s.offerOwn r).link.forwardQueue = s.link.forwardQueue := by unfold State.offerOwn; (repeat' split) <;> simp

@[simp] theorem State.offerOwn_link_holdSlot (s : State) (r : Reply) :
    (s.offerOwn r).link.holdSlot = s.link.holdSlot := by unfold State.offerOwn; (repeat' split) <;> simp

@[simp] theorem State.offerOwn_link_sendingD (s : State) (r : Reply) :
    (s.offerOwn r).link.sendingD = s.link.sendingD := by unfold State.offerOwn; (repeat' split) <;> simp

@[simp] theorem State.offerOwn_table (s : State) (r : Reply) (x : Table) :
    (s.offerOwn r).table x = s.table x := by unfold State.offerOwn; dsimp only; (repeat' split) <;> simp [State.table]

/-! `State.offerForwarded` -/

@[simp] theorem State.offerForwarded_started (s : State) (b : List Byte) :
    (s.offerForwarded b).started = s.started := by unfold State.offerForwarded; (repeat' split) <;> simp

@[simp] theorem State.offerForwarded_capture (s : State) (b : List Byte) :
    (s.offerForwarded b).capture = s.capture := by unfold State.offerForwarded; (repeat' split) <;> simp

@[simp] theorem State.offerForwarded_trims (s : State) (b : List Byte) :
    (s.offerForwarded b).trims = s.trims := by unfold State.offerForwarded; (repeat' split) <;> simp

@[simp] theorem State.offerForwarded_dimming (s : State) (b : List Byte) :
    (s.offerForwarded b).dimming = s.dimming := by unfold State.offerForwarded; (repeat' split) <;> simp

@[simp] theorem State.offerForwarded_time (s : State) (b : List Byte) :
    (s.offerForwarded b).time = s.time := by unfold State.offerForwarded; (repeat' split) <;> simp

@[simp] theorem State.offerForwarded_drive (s : State) (b : List Byte) :
    (s.offerForwarded b).drive = s.drive := by unfold State.offerForwarded; (repeat' split) <;> simp

@[simp] theorem State.offerForwarded_stream (s : State) (b : List Byte) :
    (s.offerForwarded b).stream = s.stream := by unfold State.offerForwarded; (repeat' split) <;> simp

@[simp] theorem State.offerForwarded_faults (s : State) (b : List Byte) :
    (s.offerForwarded b).faults = s.faults := by unfold State.offerForwarded; (repeat' split) <;> simp

@[simp] theorem State.offerForwarded_reports (s : State) (b : List Byte) :
    (s.offerForwarded b).reports = s.reports := by unfold State.offerForwarded; (repeat' split) <;> simp

@[simp] theorem State.offerForwarded_tables (s : State) (b : List Byte) :
    (s.offerForwarded b).tables = s.tables := by unfold State.offerForwarded; (repeat' split) <;> simp

@[simp] theorem State.offerForwarded_agent (s : State) (b : List Byte) :
    (s.offerForwarded b).agent = s.agent := by unfold State.offerForwarded; (repeat' split) <;> simp

@[simp] theorem State.offerForwarded_flash (s : State) (b : List Byte) :
    (s.offerForwarded b).flash = s.flash := by unfold State.offerForwarded; (repeat' split) <;> simp

@[simp] theorem State.offerForwarded_storage (s : State) (b : List Byte) :
    (s.offerForwarded b).storage = s.storage := by unfold State.offerForwarded; (repeat' split) <;> simp

@[simp] theorem State.offerForwarded_handed (s : State) (b : List Byte) :
    (s.offerForwarded b).handed = s.handed := by unfold State.offerForwarded; (repeat' split) <;> simp

@[simp] theorem State.offerForwarded_pending (s : State) (b : List Byte) :
    (s.offerForwarded b).pending = s.pending := by unfold State.offerForwarded; (repeat' split) <;> simp

@[simp] theorem State.offerForwarded_link_upU (s : State) (b : List Byte) :
    (s.offerForwarded b).link.upU = s.link.upU := by unfold State.offerForwarded; (repeat' split) <;> simp

@[simp] theorem State.offerForwarded_link_upD (s : State) (b : List Byte) :
    (s.offerForwarded b).link.upD = s.link.upD := by unfold State.offerForwarded; (repeat' split) <;> simp

@[simp] theorem State.offerForwarded_link_partnerU (s : State) (b : List Byte) :
    (s.offerForwarded b).link.partnerU = s.link.partnerU := by unfold State.offerForwarded; (repeat' split) <;> simp

@[simp] theorem State.offerForwarded_link_partnerD (s : State) (b : List Byte) :
    (s.offerForwarded b).link.partnerD = s.link.partnerD := by unfold State.offerForwarded; (repeat' split) <;> simp

@[simp] theorem State.offerForwarded_link_dHasBeenUp (s : State) (b : List Byte) :
    (s.offerForwarded b).link.dHasBeenUp = s.link.dHasBeenUp := by unfold State.offerForwarded; (repeat' split) <;> simp

@[simp] theorem State.offerForwarded_link_position (s : State) (b : List Byte) :
    (s.offerForwarded b).link.position = s.link.position := by unfold State.offerForwarded; (repeat' split) <;> simp

@[simp] theorem State.offerForwarded_link_uDiscard (s : State) (b : List Byte) :
    (s.offerForwarded b).link.uDiscard = s.link.uDiscard := by unfold State.offerForwarded; (repeat' split) <;> simp

@[simp] theorem State.offerForwarded_link_forwardOverflow (s : State) (b : List Byte) :
    (s.offerForwarded b).link.forwardOverflow = s.link.forwardOverflow := by unfold State.offerForwarded; (repeat' split) <;> simp

@[simp] theorem State.offerForwarded_link_repliesLost (s : State) (b : List Byte) :
    (s.offerForwarded b).link.repliesLost = s.link.repliesLost := by unfold State.offerForwarded; (repeat' split) <;> simp

@[simp] theorem State.offerForwarded_link_uFailures (s : State) (b : List Byte) :
    (s.offerForwarded b).link.uFailures = s.link.uFailures := by unfold State.offerForwarded; (repeat' split) <;> simp

@[simp] theorem State.offerForwarded_link_forwardQueue (s : State) (b : List Byte) :
    (s.offerForwarded b).link.forwardQueue = s.link.forwardQueue := by unfold State.offerForwarded; (repeat' split) <;> simp

@[simp] theorem State.offerForwarded_link_holdSlot (s : State) (b : List Byte) :
    (s.offerForwarded b).link.holdSlot = s.link.holdSlot := by unfold State.offerForwarded; (repeat' split) <;> simp

@[simp] theorem State.offerForwarded_link_sendingD (s : State) (b : List Byte) :
    (s.offerForwarded b).link.sendingD = s.link.sendingD := by unfold State.offerForwarded; (repeat' split) <;> simp

@[simp] theorem State.offerForwarded_table (s : State) (b : List Byte) (x : Table) :
    (s.offerForwarded b).table x = s.table x := by unfold State.offerForwarded; dsimp only; (repeat' split) <;> simp [State.table]

/-! `State.abandonReport` -/

@[simp] theorem State.abandonReport_started (s : State) :
    (s.abandonReport).started = s.started := by unfold State.abandonReport; split <;> simp [State.table]

@[simp] theorem State.abandonReport_capture (s : State) :
    (s.abandonReport).capture = s.capture := by unfold State.abandonReport; split <;> simp [State.table]

@[simp] theorem State.abandonReport_trims (s : State) :
    (s.abandonReport).trims = s.trims := by unfold State.abandonReport; split <;> simp [State.table]

@[simp] theorem State.abandonReport_dimming (s : State) :
    (s.abandonReport).dimming = s.dimming := by unfold State.abandonReport; split <;> simp [State.table]

@[simp] theorem State.abandonReport_time (s : State) :
    (s.abandonReport).time = s.time := by unfold State.abandonReport; split <;> simp [State.table]

@[simp] theorem State.abandonReport_drive (s : State) :
    (s.abandonReport).drive = s.drive := by unfold State.abandonReport; split <;> simp [State.table]

@[simp] theorem State.abandonReport_stream (s : State) :
    (s.abandonReport).stream = s.stream := by unfold State.abandonReport; split <;> simp [State.table]

@[simp] theorem State.abandonReport_faults (s : State) :
    (s.abandonReport).faults = s.faults := by unfold State.abandonReport; split <;> simp [State.table]

@[simp] theorem State.abandonReport_reports (s : State) :
    (s.abandonReport).reports = s.reports := by unfold State.abandonReport; split <;> simp [State.table]

@[simp] theorem State.abandonReport_tables (s : State) :
    (s.abandonReport).tables = s.tables := by unfold State.abandonReport; split <;> simp [State.table]

@[simp] theorem State.abandonReport_agent (s : State) :
    (s.abandonReport).agent = s.agent := by unfold State.abandonReport; split <;> simp [State.table]

@[simp] theorem State.abandonReport_flash (s : State) :
    (s.abandonReport).flash = s.flash := by unfold State.abandonReport; split <;> simp [State.table]

@[simp] theorem State.abandonReport_storage (s : State) :
    (s.abandonReport).storage = s.storage := by unfold State.abandonReport; split <;> simp [State.table]

@[simp] theorem State.abandonReport_handed (s : State) :
    (s.abandonReport).handed = s.handed := by unfold State.abandonReport; split <;> simp [State.table]

@[simp] theorem State.abandonReport_pending (s : State) :
    (s.abandonReport).pending = s.pending := by unfold State.abandonReport; split <;> simp [State.table]

@[simp] theorem State.abandonReport_link_upU (s : State) :
    (s.abandonReport).link.upU = s.link.upU := by unfold State.abandonReport; split <;> simp [State.table]

@[simp] theorem State.abandonReport_link_upD (s : State) :
    (s.abandonReport).link.upD = s.link.upD := by unfold State.abandonReport; split <;> simp [State.table]

@[simp] theorem State.abandonReport_link_partnerU (s : State) :
    (s.abandonReport).link.partnerU = s.link.partnerU := by unfold State.abandonReport; split <;> simp [State.table]

@[simp] theorem State.abandonReport_link_partnerD (s : State) :
    (s.abandonReport).link.partnerD = s.link.partnerD := by unfold State.abandonReport; split <;> simp [State.table]

@[simp] theorem State.abandonReport_link_dHasBeenUp (s : State) :
    (s.abandonReport).link.dHasBeenUp = s.link.dHasBeenUp := by unfold State.abandonReport; split <;> simp [State.table]

@[simp] theorem State.abandonReport_link_position (s : State) :
    (s.abandonReport).link.position = s.link.position := by unfold State.abandonReport; split <;> simp [State.table]

@[simp] theorem State.abandonReport_link_uDiscard (s : State) :
    (s.abandonReport).link.uDiscard = s.link.uDiscard := by unfold State.abandonReport; split <;> simp [State.table]

@[simp] theorem State.abandonReport_link_dDiscard (s : State) :
    (s.abandonReport).link.dDiscard = s.link.dDiscard := by unfold State.abandonReport; split <;> simp [State.table]

@[simp] theorem State.abandonReport_link_forwardOverflow (s : State) :
    (s.abandonReport).link.forwardOverflow = s.link.forwardOverflow := by unfold State.abandonReport; split <;> simp [State.table]

@[simp] theorem State.abandonReport_link_repliesLost (s : State) :
    (s.abandonReport).link.repliesLost = s.link.repliesLost := by unfold State.abandonReport; split <;> simp [State.table]

@[simp] theorem State.abandonReport_link_uFailures (s : State) :
    (s.abandonReport).link.uFailures = s.link.uFailures := by unfold State.abandonReport; split <;> simp [State.table]

@[simp] theorem State.abandonReport_link_forwardQueue (s : State) :
    (s.abandonReport).link.forwardQueue = s.link.forwardQueue := by unfold State.abandonReport; split <;> simp [State.table]

@[simp] theorem State.abandonReport_link_holdSlot (s : State) :
    (s.abandonReport).link.holdSlot = s.link.holdSlot := by unfold State.abandonReport; split <;> simp [State.table]

@[simp] theorem State.abandonReport_link_sendingD (s : State) :
    (s.abandonReport).link.sendingD = s.link.sendingD := by unfold State.abandonReport; split <;> simp [State.table]

@[simp] theorem State.abandonReport_link_replies (s : State) :
    (s.abandonReport).link.replies = s.link.replies := by unfold State.abandonReport; split <;> simp [State.table]

@[simp] theorem State.abandonReport_table (s : State) (x : Table) :
    (s.abandonReport).table x = s.table x := by unfold State.abandonReport; split <;> simp [State.table]

/-! `State.isMember` -/

@[simp] theorem State.isMember_started (s : State) (g : Nat) :
    ((s.isMember g).2).started = s.started := by simp [State.isMember]

@[simp] theorem State.isMember_link (s : State) (g : Nat) :
    ((s.isMember g).2).link = s.link := by simp [State.isMember]

@[simp] theorem State.isMember_trims (s : State) (g : Nat) :
    ((s.isMember g).2).trims = s.trims := by simp [State.isMember]

@[simp] theorem State.isMember_time (s : State) (g : Nat) :
    ((s.isMember g).2).time = s.time := by simp [State.isMember]

@[simp] theorem State.isMember_drive (s : State) (g : Nat) :
    ((s.isMember g).2).drive = s.drive := by simp [State.isMember]

@[simp] theorem State.isMember_stream (s : State) (g : Nat) :
    ((s.isMember g).2).stream = s.stream := by simp [State.isMember]

@[simp] theorem State.isMember_faults (s : State) (g : Nat) :
    ((s.isMember g).2).faults = s.faults := by simp [State.isMember]

@[simp] theorem State.isMember_reports (s : State) (g : Nat) :
    ((s.isMember g).2).reports = s.reports := by simp [State.isMember]

@[simp] theorem State.isMember_agent (s : State) (g : Nat) :
    ((s.isMember g).2).agent = s.agent := by simp [State.isMember]

@[simp] theorem State.isMember_flash (s : State) (g : Nat) :
    ((s.isMember g).2).flash = s.flash := by simp [State.isMember]

@[simp] theorem State.isMember_out (s : State) (g : Nat) :
    ((s.isMember g).2).out = s.out := by simp [State.isMember]

@[simp] theorem State.isMember_pending (s : State) (g : Nat) :
    ((s.isMember g).2).pending = s.pending := by simp [State.isMember]

@[simp] theorem State.isMember_capture_displayed (s : State) (g : Nat) :
    ((s.isMember g).2).capture.displayed = s.capture.displayed := by simp [State.isMember]

@[simp] theorem State.isMember_capture_display (s : State) (g : Nat) :
    ((s.isMember g).2).capture.display = s.capture.display := by simp [State.isMember]

@[simp] theorem State.isMember_capture_fill (s : State) (g : Nat) :
    ((s.isMember g).2).capture.fill = s.capture.fill := by simp [State.isMember]

@[simp] theorem State.isMember_capture_incomplete (s : State) (g : Nat) :
    ((s.isMember g).2).capture.incomplete = s.capture.incomplete := by simp [State.isMember]

@[simp] theorem State.isMember_dimming_override (s : State) (g : Nat) :
    ((s.isMember g).2).dimming.override = s.dimming.override := by simp [State.isMember]

@[simp] theorem State.isMember_dimming_lux (s : State) (g : Nat) :
    ((s.isMember g).2).dimming.lux = s.dimming.lux := by simp [State.isMember]

@[simp] theorem State.isMember_dimming_luxValid (s : State) (g : Nat) :
    ((s.isMember g).2).dimming.luxValid = s.dimming.luxValid := by simp [State.isMember]

@[simp] theorem State.isMember_dimming_ceiling (s : State) (g : Nat) :
    ((s.isMember g).2).dimming.ceiling = s.dimming.ceiling := by simp [State.isMember]

@[simp] theorem State.isMember_tables_lock (s : State) (g : Nat) :
    ((s.isMember g).2).tables.lock = s.tables.lock := by simp [State.isMember]

@[simp] theorem State.isMember_tables_layoutMissing (s : State) (g : Nat) :
    ((s.isMember g).2).tables.layoutMissing = s.tables.layoutMissing := by simp [State.isMember]

@[simp] theorem State.isMember_table_active (s : State) (g : Nat) (x : Table) :
    (((s.isMember g).2).table x).active = (s.table x).active := by simp [State.isMember]

@[simp] theorem State.isMember_table_shadow (s : State) (g : Nat) (x : Table) :
    (((s.isMember g).2).table x).shadow = (s.table x).shadow := by simp [State.isMember]

@[simp] theorem State.isMember_table_generation (s : State) (g : Nat) (x : Table) :
    (((s.isMember g).2).table x).generation = (s.table x).generation := by simp [State.isMember]

/-! `State.takenHere` -/

@[simp] theorem State.takenHere_started (s : State) (h : MgmtHead) :
    ((s.takenHere h).2).started = s.started := by unfold State.takenHere; (repeat' split) <;> simp

@[simp] theorem State.takenHere_link (s : State) (h : MgmtHead) :
    ((s.takenHere h).2).link = s.link := by unfold State.takenHere; (repeat' split) <;> simp

@[simp] theorem State.takenHere_trims (s : State) (h : MgmtHead) :
    ((s.takenHere h).2).trims = s.trims := by unfold State.takenHere; (repeat' split) <;> simp

@[simp] theorem State.takenHere_time (s : State) (h : MgmtHead) :
    ((s.takenHere h).2).time = s.time := by unfold State.takenHere; (repeat' split) <;> simp

@[simp] theorem State.takenHere_drive (s : State) (h : MgmtHead) :
    ((s.takenHere h).2).drive = s.drive := by unfold State.takenHere; (repeat' split) <;> simp

@[simp] theorem State.takenHere_stream (s : State) (h : MgmtHead) :
    ((s.takenHere h).2).stream = s.stream := by unfold State.takenHere; (repeat' split) <;> simp

@[simp] theorem State.takenHere_faults (s : State) (h : MgmtHead) :
    ((s.takenHere h).2).faults = s.faults := by unfold State.takenHere; (repeat' split) <;> simp

@[simp] theorem State.takenHere_reports (s : State) (h : MgmtHead) :
    ((s.takenHere h).2).reports = s.reports := by unfold State.takenHere; (repeat' split) <;> simp

@[simp] theorem State.takenHere_agent (s : State) (h : MgmtHead) :
    ((s.takenHere h).2).agent = s.agent := by unfold State.takenHere; (repeat' split) <;> simp

@[simp] theorem State.takenHere_flash (s : State) (h : MgmtHead) :
    ((s.takenHere h).2).flash = s.flash := by unfold State.takenHere; (repeat' split) <;> simp

@[simp] theorem State.takenHere_out (s : State) (h : MgmtHead) :
    ((s.takenHere h).2).out = s.out := by unfold State.takenHere; (repeat' split) <;> simp

@[simp] theorem State.takenHere_pending (s : State) (h : MgmtHead) :
    ((s.takenHere h).2).pending = s.pending := by unfold State.takenHere; (repeat' split) <;> simp

@[simp] theorem State.takenHere_capture_displayed (s : State) (h : MgmtHead) :
    ((s.takenHere h).2).capture.displayed = s.capture.displayed := by unfold State.takenHere; (repeat' split) <;> simp

@[simp] theorem State.takenHere_capture_display (s : State) (h : MgmtHead) :
    ((s.takenHere h).2).capture.display = s.capture.display := by unfold State.takenHere; (repeat' split) <;> simp

@[simp] theorem State.takenHere_capture_fill (s : State) (h : MgmtHead) :
    ((s.takenHere h).2).capture.fill = s.capture.fill := by unfold State.takenHere; (repeat' split) <;> simp

@[simp] theorem State.takenHere_capture_incomplete (s : State) (h : MgmtHead) :
    ((s.takenHere h).2).capture.incomplete = s.capture.incomplete := by unfold State.takenHere; (repeat' split) <;> simp

@[simp] theorem State.takenHere_dimming_override (s : State) (h : MgmtHead) :
    ((s.takenHere h).2).dimming.override = s.dimming.override := by unfold State.takenHere; (repeat' split) <;> simp

@[simp] theorem State.takenHere_dimming_lux (s : State) (h : MgmtHead) :
    ((s.takenHere h).2).dimming.lux = s.dimming.lux := by unfold State.takenHere; (repeat' split) <;> simp

@[simp] theorem State.takenHere_dimming_luxValid (s : State) (h : MgmtHead) :
    ((s.takenHere h).2).dimming.luxValid = s.dimming.luxValid := by unfold State.takenHere; (repeat' split) <;> simp

@[simp] theorem State.takenHere_dimming_ceiling (s : State) (h : MgmtHead) :
    ((s.takenHere h).2).dimming.ceiling = s.dimming.ceiling := by unfold State.takenHere; (repeat' split) <;> simp

@[simp] theorem State.takenHere_tables_lock (s : State) (h : MgmtHead) :
    ((s.takenHere h).2).tables.lock = s.tables.lock := by unfold State.takenHere; (repeat' split) <;> simp

@[simp] theorem State.takenHere_tables_layoutMissing (s : State) (h : MgmtHead) :
    ((s.takenHere h).2).tables.layoutMissing = s.tables.layoutMissing := by unfold State.takenHere; (repeat' split) <;> simp

@[simp] theorem State.takenHere_table_active (s : State) (h : MgmtHead) (x : Table) :
    (((s.takenHere h).2).table x).active = (s.table x).active := by unfold State.takenHere; (repeat' split) <;> simp

@[simp] theorem State.takenHere_table_shadow (s : State) (h : MgmtHead) (x : Table) :
    (((s.takenHere h).2).table x).shadow = (s.table x).shadow := by unfold State.takenHere; (repeat' split) <;> simp

@[simp] theorem State.takenHere_table_generation (s : State) (h : MgmtHead) (x : Table) :
    (((s.takenHere h).2).table x).generation = (s.table x).generation := by unfold State.takenHere; (repeat' split) <;> simp

/-! `State.reply` -/

@[simp] theorem State.reply_started (s : State) (h : MgmtHead) (c : Byte) (a : Answer) :
    (s.reply h c a).started = s.started := by unfold State.reply; split <;> simp [State.table]

@[simp] theorem State.reply_capture (s : State) (h : MgmtHead) (c : Byte) (a : Answer) :
    (s.reply h c a).capture = s.capture := by unfold State.reply; split <;> simp [State.table]

@[simp] theorem State.reply_trims (s : State) (h : MgmtHead) (c : Byte) (a : Answer) :
    (s.reply h c a).trims = s.trims := by unfold State.reply; split <;> simp [State.table]

@[simp] theorem State.reply_dimming (s : State) (h : MgmtHead) (c : Byte) (a : Answer) :
    (s.reply h c a).dimming = s.dimming := by unfold State.reply; split <;> simp [State.table]

@[simp] theorem State.reply_time (s : State) (h : MgmtHead) (c : Byte) (a : Answer) :
    (s.reply h c a).time = s.time := by unfold State.reply; split <;> simp [State.table]

@[simp] theorem State.reply_drive (s : State) (h : MgmtHead) (c : Byte) (a : Answer) :
    (s.reply h c a).drive = s.drive := by unfold State.reply; split <;> simp [State.table]

@[simp] theorem State.reply_stream (s : State) (h : MgmtHead) (c : Byte) (a : Answer) :
    (s.reply h c a).stream = s.stream := by unfold State.reply; split <;> simp [State.table]

@[simp] theorem State.reply_faults (s : State) (h : MgmtHead) (c : Byte) (a : Answer) :
    (s.reply h c a).faults = s.faults := by unfold State.reply; split <;> simp [State.table]

@[simp] theorem State.reply_reports (s : State) (h : MgmtHead) (c : Byte) (a : Answer) :
    (s.reply h c a).reports = s.reports := by unfold State.reply; split <;> simp [State.table]

@[simp] theorem State.reply_tables (s : State) (h : MgmtHead) (c : Byte) (a : Answer) :
    (s.reply h c a).tables = s.tables := by unfold State.reply; split <;> simp [State.table]

@[simp] theorem State.reply_agent (s : State) (h : MgmtHead) (c : Byte) (a : Answer) :
    (s.reply h c a).agent = s.agent := by unfold State.reply; split <;> simp [State.table]

@[simp] theorem State.reply_flash (s : State) (h : MgmtHead) (c : Byte) (a : Answer) :
    (s.reply h c a).flash = s.flash := by unfold State.reply; split <;> simp [State.table]

@[simp] theorem State.reply_storage (s : State) (h : MgmtHead) (c : Byte) (a : Answer) :
    (s.reply h c a).storage = s.storage := by unfold State.reply; split <;> simp [State.table]

@[simp] theorem State.reply_handed (s : State) (h : MgmtHead) (c : Byte) (a : Answer) :
    (s.reply h c a).handed = s.handed := by unfold State.reply; split <;> simp [State.table]

@[simp] theorem State.reply_pending (s : State) (h : MgmtHead) (c : Byte) (a : Answer) :
    (s.reply h c a).pending = s.pending := by unfold State.reply; split <;> simp [State.table]

@[simp] theorem State.reply_link_upU (s : State) (h : MgmtHead) (c : Byte) (a : Answer) :
    (s.reply h c a).link.upU = s.link.upU := by unfold State.reply; split <;> simp [State.table]

@[simp] theorem State.reply_link_upD (s : State) (h : MgmtHead) (c : Byte) (a : Answer) :
    (s.reply h c a).link.upD = s.link.upD := by unfold State.reply; split <;> simp [State.table]

@[simp] theorem State.reply_link_partnerU (s : State) (h : MgmtHead) (c : Byte) (a : Answer) :
    (s.reply h c a).link.partnerU = s.link.partnerU := by unfold State.reply; split <;> simp [State.table]

@[simp] theorem State.reply_link_partnerD (s : State) (h : MgmtHead) (c : Byte) (a : Answer) :
    (s.reply h c a).link.partnerD = s.link.partnerD := by unfold State.reply; split <;> simp [State.table]

@[simp] theorem State.reply_link_dHasBeenUp (s : State) (h : MgmtHead) (c : Byte) (a : Answer) :
    (s.reply h c a).link.dHasBeenUp = s.link.dHasBeenUp := by unfold State.reply; split <;> simp [State.table]

@[simp] theorem State.reply_link_position (s : State) (h : MgmtHead) (c : Byte) (a : Answer) :
    (s.reply h c a).link.position = s.link.position := by unfold State.reply; split <;> simp [State.table]

@[simp] theorem State.reply_link_uDiscard (s : State) (h : MgmtHead) (c : Byte) (a : Answer) :
    (s.reply h c a).link.uDiscard = s.link.uDiscard := by unfold State.reply; split <;> simp [State.table]

@[simp] theorem State.reply_link_dDiscard (s : State) (h : MgmtHead) (c : Byte) (a : Answer) :
    (s.reply h c a).link.dDiscard = s.link.dDiscard := by unfold State.reply; split <;> simp [State.table]

@[simp] theorem State.reply_link_forwardOverflow (s : State) (h : MgmtHead) (c : Byte) (a : Answer) :
    (s.reply h c a).link.forwardOverflow = s.link.forwardOverflow := by unfold State.reply; split <;> simp [State.table]

@[simp] theorem State.reply_link_uFailures (s : State) (h : MgmtHead) (c : Byte) (a : Answer) :
    (s.reply h c a).link.uFailures = s.link.uFailures := by unfold State.reply; split <;> simp [State.table]

@[simp] theorem State.reply_link_forwardQueue (s : State) (h : MgmtHead) (c : Byte) (a : Answer) :
    (s.reply h c a).link.forwardQueue = s.link.forwardQueue := by unfold State.reply; split <;> simp [State.table]

@[simp] theorem State.reply_link_holdSlot (s : State) (h : MgmtHead) (c : Byte) (a : Answer) :
    (s.reply h c a).link.holdSlot = s.link.holdSlot := by unfold State.reply; split <;> simp [State.table]

@[simp] theorem State.reply_link_sendingD (s : State) (h : MgmtHead) (c : Byte) (a : Answer) :
    (s.reply h c a).link.sendingD = s.link.sendingD := by unfold State.reply; split <;> simp [State.table]

@[simp] theorem State.reply_table (s : State) (h : MgmtHead) (c : Byte) (a : Answer) (x : Table) :
    (s.reply h c a).table x = s.table x := by unfold State.reply; split <;> simp [State.table]

/-! `State.arriveMgmt` -/

@[simp] theorem State.arriveMgmt_started (s : State) (h : MgmtHead) (c : Byte) (a : List Byte) :
    ((s.arriveMgmt h c a).2).started = s.started := by unfold State.arriveMgmt; split <;> simp [State.table]

@[simp] theorem State.arriveMgmt_trims (s : State) (h : MgmtHead) (c : Byte) (a : List Byte) :
    ((s.arriveMgmt h c a).2).trims = s.trims := by unfold State.arriveMgmt; split <;> simp [State.table]

@[simp] theorem State.arriveMgmt_time (s : State) (h : MgmtHead) (c : Byte) (a : List Byte) :
    ((s.arriveMgmt h c a).2).time = s.time := by unfold State.arriveMgmt; split <;> simp [State.table]

@[simp] theorem State.arriveMgmt_drive (s : State) (h : MgmtHead) (c : Byte) (a : List Byte) :
    ((s.arriveMgmt h c a).2).drive = s.drive := by unfold State.arriveMgmt; split <;> simp [State.table]

@[simp] theorem State.arriveMgmt_stream (s : State) (h : MgmtHead) (c : Byte) (a : List Byte) :
    ((s.arriveMgmt h c a).2).stream = s.stream := by unfold State.arriveMgmt; split <;> simp [State.table]

@[simp] theorem State.arriveMgmt_faults (s : State) (h : MgmtHead) (c : Byte) (a : List Byte) :
    ((s.arriveMgmt h c a).2).faults = s.faults := by unfold State.arriveMgmt; split <;> simp [State.table]

@[simp] theorem State.arriveMgmt_reports (s : State) (h : MgmtHead) (c : Byte) (a : List Byte) :
    ((s.arriveMgmt h c a).2).reports = s.reports := by unfold State.arriveMgmt; split <;> simp [State.table]

@[simp] theorem State.arriveMgmt_agent (s : State) (h : MgmtHead) (c : Byte) (a : List Byte) :
    ((s.arriveMgmt h c a).2).agent = s.agent := by unfold State.arriveMgmt; split <;> simp [State.table]

@[simp] theorem State.arriveMgmt_flash (s : State) (h : MgmtHead) (c : Byte) (a : List Byte) :
    ((s.arriveMgmt h c a).2).flash = s.flash := by unfold State.arriveMgmt; split <;> simp [State.table]

@[simp] theorem State.arriveMgmt_pending (s : State) (h : MgmtHead) (c : Byte) (a : List Byte) :
    ((s.arriveMgmt h c a).2).pending = s.pending := by unfold State.arriveMgmt; split <;> simp [State.table]

@[simp] theorem State.arriveMgmt_link_upU (s : State) (h : MgmtHead) (c : Byte) (a : List Byte) :
    ((s.arriveMgmt h c a).2).link.upU = s.link.upU := by unfold State.arriveMgmt; split <;> simp [State.table]

@[simp] theorem State.arriveMgmt_link_upD (s : State) (h : MgmtHead) (c : Byte) (a : List Byte) :
    ((s.arriveMgmt h c a).2).link.upD = s.link.upD := by unfold State.arriveMgmt; split <;> simp [State.table]

@[simp] theorem State.arriveMgmt_link_partnerU (s : State) (h : MgmtHead) (c : Byte) (a : List Byte) :
    ((s.arriveMgmt h c a).2).link.partnerU = s.link.partnerU := by unfold State.arriveMgmt; split <;> simp [State.table]

@[simp] theorem State.arriveMgmt_link_partnerD (s : State) (h : MgmtHead) (c : Byte) (a : List Byte) :
    ((s.arriveMgmt h c a).2).link.partnerD = s.link.partnerD := by unfold State.arriveMgmt; split <;> simp [State.table]

@[simp] theorem State.arriveMgmt_link_dHasBeenUp (s : State) (h : MgmtHead) (c : Byte) (a : List Byte) :
    ((s.arriveMgmt h c a).2).link.dHasBeenUp = s.link.dHasBeenUp := by unfold State.arriveMgmt; split <;> simp [State.table]

@[simp] theorem State.arriveMgmt_link_position (s : State) (h : MgmtHead) (c : Byte) (a : List Byte) :
    ((s.arriveMgmt h c a).2).link.position = s.link.position := by unfold State.arriveMgmt; split <;> simp [State.table]

@[simp] theorem State.arriveMgmt_link_uDiscard (s : State) (h : MgmtHead) (c : Byte) (a : List Byte) :
    ((s.arriveMgmt h c a).2).link.uDiscard = s.link.uDiscard := by unfold State.arriveMgmt; split <;> simp [State.table]

@[simp] theorem State.arriveMgmt_link_dDiscard (s : State) (h : MgmtHead) (c : Byte) (a : List Byte) :
    ((s.arriveMgmt h c a).2).link.dDiscard = s.link.dDiscard := by unfold State.arriveMgmt; split <;> simp [State.table]

@[simp] theorem State.arriveMgmt_link_repliesLost (s : State) (h : MgmtHead) (c : Byte) (a : List Byte) :
    ((s.arriveMgmt h c a).2).link.repliesLost = s.link.repliesLost := by unfold State.arriveMgmt; split <;> simp [State.table]

@[simp] theorem State.arriveMgmt_link_uFailures (s : State) (h : MgmtHead) (c : Byte) (a : List Byte) :
    ((s.arriveMgmt h c a).2).link.uFailures = s.link.uFailures := by unfold State.arriveMgmt; split <;> simp [State.table]

@[simp] theorem State.arriveMgmt_link_replies (s : State) (h : MgmtHead) (c : Byte) (a : List Byte) :
    ((s.arriveMgmt h c a).2).link.replies = s.link.replies := by unfold State.arriveMgmt; split <;> simp [State.table]

@[simp] theorem State.arriveMgmt_link_sendingU (s : State) (h : MgmtHead) (c : Byte) (a : List Byte) :
    ((s.arriveMgmt h c a).2).link.sendingU = s.link.sendingU := by unfold State.arriveMgmt; split <;> simp [State.table]

@[simp] theorem State.arriveMgmt_capture_displayed (s : State) (h : MgmtHead) (c : Byte) (a : List Byte) :
    ((s.arriveMgmt h c a).2).capture.displayed = s.capture.displayed := by unfold State.arriveMgmt; split <;> simp [State.table]

@[simp] theorem State.arriveMgmt_capture_display (s : State) (h : MgmtHead) (c : Byte) (a : List Byte) :
    ((s.arriveMgmt h c a).2).capture.display = s.capture.display := by unfold State.arriveMgmt; split <;> simp [State.table]

@[simp] theorem State.arriveMgmt_capture_fill (s : State) (h : MgmtHead) (c : Byte) (a : List Byte) :
    ((s.arriveMgmt h c a).2).capture.fill = s.capture.fill := by unfold State.arriveMgmt; split <;> simp [State.table]

@[simp] theorem State.arriveMgmt_capture_incomplete (s : State) (h : MgmtHead) (c : Byte) (a : List Byte) :
    ((s.arriveMgmt h c a).2).capture.incomplete = s.capture.incomplete := by unfold State.arriveMgmt; split <;> simp [State.table]

@[simp] theorem State.arriveMgmt_dimming_override (s : State) (h : MgmtHead) (c : Byte) (a : List Byte) :
    ((s.arriveMgmt h c a).2).dimming.override = s.dimming.override := by unfold State.arriveMgmt; split <;> simp [State.table]

@[simp] theorem State.arriveMgmt_dimming_lux (s : State) (h : MgmtHead) (c : Byte) (a : List Byte) :
    ((s.arriveMgmt h c a).2).dimming.lux = s.dimming.lux := by unfold State.arriveMgmt; split <;> simp [State.table]

@[simp] theorem State.arriveMgmt_dimming_luxValid (s : State) (h : MgmtHead) (c : Byte) (a : List Byte) :
    ((s.arriveMgmt h c a).2).dimming.luxValid = s.dimming.luxValid := by unfold State.arriveMgmt; split <;> simp [State.table]

@[simp] theorem State.arriveMgmt_dimming_ceiling (s : State) (h : MgmtHead) (c : Byte) (a : List Byte) :
    ((s.arriveMgmt h c a).2).dimming.ceiling = s.dimming.ceiling := by unfold State.arriveMgmt; split <;> simp [State.table]

@[simp] theorem State.arriveMgmt_tables_lock (s : State) (h : MgmtHead) (c : Byte) (a : List Byte) :
    ((s.arriveMgmt h c a).2).tables.lock = s.tables.lock := by unfold State.arriveMgmt; split <;> simp [State.table]

@[simp] theorem State.arriveMgmt_tables_layoutMissing (s : State) (h : MgmtHead) (c : Byte) (a : List Byte) :
    ((s.arriveMgmt h c a).2).tables.layoutMissing = s.tables.layoutMissing := by unfold State.arriveMgmt; split <;> simp [State.table]

@[simp] theorem State.arriveMgmt_table_active (s : State) (h : MgmtHead) (c : Byte) (a : List Byte) (x : Table) :
    (((s.arriveMgmt h c a).2).table x).active = (s.table x).active := by unfold State.arriveMgmt; (repeat' split) <;> simp

@[simp] theorem State.arriveMgmt_table_shadow (s : State) (h : MgmtHead) (c : Byte) (a : List Byte) (x : Table) :
    (((s.arriveMgmt h c a).2).table x).shadow = (s.table x).shadow := by unfold State.arriveMgmt; (repeat' split) <;> simp

@[simp] theorem State.arriveMgmt_table_generation (s : State) (h : MgmtHead) (c : Byte) (a : List Byte) (x : Table) :
    (((s.arriveMgmt h c a).2).table x).generation = (s.table x).generation := by unfold State.arriveMgmt; (repeat' split) <;> simp

/-- Arrival at the forward queue touches only the Link Interface and the outputs. -/
theorem State.forward_frame (s : State) (f : DownFrame) :
    s.forward f = { s with link := (s.forward f).link, out := (s.forward f).out } := by
  apply State.eq_of_fields <;> simp

/-- A frame that names this cabinet is taken, and nothing is changed by deciding it (R15). -/
theorem State.takenHere_addressed {s : State} {h : MgmtHead} (ha : s.isAddressed h) : s.takenHere h = (true, s) := by
  unfold State.takenHere State.isMember
  rcases ha with hm | ⟨hm, h1, h2, h3⟩ | ⟨hm, h1, hq, v, hv, hn⟩
  · simp [hm]
  · simp [hm, within, h1, h2, h3]
    omega
  · simp only [hm, h1, State.readEntry_quiet hq, hv]
    simp [hn]

/-- A frame that does not name this cabinet is not taken, and nothing is changed by deciding it (R15). -/
theorem State.takenHere_notAddressed {s : State} {h : MgmtHead} (hq : s.storage = []) (ha : ¬ s.isAddressed h) :
    s.takenHere h = (false, s) := by
  unfold State.isAddressed at ha
  unfold State.takenHere State.isMember
  simp only [not_or, not_and, not_exists] at ha
  obtain ⟨h1, h2, h3⟩ := ha
  simp only [h1, if_false, State.readEntry_quiet hq]
  split
  · rename_i hm
    simp only [Prod.mk.injEq, and_true, within, Bool.and_eq_false_iff, decide_eq_false_iff_not, beq_eq_false_iff_ne]
    by_cases ha : 1 ≤ h.value.toNat <;> by_cases hb : h.value.toNat ≤ 63 <;> simp_all
  · split
    · rename_i hm
      cases hv : s.present .groups h.value.toNat
      · rfl
      · simp
        exact Decidable.of_not_not (h3 hm.1 hm.2 hq _ hv)
    · rfl

/-- A request taken here is served: `effect` is what its carrying-out does. -/
theorem State.request_served {s : State} {h : MgmtHead} (code : Byte) (args : List Byte)
    (carryOut : State → Answer × State) (effect : State → Answer → State → Prop) (hr : s.receives h)
    (he : ∀ u : State, u = { s with link := u.link, out := u.out } → effect u (carryOut u).1 (carryOut u).2) :
    Served s h code args effect (s.request h code args carryOut) := by
  obtain ⟨hu, ha⟩ := hr
  have ha' : (s.forward (.mgmt h code args)).isAddressed h := by
    simpa [State.isAddressed, State.present] using ha
  refine ⟨s.forward (.mgmt h code args), _, _, State.forward_forwarded _ _, he _ (State.forward_frame ..), ?_⟩
  have : s.request h code args carryOut =
      (carryOut (s.forward (.mgmt h code args))).2.reply h code (carryOut (s.forward (.mgmt h code args))).1 := by
    simp [State.request, State.arriveMgmt, hu, State.takenHere_addressed ha']
  rw [this]
  exact State.reply_replied _ _ _ _

end Sys2Proof.Machine
end

