-- ==== Sys2Proof/Laws/PerInstr.lean ====
section
/-! SUPPORT. The per-command law of the frames: a command that stands for a down-bound frame and can occur stands for a
frame that can occur, and that frame is read as the command. -/

namespace Sys2Proof.Laws

open Machine

/-- The down-bound frame that a command is, with whether it is taken here; none for the commands that are no such frame. -/
def frameOf : Instr → Option (Bool × DownFrame)
  | .syncFrame frame content lux flags => some (false, .sync frame content lux flags)
  | .pixelFrame line column samples pad => some (false, .pixel line column samples pad)
  | .enumFrame counter => some (false, .enum counter)
  | .mgmtNotTaken head code args => some (false, .mgmt head code args)
  | c => (requestParts c).map fun r => (true, .mgmt r.1 r.2.1 r.2.2)

/-- A well-formed command that is a down-bound frame is a well-formed frame, read as that command (R2, R7, R181). -/
def WellFormed.Statement (i : Instr) : Prop :=
  i.wellFormed = true → ∀ taken f, frameOf i = some (taken, f) → f.wellFormed = true ∧ downCommand taken f = i

/-- A command that is no down-bound frame meets the statement. -/
theorem WellFormed.of_no_frame {i : Instr} (h : frameOf i = none) : WellFormed.Statement i := by
  intro _ taken f hf
  rw [h] at hf
  cases hf

/-- A command that is one frame meets the statement when that frame does. -/
theorem WellFormed.of_frame {i : Instr} {taken : Bool} {f : DownFrame} (h : frameOf i = some (taken, f))
    (hw : i.wellFormed = true → f.wellFormed = true) (hc : i.wellFormed = true → downCommand taken f = i) :
    WellFormed.Statement i := by
  intro hi taken' f' hf
  rw [h] at hf
  cases hf
  exact ⟨hw hi, hc hi⟩

/-- A code outside Table 1-7 is read as an unknown request. -/
theorem requestCommand_unlisted {head : MgmtHead} {code : Byte} {args : List Byte} (h : unlistedCode code = true) :
    requestCommand head code args = .unknownRequest head code args := by
  simp only [unlistedCode, Bool.or_eq_true, beq_iff_eq, decide_eq_true_eq] at h
  unfold requestCommand
  split <;> first | rfl | omega

theorem WellFormed.powerOnReset : WellFormed.Statement .powerOnReset :=
  of_no_frame rfl

theorem WellFormed.pinReset : WellFormed.Statement .pinReset :=
  of_no_frame rfl

theorem WellFormed.startUpComplete : WellFormed.Statement .startUpComplete :=
  of_no_frame rfl

theorem WellFormed.linkUp (p : Port) : WellFormed.Statement (.linkUp p) :=
  of_no_frame rfl

theorem WellFormed.linkDown (p : Port) : WellFormed.Statement (.linkDown p) :=
  of_no_frame rfl

theorem WellFormed.frameCheckFailure (p : Port) : WellFormed.Statement (.frameCheckFailure p) :=
  of_no_frame rfl

theorem WellFormed.frameAborted (p : Port) : WellFormed.Statement (.frameAborted p) :=
  of_no_frame rfl

theorem WellFormed.syncFrame (frame : Word) (content : Word) (lux : Word) (flags : Byte) : WellFormed.Statement (.syncFrame frame content lux flags) :=
  of_frame rfl (fun h => h) fun _ => rfl

theorem WellFormed.frameCaptureSync (frame : Word) (content : Word) : WellFormed.Statement (.frameCaptureSync frame content) :=
  of_no_frame rfl

theorem WellFormed.dimmingSync (lux : Word) (valid : Bool) : WellFormed.Statement (.dimmingSync lux valid) :=
  of_no_frame rfl

theorem WellFormed.tableStoreSync (frame : Word) : WellFormed.Statement (.tableStoreSync frame) :=
  of_no_frame rfl

theorem WellFormed.streamSync : WellFormed.Statement .streamSync :=
  of_no_frame rfl

theorem WellFormed.sweepCountSync : WellFormed.Statement .sweepCountSync :=
  of_no_frame rfl

theorem WellFormed.sweepTick : WellFormed.Statement .sweepTick :=
  of_no_frame rfl

theorem WellFormed.pixelFrame (line : Word) (column : Word) (samples : List Pixel) (pad : BitVec 4) : WellFormed.Statement (.pixelFrame line column samples pad) :=
  of_frame rfl (fun h => h) fun _ => rfl

theorem WellFormed.enumFrame (counter : Byte) : WellFormed.Statement (.enumFrame counter) :=
  of_frame rfl (fun h => h) fun _ => rfl

theorem WellFormed.mgmtNotTaken (head : MgmtHead) (code : Byte) (args : List Byte) : WellFormed.Statement (.mgmtNotTaken head code args) :=
  of_frame rfl (fun h => h) fun _ => rfl

theorem WellFormed.holdFrame (pause : Word) : WellFormed.Statement (.holdFrame pause) :=
  of_no_frame rfl

theorem WellFormed.forwardedReply (body : List Byte) : WellFormed.Statement (.forwardedReply body) :=
  of_no_frame rfl

theorem WellFormed.forwardedRecord (rec : ReportRec) : WellFormed.Statement (.forwardedRecord rec) :=
  of_no_frame rfl

theorem WellFormed.forwardedFrameSent : WellFormed.Statement .forwardedFrameSent :=
  of_no_frame rfl

theorem WellFormed.holdFrameSent : WellFormed.Statement .holdFrameSent :=
  of_no_frame rfl

theorem WellFormed.replySent : WellFormed.Statement .replySent :=
  of_no_frame rfl

theorem WellFormed.reportSent : WellFormed.Statement .reportSent :=
  of_no_frame rfl

theorem WellFormed.millisecondStep : WellFormed.Statement .millisecondStep :=
  of_no_frame rfl

theorem WellFormed.secondEventLink : WellFormed.Statement .secondEventLink :=
  of_no_frame rfl

theorem WellFormed.summaryCountAdvance : WellFormed.Statement .summaryCountAdvance :=
  of_no_frame rfl

theorem WellFormed.minuteEventCeiling : WellFormed.Statement .minuteEventCeiling :=
  of_no_frame rfl

theorem WellFormed.overrideMinute : WellFormed.Statement .overrideMinute :=
  of_no_frame rfl

theorem WellFormed.overrideExpiry : WellFormed.Statement .overrideExpiry :=
  of_no_frame rfl

theorem WellFormed.syncTimeoutExpiry : WellFormed.Statement .syncTimeoutExpiry :=
  of_no_frame rfl

theorem WellFormed.holdExpiry : WellFormed.Statement .holdExpiry :=
  of_no_frame rfl

theorem WellFormed.localTickExpiry : WellFormed.Statement .localTickExpiry :=
  of_no_frame rfl

theorem WellFormed.dimmingLocalTick : WellFormed.Statement .dimmingLocalTick :=
  of_no_frame rfl

theorem WellFormed.sweepCountLocalTick : WellFormed.Statement .sweepCountLocalTick :=
  of_no_frame rfl

theorem WellFormed.lZeroNotice : WellFormed.Statement .lZeroNotice :=
  of_no_frame rfl

theorem WellFormed.moduleComputation : WellFormed.Statement .moduleComputation :=
  of_no_frame rfl

theorem WellFormed.pollResult (module : Nat) (number : Byte) (opens : Word) (shorts : Word) (reading : Option Int) : WellFormed.Statement (.pollResult module number opens shorts reading) :=
  of_no_frame rfl

theorem WellFormed.faultEvaluationDelivery (evaluations : List Evaluation) : WellFormed.Statement (.faultEvaluationDelivery evaluations) :=
  of_no_frame rfl

theorem WellFormed.conditionDelivery (condition : Condition) (present : Bool) : WellFormed.Statement (.conditionDelivery condition present) :=
  of_no_frame rfl

theorem WellFormed.tableEccDelivery (t : Table) (present : Bool) : WellFormed.Statement (.tableEccDelivery t present) :=
  of_no_frame rfl

theorem WellFormed.restoreWindowExpiry : WellFormed.Statement .restoreWindowExpiry :=
  of_no_frame rfl

theorem WellFormed.localReportDelivery (reports : List Report) : WellFormed.Statement (.localReportDelivery reports) :=
  of_no_frame rfl

theorem WellFormed.holdRefreshExpiry : WellFormed.Statement .holdRefreshExpiry :=
  of_no_frame rfl

theorem WellFormed.inboundHoldExpiry : WellFormed.Statement .inboundHoldExpiry :=
  of_no_frame rfl

theorem WellFormed.saveWriteSuccess : WellFormed.Statement .saveWriteSuccess :=
  of_no_frame rfl

theorem WellFormed.saveWriteFailure : WellFormed.Statement .saveWriteFailure :=
  of_no_frame rfl

theorem WellFormed.unknownRequest (head : MgmtHead) (code : Byte) (args : List Byte) : WellFormed.Statement (.unknownRequest head code args) :=
  of_frame rfl (fun h => by simp only [Instr.wellFormed, Bool.and_eq_true] at h; exact h.2) fun h => by
    simp only [Instr.wellFormed, Bool.and_eq_true] at h
    exact requestCommand_unlisted h.1

theorem WellFormed.identify (head : MgmtHead) (args : List Byte) : WellFormed.Statement (.identify head args) :=
  of_frame rfl (fun h => h) fun _ => rfl

theorem WellFormed.statusRead (head : MgmtHead) (args : List Byte) : WellFormed.Statement (.statusRead head args) :=
  of_frame rfl (fun h => h) fun _ => rfl

theorem WellFormed.tableWrite (head : MgmtHead) (args : List Byte) : WellFormed.Statement (.tableWrite head args) :=
  of_frame rfl (fun h => h) fun _ => rfl

theorem WellFormed.tableRead (head : MgmtHead) (args : List Byte) : WellFormed.Statement (.tableRead head args) :=
  of_frame rfl (fun h => h) fun _ => rfl

theorem WellFormed.tableCommit (head : MgmtHead) (args : List Byte) : WellFormed.Statement (.tableCommit head args) :=
  of_frame rfl (fun h => h) fun _ => rfl

theorem WellFormed.tableAbandon (head : MgmtHead) (args : List Byte) : WellFormed.Statement (.tableAbandon head args) :=
  of_frame rfl (fun h => h) fun _ => rfl

theorem WellFormed.ceilingLock (head : MgmtHead) (args : List Byte) : WellFormed.Statement (.ceilingLock head args) :=
  of_frame rfl (fun h => h) fun _ => rfl

theorem WellFormed.timeSet (head : MgmtHead) (args : List Byte) : WellFormed.Statement (.timeSet head args) :=
  of_frame rfl (fun h => h) fun _ => rfl

theorem WellFormed.driftSet (head : MgmtHead) (args : List Byte) : WellFormed.Statement (.driftSet head args) :=
  of_frame rfl (fun h => h) fun _ => rfl

theorem WellFormed.levelOverride (head : MgmtHead) (args : List Byte) : WellFormed.Statement (.levelOverride head args) :=
  of_frame rfl (fun h => h) fun _ => rfl

theorem WellFormed.overrideEnd (head : MgmtHead) (args : List Byte) : WellFormed.Statement (.overrideEnd head args) :=
  of_frame rfl (fun h => h) fun _ => rfl

theorem WellFormed.trimNudge (head : MgmtHead) (args : List Byte) : WellFormed.Statement (.trimNudge head args) :=
  of_frame rfl (fun h => h) fun _ => rfl

theorem WellFormed.faultRead (head : MgmtHead) (args : List Byte) : WellFormed.Statement (.faultRead head args) :=
  of_frame rfl (fun h => h) fun _ => rfl

theorem WellFormed.faultClear (head : MgmtHead) (args : List Byte) : WellFormed.Statement (.faultClear head args) :=
  of_frame rfl (fun h => h) fun _ => rfl

theorem WellFormed.save (head : MgmtHead) (args : List Byte) : WellFormed.Statement (.save head args) :=
  of_frame rfl (fun h => h) fun _ => rfl

theorem WellFormed.softReset (head : MgmtHead) (args : List Byte) : WellFormed.Statement (.softReset head args) :=
  of_frame rfl (fun h => h) fun _ => rfl

end Sys2Proof.Laws
end

