-- ==== Sys2Proof/Laws/Reports.lean ====
section
/-! SUPPORT. The Report Queue: each shared operation does what its rule says, and what it leaves unchanged. -/

set_option linter.unusedSimpArgs false

namespace Sys2Proof.Machine

/-- The pair of marks as it stands: both at their defaults while either carries a bad mark (R153). -/
theorem State.readHigh_quiet {s : State} (h : s.storage = []) : s.readHigh = (s.marks.1, s) := by
  simp only [State.readHigh, State.readMark, State.readEntry_quiet h, State.marks, State.present]
  have h1 : defaultEntry .policy 40 = 36 := by decide
  by_cases ha : 40 ∈ (s.table .policy).bad <;> by_cases hb : 41 ∈ (s.table .policy).bad <;> simp [ha, hb, h1]

/-- The low mark of the pair. -/
theorem State.readLow_quiet {s : State} (h : s.storage = []) : s.readLow = (s.marks.2, s) := by
  simp only [State.readLow, State.readMark, State.readEntry_quiet h, State.marks, State.present]
  have h1 : defaultEntry .policy 41 = 12 := by decide
  by_cases ha : 40 ∈ (s.table .policy).bad <;> by_cases hb : 41 ∈ (s.table .policy).bad <;> simp [ha, hb, h1]

/-- The pause as it stands. -/
theorem State.readPause_quiet {s : State} (h : s.storage = []) :
    s.readPause = (s.presentOrDefault .policy 42, s) := State.readOrDefault_quiet h ..

/-- A HOLD with a pause of Tp is handed over as R154 and R156 say. -/
theorem State.sendHold_sent (s : State) : HoldSent s (s.sendHold (s.presentOrDefault .policy 42)) :=
  State.handHold_holdHanded _ _

/-- The hold is released as R155 says. -/
theorem State.releaseHold_released (s : State) : HoldReleased s s.releaseHold := State.handHold_holdHanded _ _

/-- The renewal of a hold. -/
theorem State.renewHold_sent {s : State} (h : s.storage = []) : HoldSent s s.renewHold := by
  simp only [State.renewHold, State.readPause_quiet h]
  exact State.sendHold_sent s

/-! `State.readMark` -/

@[simp] theorem State.readMark_started (s : State) (a b : Nat) :
    ((s.readMark a b).2).started = s.started := by simp [State.readMark]

@[simp] theorem State.readMark_link (s : State) (a b : Nat) :
    ((s.readMark a b).2).link = s.link := by simp [State.readMark]

@[simp] theorem State.readMark_trims (s : State) (a b : Nat) :
    ((s.readMark a b).2).trims = s.trims := by simp [State.readMark]

@[simp] theorem State.readMark_time (s : State) (a b : Nat) :
    ((s.readMark a b).2).time = s.time := by simp [State.readMark]

@[simp] theorem State.readMark_drive (s : State) (a b : Nat) :
    ((s.readMark a b).2).drive = s.drive := by simp [State.readMark]

@[simp] theorem State.readMark_stream (s : State) (a b : Nat) :
    ((s.readMark a b).2).stream = s.stream := by simp [State.readMark]

@[simp] theorem State.readMark_faults (s : State) (a b : Nat) :
    ((s.readMark a b).2).faults = s.faults := by simp [State.readMark]

@[simp] theorem State.readMark_reports (s : State) (a b : Nat) :
    ((s.readMark a b).2).reports = s.reports := by simp [State.readMark]

@[simp] theorem State.readMark_agent (s : State) (a b : Nat) :
    ((s.readMark a b).2).agent = s.agent := by simp [State.readMark]

@[simp] theorem State.readMark_flash (s : State) (a b : Nat) :
    ((s.readMark a b).2).flash = s.flash := by simp [State.readMark]

@[simp] theorem State.readMark_out (s : State) (a b : Nat) :
    ((s.readMark a b).2).out = s.out := by simp [State.readMark]

@[simp] theorem State.readMark_pending (s : State) (a b : Nat) :
    ((s.readMark a b).2).pending = s.pending := by simp [State.readMark]

@[simp] theorem State.readMark_capture_displayed (s : State) (a b : Nat) :
    ((s.readMark a b).2).capture.displayed = s.capture.displayed := by simp [State.readMark]

@[simp] theorem State.readMark_capture_display (s : State) (a b : Nat) :
    ((s.readMark a b).2).capture.display = s.capture.display := by simp [State.readMark]

@[simp] theorem State.readMark_capture_fill (s : State) (a b : Nat) :
    ((s.readMark a b).2).capture.fill = s.capture.fill := by simp [State.readMark]

@[simp] theorem State.readMark_capture_incomplete (s : State) (a b : Nat) :
    ((s.readMark a b).2).capture.incomplete = s.capture.incomplete := by simp [State.readMark]

@[simp] theorem State.readMark_dimming_override (s : State) (a b : Nat) :
    ((s.readMark a b).2).dimming.override = s.dimming.override := by simp [State.readMark]

@[simp] theorem State.readMark_dimming_lux (s : State) (a b : Nat) :
    ((s.readMark a b).2).dimming.lux = s.dimming.lux := by simp [State.readMark]

@[simp] theorem State.readMark_dimming_luxValid (s : State) (a b : Nat) :
    ((s.readMark a b).2).dimming.luxValid = s.dimming.luxValid := by simp [State.readMark]

@[simp] theorem State.readMark_dimming_ceiling (s : State) (a b : Nat) :
    ((s.readMark a b).2).dimming.ceiling = s.dimming.ceiling := by simp [State.readMark]

@[simp] theorem State.readMark_tables_lock (s : State) (a b : Nat) :
    ((s.readMark a b).2).tables.lock = s.tables.lock := by simp [State.readMark]

@[simp] theorem State.readMark_tables_layoutMissing (s : State) (a b : Nat) :
    ((s.readMark a b).2).tables.layoutMissing = s.tables.layoutMissing := by simp [State.readMark]

@[simp] theorem State.readMark_table_active (s : State) (a b : Nat) (x : Table) :
    (((s.readMark a b).2).table x).active = (s.table x).active := by simp [State.readMark]

@[simp] theorem State.readMark_table_shadow (s : State) (a b : Nat) (x : Table) :
    (((s.readMark a b).2).table x).shadow = (s.table x).shadow := by simp [State.readMark]

@[simp] theorem State.readMark_table_generation (s : State) (a b : Nat) (x : Table) :
    (((s.readMark a b).2).table x).generation = (s.table x).generation := by simp [State.readMark]

/-! `State.readHigh` -/

@[simp] theorem State.readHigh_started (s : State) :
    ((s.readHigh).2).started = s.started := by simp [State.readHigh]

@[simp] theorem State.readHigh_link (s : State) :
    ((s.readHigh).2).link = s.link := by simp [State.readHigh]

@[simp] theorem State.readHigh_trims (s : State) :
    ((s.readHigh).2).trims = s.trims := by simp [State.readHigh]

@[simp] theorem State.readHigh_time (s : State) :
    ((s.readHigh).2).time = s.time := by simp [State.readHigh]

@[simp] theorem State.readHigh_drive (s : State) :
    ((s.readHigh).2).drive = s.drive := by simp [State.readHigh]

@[simp] theorem State.readHigh_stream (s : State) :
    ((s.readHigh).2).stream = s.stream := by simp [State.readHigh]

@[simp] theorem State.readHigh_faults (s : State) :
    ((s.readHigh).2).faults = s.faults := by simp [State.readHigh]

@[simp] theorem State.readHigh_reports (s : State) :
    ((s.readHigh).2).reports = s.reports := by simp [State.readHigh]

@[simp] theorem State.readHigh_agent (s : State) :
    ((s.readHigh).2).agent = s.agent := by simp [State.readHigh]

@[simp] theorem State.readHigh_flash (s : State) :
    ((s.readHigh).2).flash = s.flash := by simp [State.readHigh]

@[simp] theorem State.readHigh_out (s : State) :
    ((s.readHigh).2).out = s.out := by simp [State.readHigh]

@[simp] theorem State.readHigh_pending (s : State) :
    ((s.readHigh).2).pending = s.pending := by simp [State.readHigh]

@[simp] theorem State.readHigh_capture_displayed (s : State) :
    ((s.readHigh).2).capture.displayed = s.capture.displayed := by simp [State.readHigh]

@[simp] theorem State.readHigh_capture_display (s : State) :
    ((s.readHigh).2).capture.display = s.capture.display := by simp [State.readHigh]

@[simp] theorem State.readHigh_capture_fill (s : State) :
    ((s.readHigh).2).capture.fill = s.capture.fill := by simp [State.readHigh]

@[simp] theorem State.readHigh_capture_incomplete (s : State) :
    ((s.readHigh).2).capture.incomplete = s.capture.incomplete := by simp [State.readHigh]

@[simp] theorem State.readHigh_dimming_override (s : State) :
    ((s.readHigh).2).dimming.override = s.dimming.override := by simp [State.readHigh]

@[simp] theorem State.readHigh_dimming_lux (s : State) :
    ((s.readHigh).2).dimming.lux = s.dimming.lux := by simp [State.readHigh]

@[simp] theorem State.readHigh_dimming_luxValid (s : State) :
    ((s.readHigh).2).dimming.luxValid = s.dimming.luxValid := by simp [State.readHigh]

@[simp] theorem State.readHigh_dimming_ceiling (s : State) :
    ((s.readHigh).2).dimming.ceiling = s.dimming.ceiling := by simp [State.readHigh]

@[simp] theorem State.readHigh_tables_lock (s : State) :
    ((s.readHigh).2).tables.lock = s.tables.lock := by simp [State.readHigh]

@[simp] theorem State.readHigh_tables_layoutMissing (s : State) :
    ((s.readHigh).2).tables.layoutMissing = s.tables.layoutMissing := by simp [State.readHigh]

@[simp] theorem State.readHigh_table_active (s : State) (x : Table) :
    (((s.readHigh).2).table x).active = (s.table x).active := by simp [State.readHigh]

@[simp] theorem State.readHigh_table_shadow (s : State) (x : Table) :
    (((s.readHigh).2).table x).shadow = (s.table x).shadow := by simp [State.readHigh]

@[simp] theorem State.readHigh_table_generation (s : State) (x : Table) :
    (((s.readHigh).2).table x).generation = (s.table x).generation := by simp [State.readHigh]

/-! `State.readLow` -/

@[simp] theorem State.readLow_started (s : State) :
    ((s.readLow).2).started = s.started := by simp [State.readLow]

@[simp] theorem State.readLow_link (s : State) :
    ((s.readLow).2).link = s.link := by simp [State.readLow]

@[simp] theorem State.readLow_trims (s : State) :
    ((s.readLow).2).trims = s.trims := by simp [State.readLow]

@[simp] theorem State.readLow_time (s : State) :
    ((s.readLow).2).time = s.time := by simp [State.readLow]

@[simp] theorem State.readLow_drive (s : State) :
    ((s.readLow).2).drive = s.drive := by simp [State.readLow]

@[simp] theorem State.readLow_stream (s : State) :
    ((s.readLow).2).stream = s.stream := by simp [State.readLow]

@[simp] theorem State.readLow_faults (s : State) :
    ((s.readLow).2).faults = s.faults := by simp [State.readLow]

@[simp] theorem State.readLow_reports (s : State) :
    ((s.readLow).2).reports = s.reports := by simp [State.readLow]

@[simp] theorem State.readLow_agent (s : State) :
    ((s.readLow).2).agent = s.agent := by simp [State.readLow]

@[simp] theorem State.readLow_flash (s : State) :
    ((s.readLow).2).flash = s.flash := by simp [State.readLow]

@[simp] theorem State.readLow_out (s : State) :
    ((s.readLow).2).out = s.out := by simp [State.readLow]

@[simp] theorem State.readLow_pending (s : State) :
    ((s.readLow).2).pending = s.pending := by simp [State.readLow]

@[simp] theorem State.readLow_capture_displayed (s : State) :
    ((s.readLow).2).capture.displayed = s.capture.displayed := by simp [State.readLow]

@[simp] theorem State.readLow_capture_display (s : State) :
    ((s.readLow).2).capture.display = s.capture.display := by simp [State.readLow]

@[simp] theorem State.readLow_capture_fill (s : State) :
    ((s.readLow).2).capture.fill = s.capture.fill := by simp [State.readLow]

@[simp] theorem State.readLow_capture_incomplete (s : State) :
    ((s.readLow).2).capture.incomplete = s.capture.incomplete := by simp [State.readLow]

@[simp] theorem State.readLow_dimming_override (s : State) :
    ((s.readLow).2).dimming.override = s.dimming.override := by simp [State.readLow]

@[simp] theorem State.readLow_dimming_lux (s : State) :
    ((s.readLow).2).dimming.lux = s.dimming.lux := by simp [State.readLow]

@[simp] theorem State.readLow_dimming_luxValid (s : State) :
    ((s.readLow).2).dimming.luxValid = s.dimming.luxValid := by simp [State.readLow]

@[simp] theorem State.readLow_dimming_ceiling (s : State) :
    ((s.readLow).2).dimming.ceiling = s.dimming.ceiling := by simp [State.readLow]

@[simp] theorem State.readLow_tables_lock (s : State) :
    ((s.readLow).2).tables.lock = s.tables.lock := by simp [State.readLow]

@[simp] theorem State.readLow_tables_layoutMissing (s : State) :
    ((s.readLow).2).tables.layoutMissing = s.tables.layoutMissing := by simp [State.readLow]

@[simp] theorem State.readLow_table_active (s : State) (x : Table) :
    (((s.readLow).2).table x).active = (s.table x).active := by simp [State.readLow]

@[simp] theorem State.readLow_table_shadow (s : State) (x : Table) :
    (((s.readLow).2).table x).shadow = (s.table x).shadow := by simp [State.readLow]

@[simp] theorem State.readLow_table_generation (s : State) (x : Table) :
    (((s.readLow).2).table x).generation = (s.table x).generation := by simp [State.readLow]

/-! `State.readPause` -/

@[simp] theorem State.readPause_started (s : State) :
    ((s.readPause).2).started = s.started := by simp [State.readPause]

@[simp] theorem State.readPause_link (s : State) :
    ((s.readPause).2).link = s.link := by simp [State.readPause]

@[simp] theorem State.readPause_trims (s : State) :
    ((s.readPause).2).trims = s.trims := by simp [State.readPause]

@[simp] theorem State.readPause_time (s : State) :
    ((s.readPause).2).time = s.time := by simp [State.readPause]

@[simp] theorem State.readPause_drive (s : State) :
    ((s.readPause).2).drive = s.drive := by simp [State.readPause]

@[simp] theorem State.readPause_stream (s : State) :
    ((s.readPause).2).stream = s.stream := by simp [State.readPause]

@[simp] theorem State.readPause_faults (s : State) :
    ((s.readPause).2).faults = s.faults := by simp [State.readPause]

@[simp] theorem State.readPause_reports (s : State) :
    ((s.readPause).2).reports = s.reports := by simp [State.readPause]

@[simp] theorem State.readPause_agent (s : State) :
    ((s.readPause).2).agent = s.agent := by simp [State.readPause]

@[simp] theorem State.readPause_flash (s : State) :
    ((s.readPause).2).flash = s.flash := by simp [State.readPause]

@[simp] theorem State.readPause_out (s : State) :
    ((s.readPause).2).out = s.out := by simp [State.readPause]

@[simp] theorem State.readPause_pending (s : State) :
    ((s.readPause).2).pending = s.pending := by simp [State.readPause]

@[simp] theorem State.readPause_capture_displayed (s : State) :
    ((s.readPause).2).capture.displayed = s.capture.displayed := by simp [State.readPause]

@[simp] theorem State.readPause_capture_display (s : State) :
    ((s.readPause).2).capture.display = s.capture.display := by simp [State.readPause]

@[simp] theorem State.readPause_capture_fill (s : State) :
    ((s.readPause).2).capture.fill = s.capture.fill := by simp [State.readPause]

@[simp] theorem State.readPause_capture_incomplete (s : State) :
    ((s.readPause).2).capture.incomplete = s.capture.incomplete := by simp [State.readPause]

@[simp] theorem State.readPause_dimming_override (s : State) :
    ((s.readPause).2).dimming.override = s.dimming.override := by simp [State.readPause]

@[simp] theorem State.readPause_dimming_lux (s : State) :
    ((s.readPause).2).dimming.lux = s.dimming.lux := by simp [State.readPause]

@[simp] theorem State.readPause_dimming_luxValid (s : State) :
    ((s.readPause).2).dimming.luxValid = s.dimming.luxValid := by simp [State.readPause]

@[simp] theorem State.readPause_dimming_ceiling (s : State) :
    ((s.readPause).2).dimming.ceiling = s.dimming.ceiling := by simp [State.readPause]

@[simp] theorem State.readPause_tables_lock (s : State) :
    ((s.readPause).2).tables.lock = s.tables.lock := by simp [State.readPause]

@[simp] theorem State.readPause_tables_layoutMissing (s : State) :
    ((s.readPause).2).tables.layoutMissing = s.tables.layoutMissing := by simp [State.readPause]

@[simp] theorem State.readPause_table_active (s : State) (x : Table) :
    (((s.readPause).2).table x).active = (s.table x).active := by simp [State.readPause]

@[simp] theorem State.readPause_table_shadow (s : State) (x : Table) :
    (((s.readPause).2).table x).shadow = (s.table x).shadow := by simp [State.readPause]

@[simp] theorem State.readPause_table_generation (s : State) (x : Table) :
    (((s.readPause).2).table x).generation = (s.table x).generation := by simp [State.readPause]

/-! `State.sendHold` -/

@[simp] theorem State.sendHold_started (s : State) (p : Nat) :
    (s.sendHold p).started = s.started := by simp [State.sendHold]

@[simp] theorem State.sendHold_capture (s : State) (p : Nat) :
    (s.sendHold p).capture = s.capture := by simp [State.sendHold]

@[simp] theorem State.sendHold_trims (s : State) (p : Nat) :
    (s.sendHold p).trims = s.trims := by simp [State.sendHold]

@[simp] theorem State.sendHold_dimming (s : State) (p : Nat) :
    (s.sendHold p).dimming = s.dimming := by simp [State.sendHold]

@[simp] theorem State.sendHold_time (s : State) (p : Nat) :
    (s.sendHold p).time = s.time := by simp [State.sendHold]

@[simp] theorem State.sendHold_drive (s : State) (p : Nat) :
    (s.sendHold p).drive = s.drive := by simp [State.sendHold]

@[simp] theorem State.sendHold_stream (s : State) (p : Nat) :
    (s.sendHold p).stream = s.stream := by simp [State.sendHold]

@[simp] theorem State.sendHold_faults (s : State) (p : Nat) :
    (s.sendHold p).faults = s.faults := by simp [State.sendHold]

@[simp] theorem State.sendHold_tables (s : State) (p : Nat) :
    (s.sendHold p).tables = s.tables := by simp [State.sendHold]

@[simp] theorem State.sendHold_agent (s : State) (p : Nat) :
    (s.sendHold p).agent = s.agent := by simp [State.sendHold]

@[simp] theorem State.sendHold_flash (s : State) (p : Nat) :
    (s.sendHold p).flash = s.flash := by simp [State.sendHold]

@[simp] theorem State.sendHold_storage (s : State) (p : Nat) :
    (s.sendHold p).storage = s.storage := by simp [State.sendHold]

@[simp] theorem State.sendHold_handed (s : State) (p : Nat) :
    (s.sendHold p).handed = s.handed := by simp [State.sendHold]

@[simp] theorem State.sendHold_pending (s : State) (p : Nat) :
    (s.sendHold p).pending = s.pending := by simp [State.sendHold]

@[simp] theorem State.sendHold_link_upU (s : State) (p : Nat) :
    (s.sendHold p).link.upU = s.link.upU := by simp [State.sendHold]

@[simp] theorem State.sendHold_link_upD (s : State) (p : Nat) :
    (s.sendHold p).link.upD = s.link.upD := by simp [State.sendHold]

@[simp] theorem State.sendHold_link_partnerU (s : State) (p : Nat) :
    (s.sendHold p).link.partnerU = s.link.partnerU := by simp [State.sendHold]

@[simp] theorem State.sendHold_link_partnerD (s : State) (p : Nat) :
    (s.sendHold p).link.partnerD = s.link.partnerD := by simp [State.sendHold]

@[simp] theorem State.sendHold_link_dHasBeenUp (s : State) (p : Nat) :
    (s.sendHold p).link.dHasBeenUp = s.link.dHasBeenUp := by simp [State.sendHold]

@[simp] theorem State.sendHold_link_position (s : State) (p : Nat) :
    (s.sendHold p).link.position = s.link.position := by simp [State.sendHold]

@[simp] theorem State.sendHold_link_uDiscard (s : State) (p : Nat) :
    (s.sendHold p).link.uDiscard = s.link.uDiscard := by simp [State.sendHold]

@[simp] theorem State.sendHold_link_dDiscard (s : State) (p : Nat) :
    (s.sendHold p).link.dDiscard = s.link.dDiscard := by simp [State.sendHold]

@[simp] theorem State.sendHold_link_forwardOverflow (s : State) (p : Nat) :
    (s.sendHold p).link.forwardOverflow = s.link.forwardOverflow := by simp [State.sendHold]

@[simp] theorem State.sendHold_link_repliesLost (s : State) (p : Nat) :
    (s.sendHold p).link.repliesLost = s.link.repliesLost := by simp [State.sendHold]

@[simp] theorem State.sendHold_link_uFailures (s : State) (p : Nat) :
    (s.sendHold p).link.uFailures = s.link.uFailures := by simp [State.sendHold]

@[simp] theorem State.sendHold_link_forwardQueue (s : State) (p : Nat) :
    (s.sendHold p).link.forwardQueue = s.link.forwardQueue := by simp [State.sendHold]

@[simp] theorem State.sendHold_link_replies (s : State) (p : Nat) :
    (s.sendHold p).link.replies = s.link.replies := by simp [State.sendHold]

@[simp] theorem State.sendHold_link_sendingU (s : State) (p : Nat) :
    (s.sendHold p).link.sendingU = s.link.sendingU := by simp [State.sendHold]

@[simp] theorem State.sendHold_reports_queue (s : State) (p : Nat) :
    (s.sendHold p).reports.queue = s.reports.queue := by simp [State.sendHold]

@[simp] theorem State.sendHold_reports_lostLocal (s : State) (p : Nat) :
    (s.sendHold p).reports.lostLocal = s.reports.lostLocal := by simp [State.sendHold]

@[simp] theorem State.sendHold_reports_lostForwarded (s : State) (p : Nat) :
    (s.sendHold p).reports.lostForwarded = s.reports.lostForwarded := by simp [State.sendHold]

@[simp] theorem State.sendHold_reports_summaryCount (s : State) (p : Nat) :
    (s.sendHold p).reports.summaryCount = s.reports.summaryCount := by simp [State.sendHold]

@[simp] theorem State.sendHold_reports_inbound (s : State) (p : Nat) :
    (s.sendHold p).reports.inbound = s.reports.inbound := by simp [State.sendHold]

@[simp] theorem State.sendHold_table (s : State) (p : Nat) (x : Table) :
    (s.sendHold p).table x = s.table x := by simp [State.sendHold, State.table]

/-! `State.renewHold` -/

@[simp] theorem State.renewHold_started (s : State) :
    (s.renewHold).started = s.started := by simp [State.renewHold]

@[simp] theorem State.renewHold_trims (s : State) :
    (s.renewHold).trims = s.trims := by simp [State.renewHold]

@[simp] theorem State.renewHold_time (s : State) :
    (s.renewHold).time = s.time := by simp [State.renewHold]

@[simp] theorem State.renewHold_drive (s : State) :
    (s.renewHold).drive = s.drive := by simp [State.renewHold]

@[simp] theorem State.renewHold_stream (s : State) :
    (s.renewHold).stream = s.stream := by simp [State.renewHold]

@[simp] theorem State.renewHold_faults (s : State) :
    (s.renewHold).faults = s.faults := by simp [State.renewHold]

@[simp] theorem State.renewHold_agent (s : State) :
    (s.renewHold).agent = s.agent := by simp [State.renewHold]

@[simp] theorem State.renewHold_flash (s : State) :
    (s.renewHold).flash = s.flash := by simp [State.renewHold]

@[simp] theorem State.renewHold_pending (s : State) :
    (s.renewHold).pending = s.pending := by simp [State.renewHold]

@[simp] theorem State.renewHold_link_upU (s : State) :
    (s.renewHold).link.upU = s.link.upU := by simp [State.renewHold]

@[simp] theorem State.renewHold_link_upD (s : State) :
    (s.renewHold).link.upD = s.link.upD := by simp [State.renewHold]

@[simp] theorem State.renewHold_link_partnerU (s : State) :
    (s.renewHold).link.partnerU = s.link.partnerU := by simp [State.renewHold]

@[simp] theorem State.renewHold_link_partnerD (s : State) :
    (s.renewHold).link.partnerD = s.link.partnerD := by simp [State.renewHold]

@[simp] theorem State.renewHold_link_dHasBeenUp (s : State) :
    (s.renewHold).link.dHasBeenUp = s.link.dHasBeenUp := by simp [State.renewHold]

@[simp] theorem State.renewHold_link_position (s : State) :
    (s.renewHold).link.position = s.link.position := by simp [State.renewHold]

@[simp] theorem State.renewHold_link_uDiscard (s : State) :
    (s.renewHold).link.uDiscard = s.link.uDiscard := by simp [State.renewHold]

@[simp] theorem State.renewHold_link_dDiscard (s : State) :
    (s.renewHold).link.dDiscard = s.link.dDiscard := by simp [State.renewHold]

@[simp] theorem State.renewHold_link_forwardOverflow (s : State) :
    (s.renewHold).link.forwardOverflow = s.link.forwardOverflow := by simp [State.renewHold]

@[simp] theorem State.renewHold_link_repliesLost (s : State) :
    (s.renewHold).link.repliesLost = s.link.repliesLost := by simp [State.renewHold]

@[simp] theorem State.renewHold_link_uFailures (s : State) :
    (s.renewHold).link.uFailures = s.link.uFailures := by simp [State.renewHold]

@[simp] theorem State.renewHold_link_forwardQueue (s : State) :
    (s.renewHold).link.forwardQueue = s.link.forwardQueue := by simp [State.renewHold]

@[simp] theorem State.renewHold_link_replies (s : State) :
    (s.renewHold).link.replies = s.link.replies := by simp [State.renewHold]

@[simp] theorem State.renewHold_link_sendingU (s : State) :
    (s.renewHold).link.sendingU = s.link.sendingU := by simp [State.renewHold]

@[simp] theorem State.renewHold_capture_displayed (s : State) :
    (s.renewHold).capture.displayed = s.capture.displayed := by simp [State.renewHold]

@[simp] theorem State.renewHold_capture_display (s : State) :
    (s.renewHold).capture.display = s.capture.display := by simp [State.renewHold]

@[simp] theorem State.renewHold_capture_fill (s : State) :
    (s.renewHold).capture.fill = s.capture.fill := by simp [State.renewHold]

@[simp] theorem State.renewHold_capture_incomplete (s : State) :
    (s.renewHold).capture.incomplete = s.capture.incomplete := by simp [State.renewHold]

@[simp] theorem State.renewHold_dimming_override (s : State) :
    (s.renewHold).dimming.override = s.dimming.override := by simp [State.renewHold]

@[simp] theorem State.renewHold_dimming_lux (s : State) :
    (s.renewHold).dimming.lux = s.dimming.lux := by simp [State.renewHold]

@[simp] theorem State.renewHold_dimming_luxValid (s : State) :
    (s.renewHold).dimming.luxValid = s.dimming.luxValid := by simp [State.renewHold]

@[simp] theorem State.renewHold_dimming_ceiling (s : State) :
    (s.renewHold).dimming.ceiling = s.dimming.ceiling := by simp [State.renewHold]

@[simp] theorem State.renewHold_reports_queue (s : State) :
    (s.renewHold).reports.queue = s.reports.queue := by simp [State.renewHold]

@[simp] theorem State.renewHold_reports_lostLocal (s : State) :
    (s.renewHold).reports.lostLocal = s.reports.lostLocal := by simp [State.renewHold]

@[simp] theorem State.renewHold_reports_lostForwarded (s : State) :
    (s.renewHold).reports.lostForwarded = s.reports.lostForwarded := by simp [State.renewHold]

@[simp] theorem State.renewHold_reports_summaryCount (s : State) :
    (s.renewHold).reports.summaryCount = s.reports.summaryCount := by simp [State.renewHold]

@[simp] theorem State.renewHold_reports_inbound (s : State) :
    (s.renewHold).reports.inbound = s.reports.inbound := by simp [State.renewHold]

@[simp] theorem State.renewHold_tables_lock (s : State) :
    (s.renewHold).tables.lock = s.tables.lock := by simp [State.renewHold]

@[simp] theorem State.renewHold_tables_layoutMissing (s : State) :
    (s.renewHold).tables.layoutMissing = s.tables.layoutMissing := by simp [State.renewHold]

@[simp] theorem State.renewHold_table_active (s : State) (x : Table) :
    ((s.renewHold).table x).active = (s.table x).active := by simp [State.renewHold]

@[simp] theorem State.renewHold_table_shadow (s : State) (x : Table) :
    ((s.renewHold).table x).shadow = (s.table x).shadow := by simp [State.renewHold]

@[simp] theorem State.renewHold_table_generation (s : State) (x : Table) :
    ((s.renewHold).table x).generation = (s.table x).generation := by simp [State.renewHold]

/-! `State.releaseHold` -/

@[simp] theorem State.releaseHold_started (s : State) :
    (s.releaseHold).started = s.started := by simp [State.releaseHold]

@[simp] theorem State.releaseHold_capture (s : State) :
    (s.releaseHold).capture = s.capture := by simp [State.releaseHold]

@[simp] theorem State.releaseHold_trims (s : State) :
    (s.releaseHold).trims = s.trims := by simp [State.releaseHold]

@[simp] theorem State.releaseHold_dimming (s : State) :
    (s.releaseHold).dimming = s.dimming := by simp [State.releaseHold]

@[simp] theorem State.releaseHold_time (s : State) :
    (s.releaseHold).time = s.time := by simp [State.releaseHold]

@[simp] theorem State.releaseHold_drive (s : State) :
    (s.releaseHold).drive = s.drive := by simp [State.releaseHold]

@[simp] theorem State.releaseHold_stream (s : State) :
    (s.releaseHold).stream = s.stream := by simp [State.releaseHold]

@[simp] theorem State.releaseHold_faults (s : State) :
    (s.releaseHold).faults = s.faults := by simp [State.releaseHold]

@[simp] theorem State.releaseHold_tables (s : State) :
    (s.releaseHold).tables = s.tables := by simp [State.releaseHold]

@[simp] theorem State.releaseHold_agent (s : State) :
    (s.releaseHold).agent = s.agent := by simp [State.releaseHold]

@[simp] theorem State.releaseHold_flash (s : State) :
    (s.releaseHold).flash = s.flash := by simp [State.releaseHold]

@[simp] theorem State.releaseHold_storage (s : State) :
    (s.releaseHold).storage = s.storage := by simp [State.releaseHold]

@[simp] theorem State.releaseHold_handed (s : State) :
    (s.releaseHold).handed = s.handed := by simp [State.releaseHold]

@[simp] theorem State.releaseHold_pending (s : State) :
    (s.releaseHold).pending = s.pending := by simp [State.releaseHold]

@[simp] theorem State.releaseHold_link_upU (s : State) :
    (s.releaseHold).link.upU = s.link.upU := by simp [State.releaseHold]

@[simp] theorem State.releaseHold_link_upD (s : State) :
    (s.releaseHold).link.upD = s.link.upD := by simp [State.releaseHold]

@[simp] theorem State.releaseHold_link_partnerU (s : State) :
    (s.releaseHold).link.partnerU = s.link.partnerU := by simp [State.releaseHold]

@[simp] theorem State.releaseHold_link_partnerD (s : State) :
    (s.releaseHold).link.partnerD = s.link.partnerD := by simp [State.releaseHold]

@[simp] theorem State.releaseHold_link_dHasBeenUp (s : State) :
    (s.releaseHold).link.dHasBeenUp = s.link.dHasBeenUp := by simp [State.releaseHold]

@[simp] theorem State.releaseHold_link_position (s : State) :
    (s.releaseHold).link.position = s.link.position := by simp [State.releaseHold]

@[simp] theorem State.releaseHold_link_uDiscard (s : State) :
    (s.releaseHold).link.uDiscard = s.link.uDiscard := by simp [State.releaseHold]

@[simp] theorem State.releaseHold_link_dDiscard (s : State) :
    (s.releaseHold).link.dDiscard = s.link.dDiscard := by simp [State.releaseHold]

@[simp] theorem State.releaseHold_link_forwardOverflow (s : State) :
    (s.releaseHold).link.forwardOverflow = s.link.forwardOverflow := by simp [State.releaseHold]

@[simp] theorem State.releaseHold_link_repliesLost (s : State) :
    (s.releaseHold).link.repliesLost = s.link.repliesLost := by simp [State.releaseHold]

@[simp] theorem State.releaseHold_link_uFailures (s : State) :
    (s.releaseHold).link.uFailures = s.link.uFailures := by simp [State.releaseHold]

@[simp] theorem State.releaseHold_link_forwardQueue (s : State) :
    (s.releaseHold).link.forwardQueue = s.link.forwardQueue := by simp [State.releaseHold]

@[simp] theorem State.releaseHold_link_replies (s : State) :
    (s.releaseHold).link.replies = s.link.replies := by simp [State.releaseHold]

@[simp] theorem State.releaseHold_link_sendingU (s : State) :
    (s.releaseHold).link.sendingU = s.link.sendingU := by simp [State.releaseHold]

@[simp] theorem State.releaseHold_reports_queue (s : State) :
    (s.releaseHold).reports.queue = s.reports.queue := by simp [State.releaseHold]

@[simp] theorem State.releaseHold_reports_lostLocal (s : State) :
    (s.releaseHold).reports.lostLocal = s.reports.lostLocal := by simp [State.releaseHold]

@[simp] theorem State.releaseHold_reports_lostForwarded (s : State) :
    (s.releaseHold).reports.lostForwarded = s.reports.lostForwarded := by simp [State.releaseHold]

@[simp] theorem State.releaseHold_reports_summaryCount (s : State) :
    (s.releaseHold).reports.summaryCount = s.reports.summaryCount := by simp [State.releaseHold]

@[simp] theorem State.releaseHold_reports_lastHold (s : State) :
    (s.releaseHold).reports.lastHold = s.reports.lastHold := by simp [State.releaseHold]

@[simp] theorem State.releaseHold_reports_inbound (s : State) :
    (s.releaseHold).reports.inbound = s.reports.inbound := by simp [State.releaseHold]

@[simp] theorem State.releaseHold_table (s : State) (x : Table) :
    (s.releaseHold).table x = s.table x := by simp [State.releaseHold, State.table]

/-! `State.checkAssert` -/

@[simp] theorem State.checkAssert_started (s : State) :
    (s.checkAssert).started = s.started := by unfold State.checkAssert; dsimp only; (repeat' split) <;> simp

@[simp] theorem State.checkAssert_trims (s : State) :
    (s.checkAssert).trims = s.trims := by unfold State.checkAssert; dsimp only; (repeat' split) <;> simp

@[simp] theorem State.checkAssert_time (s : State) :
    (s.checkAssert).time = s.time := by unfold State.checkAssert; dsimp only; (repeat' split) <;> simp

@[simp] theorem State.checkAssert_drive (s : State) :
    (s.checkAssert).drive = s.drive := by unfold State.checkAssert; dsimp only; (repeat' split) <;> simp

@[simp] theorem State.checkAssert_stream (s : State) :
    (s.checkAssert).stream = s.stream := by unfold State.checkAssert; dsimp only; (repeat' split) <;> simp

@[simp] theorem State.checkAssert_faults (s : State) :
    (s.checkAssert).faults = s.faults := by unfold State.checkAssert; dsimp only; (repeat' split) <;> simp

@[simp] theorem State.checkAssert_agent (s : State) :
    (s.checkAssert).agent = s.agent := by unfold State.checkAssert; dsimp only; (repeat' split) <;> simp

@[simp] theorem State.checkAssert_flash (s : State) :
    (s.checkAssert).flash = s.flash := by unfold State.checkAssert; dsimp only; (repeat' split) <;> simp

@[simp] theorem State.checkAssert_pending (s : State) :
    (s.checkAssert).pending = s.pending := by unfold State.checkAssert; dsimp only; (repeat' split) <;> simp

@[simp] theorem State.checkAssert_link_upU (s : State) :
    (s.checkAssert).link.upU = s.link.upU := by unfold State.checkAssert; dsimp only; (repeat' split) <;> simp

@[simp] theorem State.checkAssert_link_upD (s : State) :
    (s.checkAssert).link.upD = s.link.upD := by unfold State.checkAssert; dsimp only; (repeat' split) <;> simp

@[simp] theorem State.checkAssert_link_partnerU (s : State) :
    (s.checkAssert).link.partnerU = s.link.partnerU := by unfold State.checkAssert; dsimp only; (repeat' split) <;> simp

@[simp] theorem State.checkAssert_link_partnerD (s : State) :
    (s.checkAssert).link.partnerD = s.link.partnerD := by unfold State.checkAssert; dsimp only; (repeat' split) <;> simp

@[simp] theorem State.checkAssert_link_dHasBeenUp (s : State) :
    (s.checkAssert).link.dHasBeenUp = s.link.dHasBeenUp := by unfold State.checkAssert; dsimp only; (repeat' split) <;> simp

@[simp] theorem State.checkAssert_link_position (s : State) :
    (s.checkAssert).link.position = s.link.position := by unfold State.checkAssert; dsimp only; (repeat' split) <;> simp

@[simp] theorem State.checkAssert_link_uDiscard (s : State) :
    (s.checkAssert).link.uDiscard = s.link.uDiscard := by unfold State.checkAssert; dsimp only; (repeat' split) <;> simp

@[simp] theorem State.checkAssert_link_dDiscard (s : State) :
    (s.checkAssert).link.dDiscard = s.link.dDiscard := by unfold State.checkAssert; dsimp only; (repeat' split) <;> simp

@[simp] theorem State.checkAssert_link_forwardOverflow (s : State) :
    (s.checkAssert).link.forwardOverflow = s.link.forwardOverflow := by unfold State.checkAssert; dsimp only; (repeat' split) <;> simp

@[simp] theorem State.checkAssert_link_repliesLost (s : State) :
    (s.checkAssert).link.repliesLost = s.link.repliesLost := by unfold State.checkAssert; dsimp only; (repeat' split) <;> simp

@[simp] theorem State.checkAssert_link_uFailures (s : State) :
    (s.checkAssert).link.uFailures = s.link.uFailures := by unfold State.checkAssert; dsimp only; (repeat' split) <;> simp

@[simp] theorem State.checkAssert_link_forwardQueue (s : State) :
    (s.checkAssert).link.forwardQueue = s.link.forwardQueue := by unfold State.checkAssert; dsimp only; (repeat' split) <;> simp

@[simp] theorem State.checkAssert_link_replies (s : State) :
    (s.checkAssert).link.replies = s.link.replies := by unfold State.checkAssert; dsimp only; (repeat' split) <;> simp

@[simp] theorem State.checkAssert_link_sendingU (s : State) :
    (s.checkAssert).link.sendingU = s.link.sendingU := by unfold State.checkAssert; dsimp only; (repeat' split) <;> simp

@[simp] theorem State.checkAssert_capture_displayed (s : State) :
    (s.checkAssert).capture.displayed = s.capture.displayed := by unfold State.checkAssert; dsimp only; (repeat' split) <;> simp

@[simp] theorem State.checkAssert_capture_display (s : State) :
    (s.checkAssert).capture.display = s.capture.display := by unfold State.checkAssert; dsimp only; (repeat' split) <;> simp

@[simp] theorem State.checkAssert_capture_fill (s : State) :
    (s.checkAssert).capture.fill = s.capture.fill := by unfold State.checkAssert; dsimp only; (repeat' split) <;> simp

@[simp] theorem State.checkAssert_capture_incomplete (s : State) :
    (s.checkAssert).capture.incomplete = s.capture.incomplete := by unfold State.checkAssert; dsimp only; (repeat' split) <;> simp

@[simp] theorem State.checkAssert_dimming_override (s : State) :
    (s.checkAssert).dimming.override = s.dimming.override := by unfold State.checkAssert; dsimp only; (repeat' split) <;> simp

@[simp] theorem State.checkAssert_dimming_lux (s : State) :
    (s.checkAssert).dimming.lux = s.dimming.lux := by unfold State.checkAssert; dsimp only; (repeat' split) <;> simp

@[simp] theorem State.checkAssert_dimming_luxValid (s : State) :
    (s.checkAssert).dimming.luxValid = s.dimming.luxValid := by unfold State.checkAssert; dsimp only; (repeat' split) <;> simp

@[simp] theorem State.checkAssert_dimming_ceiling (s : State) :
    (s.checkAssert).dimming.ceiling = s.dimming.ceiling := by unfold State.checkAssert; dsimp only; (repeat' split) <;> simp

@[simp] theorem State.checkAssert_reports_queue (s : State) :
    (s.checkAssert).reports.queue = s.reports.queue := by unfold State.checkAssert; dsimp only; (repeat' split) <;> simp

@[simp] theorem State.checkAssert_reports_lostLocal (s : State) :
    (s.checkAssert).reports.lostLocal = s.reports.lostLocal := by unfold State.checkAssert; dsimp only; (repeat' split) <;> simp

@[simp] theorem State.checkAssert_reports_lostForwarded (s : State) :
    (s.checkAssert).reports.lostForwarded = s.reports.lostForwarded := by unfold State.checkAssert; dsimp only; (repeat' split) <;> simp

@[simp] theorem State.checkAssert_reports_summaryCount (s : State) :
    (s.checkAssert).reports.summaryCount = s.reports.summaryCount := by unfold State.checkAssert; dsimp only; (repeat' split) <;> simp

@[simp] theorem State.checkAssert_reports_inbound (s : State) :
    (s.checkAssert).reports.inbound = s.reports.inbound := by unfold State.checkAssert; dsimp only; (repeat' split) <;> simp

@[simp] theorem State.checkAssert_tables_lock (s : State) :
    (s.checkAssert).tables.lock = s.tables.lock := by unfold State.checkAssert; dsimp only; (repeat' split) <;> simp

@[simp] theorem State.checkAssert_tables_layoutMissing (s : State) :
    (s.checkAssert).tables.layoutMissing = s.tables.layoutMissing := by unfold State.checkAssert; dsimp only; (repeat' split) <;> simp

@[simp] theorem State.checkAssert_table_active (s : State) (x : Table) :
    ((s.checkAssert).table x).active = (s.table x).active := by unfold State.checkAssert; dsimp only; (repeat' split) <;> simp

@[simp] theorem State.checkAssert_table_shadow (s : State) (x : Table) :
    ((s.checkAssert).table x).shadow = (s.table x).shadow := by unfold State.checkAssert; dsimp only; (repeat' split) <;> simp

@[simp] theorem State.checkAssert_table_generation (s : State) (x : Table) :
    ((s.checkAssert).table x).generation = (s.table x).generation := by unfold State.checkAssert; dsimp only; (repeat' split) <;> simp

/-! `State.checkRelease` -/

@[simp] theorem State.checkRelease_started (s : State) :
    (s.checkRelease).started = s.started := by unfold State.checkRelease; dsimp only; (repeat' split) <;> simp

@[simp] theorem State.checkRelease_trims (s : State) :
    (s.checkRelease).trims = s.trims := by unfold State.checkRelease; dsimp only; (repeat' split) <;> simp

@[simp] theorem State.checkRelease_time (s : State) :
    (s.checkRelease).time = s.time := by unfold State.checkRelease; dsimp only; (repeat' split) <;> simp

@[simp] theorem State.checkRelease_drive (s : State) :
    (s.checkRelease).drive = s.drive := by unfold State.checkRelease; dsimp only; (repeat' split) <;> simp

@[simp] theorem State.checkRelease_stream (s : State) :
    (s.checkRelease).stream = s.stream := by unfold State.checkRelease; dsimp only; (repeat' split) <;> simp

@[simp] theorem State.checkRelease_faults (s : State) :
    (s.checkRelease).faults = s.faults := by unfold State.checkRelease; dsimp only; (repeat' split) <;> simp

@[simp] theorem State.checkRelease_agent (s : State) :
    (s.checkRelease).agent = s.agent := by unfold State.checkRelease; dsimp only; (repeat' split) <;> simp

@[simp] theorem State.checkRelease_flash (s : State) :
    (s.checkRelease).flash = s.flash := by unfold State.checkRelease; dsimp only; (repeat' split) <;> simp

@[simp] theorem State.checkRelease_pending (s : State) :
    (s.checkRelease).pending = s.pending := by unfold State.checkRelease; dsimp only; (repeat' split) <;> simp

@[simp] theorem State.checkRelease_link_upU (s : State) :
    (s.checkRelease).link.upU = s.link.upU := by unfold State.checkRelease; dsimp only; (repeat' split) <;> simp

@[simp] theorem State.checkRelease_link_upD (s : State) :
    (s.checkRelease).link.upD = s.link.upD := by unfold State.checkRelease; dsimp only; (repeat' split) <;> simp

@[simp] theorem State.checkRelease_link_partnerU (s : State) :
    (s.checkRelease).link.partnerU = s.link.partnerU := by unfold State.checkRelease; dsimp only; (repeat' split) <;> simp

@[simp] theorem State.checkRelease_link_partnerD (s : State) :
    (s.checkRelease).link.partnerD = s.link.partnerD := by unfold State.checkRelease; dsimp only; (repeat' split) <;> simp

@[simp] theorem State.checkRelease_link_dHasBeenUp (s : State) :
    (s.checkRelease).link.dHasBeenUp = s.link.dHasBeenUp := by unfold State.checkRelease; dsimp only; (repeat' split) <;> simp

@[simp] theorem State.checkRelease_link_position (s : State) :
    (s.checkRelease).link.position = s.link.position := by unfold State.checkRelease; dsimp only; (repeat' split) <;> simp

@[simp] theorem State.checkRelease_link_uDiscard (s : State) :
    (s.checkRelease).link.uDiscard = s.link.uDiscard := by unfold State.checkRelease; dsimp only; (repeat' split) <;> simp

@[simp] theorem State.checkRelease_link_dDiscard (s : State) :
    (s.checkRelease).link.dDiscard = s.link.dDiscard := by unfold State.checkRelease; dsimp only; (repeat' split) <;> simp

@[simp] theorem State.checkRelease_link_forwardOverflow (s : State) :
    (s.checkRelease).link.forwardOverflow = s.link.forwardOverflow := by unfold State.checkRelease; dsimp only; (repeat' split) <;> simp

@[simp] theorem State.checkRelease_link_repliesLost (s : State) :
    (s.checkRelease).link.repliesLost = s.link.repliesLost := by unfold State.checkRelease; dsimp only; (repeat' split) <;> simp

@[simp] theorem State.checkRelease_link_uFailures (s : State) :
    (s.checkRelease).link.uFailures = s.link.uFailures := by unfold State.checkRelease; dsimp only; (repeat' split) <;> simp

@[simp] theorem State.checkRelease_link_forwardQueue (s : State) :
    (s.checkRelease).link.forwardQueue = s.link.forwardQueue := by unfold State.checkRelease; dsimp only; (repeat' split) <;> simp

@[simp] theorem State.checkRelease_link_replies (s : State) :
    (s.checkRelease).link.replies = s.link.replies := by unfold State.checkRelease; dsimp only; (repeat' split) <;> simp

@[simp] theorem State.checkRelease_link_sendingU (s : State) :
    (s.checkRelease).link.sendingU = s.link.sendingU := by unfold State.checkRelease; dsimp only; (repeat' split) <;> simp

@[simp] theorem State.checkRelease_capture_displayed (s : State) :
    (s.checkRelease).capture.displayed = s.capture.displayed := by unfold State.checkRelease; dsimp only; (repeat' split) <;> simp

@[simp] theorem State.checkRelease_capture_display (s : State) :
    (s.checkRelease).capture.display = s.capture.display := by unfold State.checkRelease; dsimp only; (repeat' split) <;> simp

@[simp] theorem State.checkRelease_capture_fill (s : State) :
    (s.checkRelease).capture.fill = s.capture.fill := by unfold State.checkRelease; dsimp only; (repeat' split) <;> simp

@[simp] theorem State.checkRelease_capture_incomplete (s : State) :
    (s.checkRelease).capture.incomplete = s.capture.incomplete := by unfold State.checkRelease; dsimp only; (repeat' split) <;> simp

@[simp] theorem State.checkRelease_dimming_override (s : State) :
    (s.checkRelease).dimming.override = s.dimming.override := by unfold State.checkRelease; dsimp only; (repeat' split) <;> simp

@[simp] theorem State.checkRelease_dimming_lux (s : State) :
    (s.checkRelease).dimming.lux = s.dimming.lux := by unfold State.checkRelease; dsimp only; (repeat' split) <;> simp

@[simp] theorem State.checkRelease_dimming_luxValid (s : State) :
    (s.checkRelease).dimming.luxValid = s.dimming.luxValid := by unfold State.checkRelease; dsimp only; (repeat' split) <;> simp

@[simp] theorem State.checkRelease_dimming_ceiling (s : State) :
    (s.checkRelease).dimming.ceiling = s.dimming.ceiling := by unfold State.checkRelease; dsimp only; (repeat' split) <;> simp

@[simp] theorem State.checkRelease_reports_queue (s : State) :
    (s.checkRelease).reports.queue = s.reports.queue := by unfold State.checkRelease; dsimp only; (repeat' split) <;> simp

@[simp] theorem State.checkRelease_reports_lostLocal (s : State) :
    (s.checkRelease).reports.lostLocal = s.reports.lostLocal := by unfold State.checkRelease; dsimp only; (repeat' split) <;> simp

@[simp] theorem State.checkRelease_reports_lostForwarded (s : State) :
    (s.checkRelease).reports.lostForwarded = s.reports.lostForwarded := by unfold State.checkRelease; dsimp only; (repeat' split) <;> simp

@[simp] theorem State.checkRelease_reports_summaryCount (s : State) :
    (s.checkRelease).reports.summaryCount = s.reports.summaryCount := by unfold State.checkRelease; dsimp only; (repeat' split) <;> simp

@[simp] theorem State.checkRelease_reports_lastHold (s : State) :
    (s.checkRelease).reports.lastHold = s.reports.lastHold := by unfold State.checkRelease; dsimp only; (repeat' split) <;> simp

@[simp] theorem State.checkRelease_reports_inbound (s : State) :
    (s.checkRelease).reports.inbound = s.reports.inbound := by unfold State.checkRelease; dsimp only; (repeat' split) <;> simp

@[simp] theorem State.checkRelease_tables_lock (s : State) :
    (s.checkRelease).tables.lock = s.tables.lock := by unfold State.checkRelease; dsimp only; (repeat' split) <;> simp

@[simp] theorem State.checkRelease_tables_layoutMissing (s : State) :
    (s.checkRelease).tables.layoutMissing = s.tables.layoutMissing := by unfold State.checkRelease; dsimp only; (repeat' split) <;> simp

@[simp] theorem State.checkRelease_table_active (s : State) (x : Table) :
    ((s.checkRelease).table x).active = (s.table x).active := by unfold State.checkRelease; dsimp only; (repeat' split) <;> simp

@[simp] theorem State.checkRelease_table_shadow (s : State) (x : Table) :
    ((s.checkRelease).table x).shadow = (s.table x).shadow := by unfold State.checkRelease; dsimp only; (repeat' split) <;> simp

@[simp] theorem State.checkRelease_table_generation (s : State) (x : Table) :
    ((s.checkRelease).table x).generation = (s.table x).generation := by unfold State.checkRelease; dsimp only; (repeat' split) <;> simp

/-! `State.discardHold` -/

@[simp] theorem State.discardHold_started (s : State) :
    (s.discardHold).started = s.started := by unfold State.discardHold; dsimp only; (repeat' split) <;> simp

@[simp] theorem State.discardHold_trims (s : State) :
    (s.discardHold).trims = s.trims := by unfold State.discardHold; dsimp only; (repeat' split) <;> simp

@[simp] theorem State.discardHold_time (s : State) :
    (s.discardHold).time = s.time := by unfold State.discardHold; dsimp only; (repeat' split) <;> simp

@[simp] theorem State.discardHold_drive (s : State) :
    (s.discardHold).drive = s.drive := by unfold State.discardHold; dsimp only; (repeat' split) <;> simp

@[simp] theorem State.discardHold_stream (s : State) :
    (s.discardHold).stream = s.stream := by unfold State.discardHold; dsimp only; (repeat' split) <;> simp

@[simp] theorem State.discardHold_faults (s : State) :
    (s.discardHold).faults = s.faults := by unfold State.discardHold; dsimp only; (repeat' split) <;> simp

@[simp] theorem State.discardHold_agent (s : State) :
    (s.discardHold).agent = s.agent := by unfold State.discardHold; dsimp only; (repeat' split) <;> simp

@[simp] theorem State.discardHold_flash (s : State) :
    (s.discardHold).flash = s.flash := by unfold State.discardHold; dsimp only; (repeat' split) <;> simp

@[simp] theorem State.discardHold_pending (s : State) :
    (s.discardHold).pending = s.pending := by unfold State.discardHold; dsimp only; (repeat' split) <;> simp

@[simp] theorem State.discardHold_link_upU (s : State) :
    (s.discardHold).link.upU = s.link.upU := by unfold State.discardHold; dsimp only; (repeat' split) <;> simp

@[simp] theorem State.discardHold_link_upD (s : State) :
    (s.discardHold).link.upD = s.link.upD := by unfold State.discardHold; dsimp only; (repeat' split) <;> simp

@[simp] theorem State.discardHold_link_partnerU (s : State) :
    (s.discardHold).link.partnerU = s.link.partnerU := by unfold State.discardHold; dsimp only; (repeat' split) <;> simp

@[simp] theorem State.discardHold_link_partnerD (s : State) :
    (s.discardHold).link.partnerD = s.link.partnerD := by unfold State.discardHold; dsimp only; (repeat' split) <;> simp

@[simp] theorem State.discardHold_link_dHasBeenUp (s : State) :
    (s.discardHold).link.dHasBeenUp = s.link.dHasBeenUp := by unfold State.discardHold; dsimp only; (repeat' split) <;> simp

@[simp] theorem State.discardHold_link_position (s : State) :
    (s.discardHold).link.position = s.link.position := by unfold State.discardHold; dsimp only; (repeat' split) <;> simp

@[simp] theorem State.discardHold_link_uDiscard (s : State) :
    (s.discardHold).link.uDiscard = s.link.uDiscard := by unfold State.discardHold; dsimp only; (repeat' split) <;> simp

@[simp] theorem State.discardHold_link_dDiscard (s : State) :
    (s.discardHold).link.dDiscard = s.link.dDiscard := by unfold State.discardHold; dsimp only; (repeat' split) <;> simp

@[simp] theorem State.discardHold_link_forwardOverflow (s : State) :
    (s.discardHold).link.forwardOverflow = s.link.forwardOverflow := by unfold State.discardHold; dsimp only; (repeat' split) <;> simp

@[simp] theorem State.discardHold_link_repliesLost (s : State) :
    (s.discardHold).link.repliesLost = s.link.repliesLost := by unfold State.discardHold; dsimp only; (repeat' split) <;> simp

@[simp] theorem State.discardHold_link_uFailures (s : State) :
    (s.discardHold).link.uFailures = s.link.uFailures := by unfold State.discardHold; dsimp only; (repeat' split) <;> simp

@[simp] theorem State.discardHold_link_forwardQueue (s : State) :
    (s.discardHold).link.forwardQueue = s.link.forwardQueue := by unfold State.discardHold; dsimp only; (repeat' split) <;> simp

@[simp] theorem State.discardHold_link_replies (s : State) :
    (s.discardHold).link.replies = s.link.replies := by unfold State.discardHold; dsimp only; (repeat' split) <;> simp

@[simp] theorem State.discardHold_link_sendingU (s : State) :
    (s.discardHold).link.sendingU = s.link.sendingU := by unfold State.discardHold; dsimp only; (repeat' split) <;> simp

@[simp] theorem State.discardHold_capture_displayed (s : State) :
    (s.discardHold).capture.displayed = s.capture.displayed := by unfold State.discardHold; dsimp only; (repeat' split) <;> simp

@[simp] theorem State.discardHold_capture_display (s : State) :
    (s.discardHold).capture.display = s.capture.display := by unfold State.discardHold; dsimp only; (repeat' split) <;> simp

@[simp] theorem State.discardHold_capture_fill (s : State) :
    (s.discardHold).capture.fill = s.capture.fill := by unfold State.discardHold; dsimp only; (repeat' split) <;> simp

@[simp] theorem State.discardHold_capture_incomplete (s : State) :
    (s.discardHold).capture.incomplete = s.capture.incomplete := by unfold State.discardHold; dsimp only; (repeat' split) <;> simp

@[simp] theorem State.discardHold_dimming_override (s : State) :
    (s.discardHold).dimming.override = s.dimming.override := by unfold State.discardHold; dsimp only; (repeat' split) <;> simp

@[simp] theorem State.discardHold_dimming_lux (s : State) :
    (s.discardHold).dimming.lux = s.dimming.lux := by unfold State.discardHold; dsimp only; (repeat' split) <;> simp

@[simp] theorem State.discardHold_dimming_luxValid (s : State) :
    (s.discardHold).dimming.luxValid = s.dimming.luxValid := by unfold State.discardHold; dsimp only; (repeat' split) <;> simp

@[simp] theorem State.discardHold_dimming_ceiling (s : State) :
    (s.discardHold).dimming.ceiling = s.dimming.ceiling := by unfold State.discardHold; dsimp only; (repeat' split) <;> simp

@[simp] theorem State.discardHold_reports_queue (s : State) :
    (s.discardHold).reports.queue = s.reports.queue := by unfold State.discardHold; dsimp only; (repeat' split) <;> simp

@[simp] theorem State.discardHold_reports_lostLocal (s : State) :
    (s.discardHold).reports.lostLocal = s.reports.lostLocal := by unfold State.discardHold; dsimp only; (repeat' split) <;> simp

@[simp] theorem State.discardHold_reports_lostForwarded (s : State) :
    (s.discardHold).reports.lostForwarded = s.reports.lostForwarded := by unfold State.discardHold; dsimp only; (repeat' split) <;> simp

@[simp] theorem State.discardHold_reports_summaryCount (s : State) :
    (s.discardHold).reports.summaryCount = s.reports.summaryCount := by unfold State.discardHold; dsimp only; (repeat' split) <;> simp

@[simp] theorem State.discardHold_reports_inbound (s : State) :
    (s.discardHold).reports.inbound = s.reports.inbound := by unfold State.discardHold; dsimp only; (repeat' split) <;> simp

@[simp] theorem State.discardHold_tables_lock (s : State) :
    (s.discardHold).tables.lock = s.tables.lock := by unfold State.discardHold; dsimp only; (repeat' split) <;> simp

@[simp] theorem State.discardHold_tables_layoutMissing (s : State) :
    (s.discardHold).tables.layoutMissing = s.tables.layoutMissing := by unfold State.discardHold; dsimp only; (repeat' split) <;> simp

@[simp] theorem State.discardHold_table_active (s : State) (x : Table) :
    ((s.discardHold).table x).active = (s.table x).active := by unfold State.discardHold; dsimp only; (repeat' split) <;> simp

@[simp] theorem State.discardHold_table_shadow (s : State) (x : Table) :
    ((s.discardHold).table x).shadow = (s.table x).shadow := by unfold State.discardHold; dsimp only; (repeat' split) <;> simp

@[simp] theorem State.discardHold_table_generation (s : State) (x : Table) :
    ((s.discardHold).table x).generation = (s.table x).generation := by unfold State.discardHold; dsimp only; (repeat' split) <;> simp

/-! `State.joinQueue` -/

@[simp] theorem State.joinQueue_started (s : State) (r : ReportRec) :
    (s.joinQueue r).started = s.started := by simp [State.joinQueue]

@[simp] theorem State.joinQueue_trims (s : State) (r : ReportRec) :
    (s.joinQueue r).trims = s.trims := by simp [State.joinQueue]

@[simp] theorem State.joinQueue_time (s : State) (r : ReportRec) :
    (s.joinQueue r).time = s.time := by simp [State.joinQueue]

@[simp] theorem State.joinQueue_drive (s : State) (r : ReportRec) :
    (s.joinQueue r).drive = s.drive := by simp [State.joinQueue]

@[simp] theorem State.joinQueue_stream (s : State) (r : ReportRec) :
    (s.joinQueue r).stream = s.stream := by simp [State.joinQueue]

@[simp] theorem State.joinQueue_faults (s : State) (r : ReportRec) :
    (s.joinQueue r).faults = s.faults := by simp [State.joinQueue]

@[simp] theorem State.joinQueue_agent (s : State) (r : ReportRec) :
    (s.joinQueue r).agent = s.agent := by simp [State.joinQueue]

@[simp] theorem State.joinQueue_flash (s : State) (r : ReportRec) :
    (s.joinQueue r).flash = s.flash := by simp [State.joinQueue]

@[simp] theorem State.joinQueue_pending (s : State) (r : ReportRec) :
    (s.joinQueue r).pending = s.pending := by simp [State.joinQueue]

@[simp] theorem State.joinQueue_link_upU (s : State) (r : ReportRec) :
    (s.joinQueue r).link.upU = s.link.upU := by simp [State.joinQueue]

@[simp] theorem State.joinQueue_link_upD (s : State) (r : ReportRec) :
    (s.joinQueue r).link.upD = s.link.upD := by simp [State.joinQueue]

@[simp] theorem State.joinQueue_link_partnerU (s : State) (r : ReportRec) :
    (s.joinQueue r).link.partnerU = s.link.partnerU := by simp [State.joinQueue]

@[simp] theorem State.joinQueue_link_partnerD (s : State) (r : ReportRec) :
    (s.joinQueue r).link.partnerD = s.link.partnerD := by simp [State.joinQueue]

@[simp] theorem State.joinQueue_link_dHasBeenUp (s : State) (r : ReportRec) :
    (s.joinQueue r).link.dHasBeenUp = s.link.dHasBeenUp := by simp [State.joinQueue]

@[simp] theorem State.joinQueue_link_position (s : State) (r : ReportRec) :
    (s.joinQueue r).link.position = s.link.position := by simp [State.joinQueue]

@[simp] theorem State.joinQueue_link_uDiscard (s : State) (r : ReportRec) :
    (s.joinQueue r).link.uDiscard = s.link.uDiscard := by simp [State.joinQueue]

@[simp] theorem State.joinQueue_link_dDiscard (s : State) (r : ReportRec) :
    (s.joinQueue r).link.dDiscard = s.link.dDiscard := by simp [State.joinQueue]

@[simp] theorem State.joinQueue_link_forwardOverflow (s : State) (r : ReportRec) :
    (s.joinQueue r).link.forwardOverflow = s.link.forwardOverflow := by simp [State.joinQueue]

@[simp] theorem State.joinQueue_link_repliesLost (s : State) (r : ReportRec) :
    (s.joinQueue r).link.repliesLost = s.link.repliesLost := by simp [State.joinQueue]

@[simp] theorem State.joinQueue_link_uFailures (s : State) (r : ReportRec) :
    (s.joinQueue r).link.uFailures = s.link.uFailures := by simp [State.joinQueue]

@[simp] theorem State.joinQueue_link_forwardQueue (s : State) (r : ReportRec) :
    (s.joinQueue r).link.forwardQueue = s.link.forwardQueue := by simp [State.joinQueue]

@[simp] theorem State.joinQueue_link_replies (s : State) (r : ReportRec) :
    (s.joinQueue r).link.replies = s.link.replies := by simp [State.joinQueue]

@[simp] theorem State.joinQueue_capture_displayed (s : State) (r : ReportRec) :
    (s.joinQueue r).capture.displayed = s.capture.displayed := by simp [State.joinQueue]

@[simp] theorem State.joinQueue_capture_display (s : State) (r : ReportRec) :
    (s.joinQueue r).capture.display = s.capture.display := by simp [State.joinQueue]

@[simp] theorem State.joinQueue_capture_fill (s : State) (r : ReportRec) :
    (s.joinQueue r).capture.fill = s.capture.fill := by simp [State.joinQueue]

@[simp] theorem State.joinQueue_capture_incomplete (s : State) (r : ReportRec) :
    (s.joinQueue r).capture.incomplete = s.capture.incomplete := by simp [State.joinQueue]

@[simp] theorem State.joinQueue_dimming_override (s : State) (r : ReportRec) :
    (s.joinQueue r).dimming.override = s.dimming.override := by simp [State.joinQueue]

@[simp] theorem State.joinQueue_dimming_lux (s : State) (r : ReportRec) :
    (s.joinQueue r).dimming.lux = s.dimming.lux := by simp [State.joinQueue]

@[simp] theorem State.joinQueue_dimming_luxValid (s : State) (r : ReportRec) :
    (s.joinQueue r).dimming.luxValid = s.dimming.luxValid := by simp [State.joinQueue]

@[simp] theorem State.joinQueue_dimming_ceiling (s : State) (r : ReportRec) :
    (s.joinQueue r).dimming.ceiling = s.dimming.ceiling := by simp [State.joinQueue]

@[simp] theorem State.joinQueue_reports_lostLocal (s : State) (r : ReportRec) :
    (s.joinQueue r).reports.lostLocal = s.reports.lostLocal := by simp [State.joinQueue]

@[simp] theorem State.joinQueue_reports_lostForwarded (s : State) (r : ReportRec) :
    (s.joinQueue r).reports.lostForwarded = s.reports.lostForwarded := by simp [State.joinQueue]

@[simp] theorem State.joinQueue_reports_summaryCount (s : State) (r : ReportRec) :
    (s.joinQueue r).reports.summaryCount = s.reports.summaryCount := by simp [State.joinQueue]

@[simp] theorem State.joinQueue_reports_inbound (s : State) (r : ReportRec) :
    (s.joinQueue r).reports.inbound = s.reports.inbound := by simp [State.joinQueue]

@[simp] theorem State.joinQueue_tables_lock (s : State) (r : ReportRec) :
    (s.joinQueue r).tables.lock = s.tables.lock := by simp [State.joinQueue]

@[simp] theorem State.joinQueue_tables_layoutMissing (s : State) (r : ReportRec) :
    (s.joinQueue r).tables.layoutMissing = s.tables.layoutMissing := by simp [State.joinQueue]

/-! `State.discardRecord` -/

@[simp] theorem State.discardRecord_started (s : State) (c : RecordSource) :
    (s.discardRecord c).started = s.started := by unfold State.discardRecord; split <;> simp [State.table]

@[simp] theorem State.discardRecord_trims (s : State) (c : RecordSource) :
    (s.discardRecord c).trims = s.trims := by unfold State.discardRecord; split <;> simp [State.table]

@[simp] theorem State.discardRecord_time (s : State) (c : RecordSource) :
    (s.discardRecord c).time = s.time := by unfold State.discardRecord; split <;> simp [State.table]

@[simp] theorem State.discardRecord_drive (s : State) (c : RecordSource) :
    (s.discardRecord c).drive = s.drive := by unfold State.discardRecord; split <;> simp [State.table]

@[simp] theorem State.discardRecord_stream (s : State) (c : RecordSource) :
    (s.discardRecord c).stream = s.stream := by unfold State.discardRecord; split <;> simp [State.table]

@[simp] theorem State.discardRecord_faults (s : State) (c : RecordSource) :
    (s.discardRecord c).faults = s.faults := by unfold State.discardRecord; split <;> simp [State.table]

@[simp] theorem State.discardRecord_agent (s : State) (c : RecordSource) :
    (s.discardRecord c).agent = s.agent := by unfold State.discardRecord; split <;> simp [State.table]

@[simp] theorem State.discardRecord_flash (s : State) (c : RecordSource) :
    (s.discardRecord c).flash = s.flash := by unfold State.discardRecord; split <;> simp [State.table]

@[simp] theorem State.discardRecord_pending (s : State) (c : RecordSource) :
    (s.discardRecord c).pending = s.pending := by unfold State.discardRecord; split <;> simp [State.table]

@[simp] theorem State.discardRecord_link_upU (s : State) (c : RecordSource) :
    (s.discardRecord c).link.upU = s.link.upU := by unfold State.discardRecord; split <;> simp [State.table]

@[simp] theorem State.discardRecord_link_upD (s : State) (c : RecordSource) :
    (s.discardRecord c).link.upD = s.link.upD := by unfold State.discardRecord; split <;> simp [State.table]

@[simp] theorem State.discardRecord_link_partnerU (s : State) (c : RecordSource) :
    (s.discardRecord c).link.partnerU = s.link.partnerU := by unfold State.discardRecord; split <;> simp [State.table]

@[simp] theorem State.discardRecord_link_partnerD (s : State) (c : RecordSource) :
    (s.discardRecord c).link.partnerD = s.link.partnerD := by unfold State.discardRecord; split <;> simp [State.table]

@[simp] theorem State.discardRecord_link_dHasBeenUp (s : State) (c : RecordSource) :
    (s.discardRecord c).link.dHasBeenUp = s.link.dHasBeenUp := by unfold State.discardRecord; split <;> simp [State.table]

@[simp] theorem State.discardRecord_link_position (s : State) (c : RecordSource) :
    (s.discardRecord c).link.position = s.link.position := by unfold State.discardRecord; split <;> simp [State.table]

@[simp] theorem State.discardRecord_link_uDiscard (s : State) (c : RecordSource) :
    (s.discardRecord c).link.uDiscard = s.link.uDiscard := by unfold State.discardRecord; split <;> simp [State.table]

@[simp] theorem State.discardRecord_link_dDiscard (s : State) (c : RecordSource) :
    (s.discardRecord c).link.dDiscard = s.link.dDiscard := by unfold State.discardRecord; split <;> simp [State.table]

@[simp] theorem State.discardRecord_link_forwardOverflow (s : State) (c : RecordSource) :
    (s.discardRecord c).link.forwardOverflow = s.link.forwardOverflow := by unfold State.discardRecord; split <;> simp [State.table]

@[simp] theorem State.discardRecord_link_repliesLost (s : State) (c : RecordSource) :
    (s.discardRecord c).link.repliesLost = s.link.repliesLost := by unfold State.discardRecord; split <;> simp [State.table]

@[simp] theorem State.discardRecord_link_uFailures (s : State) (c : RecordSource) :
    (s.discardRecord c).link.uFailures = s.link.uFailures := by unfold State.discardRecord; split <;> simp [State.table]

@[simp] theorem State.discardRecord_link_forwardQueue (s : State) (c : RecordSource) :
    (s.discardRecord c).link.forwardQueue = s.link.forwardQueue := by unfold State.discardRecord; split <;> simp [State.table]

@[simp] theorem State.discardRecord_link_replies (s : State) (c : RecordSource) :
    (s.discardRecord c).link.replies = s.link.replies := by unfold State.discardRecord; split <;> simp [State.table]

@[simp] theorem State.discardRecord_link_sendingU (s : State) (c : RecordSource) :
    (s.discardRecord c).link.sendingU = s.link.sendingU := by unfold State.discardRecord; split <;> simp [State.table]

@[simp] theorem State.discardRecord_capture_displayed (s : State) (c : RecordSource) :
    (s.discardRecord c).capture.displayed = s.capture.displayed := by unfold State.discardRecord; split <;> simp [State.table]

@[simp] theorem State.discardRecord_capture_display (s : State) (c : RecordSource) :
    (s.discardRecord c).capture.display = s.capture.display := by unfold State.discardRecord; split <;> simp [State.table]

@[simp] theorem State.discardRecord_capture_fill (s : State) (c : RecordSource) :
    (s.discardRecord c).capture.fill = s.capture.fill := by unfold State.discardRecord; split <;> simp [State.table]

@[simp] theorem State.discardRecord_capture_incomplete (s : State) (c : RecordSource) :
    (s.discardRecord c).capture.incomplete = s.capture.incomplete := by unfold State.discardRecord; split <;> simp [State.table]

@[simp] theorem State.discardRecord_dimming_override (s : State) (c : RecordSource) :
    (s.discardRecord c).dimming.override = s.dimming.override := by unfold State.discardRecord; split <;> simp [State.table]

@[simp] theorem State.discardRecord_dimming_lux (s : State) (c : RecordSource) :
    (s.discardRecord c).dimming.lux = s.dimming.lux := by unfold State.discardRecord; split <;> simp [State.table]

@[simp] theorem State.discardRecord_dimming_luxValid (s : State) (c : RecordSource) :
    (s.discardRecord c).dimming.luxValid = s.dimming.luxValid := by unfold State.discardRecord; split <;> simp [State.table]

@[simp] theorem State.discardRecord_dimming_ceiling (s : State) (c : RecordSource) :
    (s.discardRecord c).dimming.ceiling = s.dimming.ceiling := by unfold State.discardRecord; split <;> simp [State.table]

@[simp] theorem State.discardRecord_reports_queue (s : State) (c : RecordSource) :
    (s.discardRecord c).reports.queue = s.reports.queue := by unfold State.discardRecord; split <;> simp [State.table]

@[simp] theorem State.discardRecord_reports_summaryCount (s : State) (c : RecordSource) :
    (s.discardRecord c).reports.summaryCount = s.reports.summaryCount := by unfold State.discardRecord; split <;> simp [State.table]

@[simp] theorem State.discardRecord_reports_inbound (s : State) (c : RecordSource) :
    (s.discardRecord c).reports.inbound = s.reports.inbound := by unfold State.discardRecord; split <;> simp [State.table]

@[simp] theorem State.discardRecord_tables_lock (s : State) (c : RecordSource) :
    (s.discardRecord c).tables.lock = s.tables.lock := by unfold State.discardRecord; split <;> simp [State.table]

@[simp] theorem State.discardRecord_tables_layoutMissing (s : State) (c : RecordSource) :
    (s.discardRecord c).tables.layoutMissing = s.tables.layoutMissing := by unfold State.discardRecord; split <;> simp [State.table]

/-! `State.arriveRecord` -/

@[simp] theorem State.arriveRecord_started (s : State) (c : RecordSource) (r : ReportRec) :
    (s.arriveRecord c r).started = s.started := by unfold State.arriveRecord; split <;> simp [State.table]

@[simp] theorem State.arriveRecord_trims (s : State) (c : RecordSource) (r : ReportRec) :
    (s.arriveRecord c r).trims = s.trims := by unfold State.arriveRecord; split <;> simp [State.table]

@[simp] theorem State.arriveRecord_time (s : State) (c : RecordSource) (r : ReportRec) :
    (s.arriveRecord c r).time = s.time := by unfold State.arriveRecord; split <;> simp [State.table]

@[simp] theorem State.arriveRecord_drive (s : State) (c : RecordSource) (r : ReportRec) :
    (s.arriveRecord c r).drive = s.drive := by unfold State.arriveRecord; split <;> simp [State.table]

@[simp] theorem State.arriveRecord_stream (s : State) (c : RecordSource) (r : ReportRec) :
    (s.arriveRecord c r).stream = s.stream := by unfold State.arriveRecord; split <;> simp [State.table]

@[simp] theorem State.arriveRecord_faults (s : State) (c : RecordSource) (r : ReportRec) :
    (s.arriveRecord c r).faults = s.faults := by unfold State.arriveRecord; split <;> simp [State.table]

@[simp] theorem State.arriveRecord_agent (s : State) (c : RecordSource) (r : ReportRec) :
    (s.arriveRecord c r).agent = s.agent := by unfold State.arriveRecord; split <;> simp [State.table]

@[simp] theorem State.arriveRecord_flash (s : State) (c : RecordSource) (r : ReportRec) :
    (s.arriveRecord c r).flash = s.flash := by unfold State.arriveRecord; split <;> simp [State.table]

@[simp] theorem State.arriveRecord_pending (s : State) (c : RecordSource) (r : ReportRec) :
    (s.arriveRecord c r).pending = s.pending := by unfold State.arriveRecord; split <;> simp [State.table]

@[simp] theorem State.arriveRecord_link_upU (s : State) (c : RecordSource) (r : ReportRec) :
    (s.arriveRecord c r).link.upU = s.link.upU := by unfold State.arriveRecord; split <;> simp [State.table]

@[simp] theorem State.arriveRecord_link_upD (s : State) (c : RecordSource) (r : ReportRec) :
    (s.arriveRecord c r).link.upD = s.link.upD := by unfold State.arriveRecord; split <;> simp [State.table]

@[simp] theorem State.arriveRecord_link_partnerU (s : State) (c : RecordSource) (r : ReportRec) :
    (s.arriveRecord c r).link.partnerU = s.link.partnerU := by unfold State.arriveRecord; split <;> simp [State.table]

@[simp] theorem State.arriveRecord_link_partnerD (s : State) (c : RecordSource) (r : ReportRec) :
    (s.arriveRecord c r).link.partnerD = s.link.partnerD := by unfold State.arriveRecord; split <;> simp [State.table]

@[simp] theorem State.arriveRecord_link_dHasBeenUp (s : State) (c : RecordSource) (r : ReportRec) :
    (s.arriveRecord c r).link.dHasBeenUp = s.link.dHasBeenUp := by unfold State.arriveRecord; split <;> simp [State.table]

@[simp] theorem State.arriveRecord_link_position (s : State) (c : RecordSource) (r : ReportRec) :
    (s.arriveRecord c r).link.position = s.link.position := by unfold State.arriveRecord; split <;> simp [State.table]

@[simp] theorem State.arriveRecord_link_uDiscard (s : State) (c : RecordSource) (r : ReportRec) :
    (s.arriveRecord c r).link.uDiscard = s.link.uDiscard := by unfold State.arriveRecord; split <;> simp [State.table]

@[simp] theorem State.arriveRecord_link_dDiscard (s : State) (c : RecordSource) (r : ReportRec) :
    (s.arriveRecord c r).link.dDiscard = s.link.dDiscard := by unfold State.arriveRecord; split <;> simp [State.table]

@[simp] theorem State.arriveRecord_link_forwardOverflow (s : State) (c : RecordSource) (r : ReportRec) :
    (s.arriveRecord c r).link.forwardOverflow = s.link.forwardOverflow := by unfold State.arriveRecord; split <;> simp [State.table]

@[simp] theorem State.arriveRecord_link_repliesLost (s : State) (c : RecordSource) (r : ReportRec) :
    (s.arriveRecord c r).link.repliesLost = s.link.repliesLost := by unfold State.arriveRecord; split <;> simp [State.table]

@[simp] theorem State.arriveRecord_link_uFailures (s : State) (c : RecordSource) (r : ReportRec) :
    (s.arriveRecord c r).link.uFailures = s.link.uFailures := by unfold State.arriveRecord; split <;> simp [State.table]

@[simp] theorem State.arriveRecord_link_forwardQueue (s : State) (c : RecordSource) (r : ReportRec) :
    (s.arriveRecord c r).link.forwardQueue = s.link.forwardQueue := by unfold State.arriveRecord; split <;> simp [State.table]

@[simp] theorem State.arriveRecord_link_replies (s : State) (c : RecordSource) (r : ReportRec) :
    (s.arriveRecord c r).link.replies = s.link.replies := by unfold State.arriveRecord; split <;> simp [State.table]

@[simp] theorem State.arriveRecord_capture_displayed (s : State) (c : RecordSource) (r : ReportRec) :
    (s.arriveRecord c r).capture.displayed = s.capture.displayed := by unfold State.arriveRecord; split <;> simp [State.table]

@[simp] theorem State.arriveRecord_capture_display (s : State) (c : RecordSource) (r : ReportRec) :
    (s.arriveRecord c r).capture.display = s.capture.display := by unfold State.arriveRecord; split <;> simp [State.table]

@[simp] theorem State.arriveRecord_capture_fill (s : State) (c : RecordSource) (r : ReportRec) :
    (s.arriveRecord c r).capture.fill = s.capture.fill := by unfold State.arriveRecord; split <;> simp [State.table]

@[simp] theorem State.arriveRecord_capture_incomplete (s : State) (c : RecordSource) (r : ReportRec) :
    (s.arriveRecord c r).capture.incomplete = s.capture.incomplete := by unfold State.arriveRecord; split <;> simp [State.table]

@[simp] theorem State.arriveRecord_dimming_override (s : State) (c : RecordSource) (r : ReportRec) :
    (s.arriveRecord c r).dimming.override = s.dimming.override := by unfold State.arriveRecord; split <;> simp [State.table]

@[simp] theorem State.arriveRecord_dimming_lux (s : State) (c : RecordSource) (r : ReportRec) :
    (s.arriveRecord c r).dimming.lux = s.dimming.lux := by unfold State.arriveRecord; split <;> simp [State.table]

@[simp] theorem State.arriveRecord_dimming_luxValid (s : State) (c : RecordSource) (r : ReportRec) :
    (s.arriveRecord c r).dimming.luxValid = s.dimming.luxValid := by unfold State.arriveRecord; split <;> simp [State.table]

@[simp] theorem State.arriveRecord_dimming_ceiling (s : State) (c : RecordSource) (r : ReportRec) :
    (s.arriveRecord c r).dimming.ceiling = s.dimming.ceiling := by unfold State.arriveRecord; split <;> simp [State.table]

@[simp] theorem State.arriveRecord_reports_summaryCount (s : State) (c : RecordSource) (r : ReportRec) :
    (s.arriveRecord c r).reports.summaryCount = s.reports.summaryCount := by unfold State.arriveRecord; split <;> simp [State.table]

@[simp] theorem State.arriveRecord_reports_inbound (s : State) (c : RecordSource) (r : ReportRec) :
    (s.arriveRecord c r).reports.inbound = s.reports.inbound := by unfold State.arriveRecord; split <;> simp [State.table]

@[simp] theorem State.arriveRecord_tables_lock (s : State) (c : RecordSource) (r : ReportRec) :
    (s.arriveRecord c r).tables.lock = s.tables.lock := by unfold State.arriveRecord; split <;> simp [State.table]

@[simp] theorem State.arriveRecord_tables_layoutMissing (s : State) (c : RecordSource) (r : ReportRec) :
    (s.arriveRecord c r).tables.layoutMissing = s.tables.layoutMissing := by unfold State.arriveRecord; split <;> simp [State.table]

/-! `State.summary` -/

@[simp] theorem State.summary_started (s : State) :
    (s.summary).started = s.started := by unfold State.summary; split <;> simp [State.table]

@[simp] theorem State.summary_trims (s : State) :
    (s.summary).trims = s.trims := by unfold State.summary; split <;> simp [State.table]

@[simp] theorem State.summary_time (s : State) :
    (s.summary).time = s.time := by unfold State.summary; split <;> simp [State.table]

@[simp] theorem State.summary_drive (s : State) :
    (s.summary).drive = s.drive := by unfold State.summary; split <;> simp [State.table]

@[simp] theorem State.summary_stream (s : State) :
    (s.summary).stream = s.stream := by unfold State.summary; split <;> simp [State.table]

@[simp] theorem State.summary_faults (s : State) :
    (s.summary).faults = s.faults := by unfold State.summary; split <;> simp [State.table]

@[simp] theorem State.summary_agent (s : State) :
    (s.summary).agent = s.agent := by unfold State.summary; split <;> simp [State.table]

@[simp] theorem State.summary_flash (s : State) :
    (s.summary).flash = s.flash := by unfold State.summary; split <;> simp [State.table]

@[simp] theorem State.summary_pending (s : State) :
    (s.summary).pending = s.pending := by unfold State.summary; split <;> simp [State.table]

@[simp] theorem State.summary_link_upU (s : State) :
    (s.summary).link.upU = s.link.upU := by unfold State.summary; split <;> simp [State.table]

@[simp] theorem State.summary_link_upD (s : State) :
    (s.summary).link.upD = s.link.upD := by unfold State.summary; split <;> simp [State.table]

@[simp] theorem State.summary_link_partnerU (s : State) :
    (s.summary).link.partnerU = s.link.partnerU := by unfold State.summary; split <;> simp [State.table]

@[simp] theorem State.summary_link_partnerD (s : State) :
    (s.summary).link.partnerD = s.link.partnerD := by unfold State.summary; split <;> simp [State.table]

@[simp] theorem State.summary_link_dHasBeenUp (s : State) :
    (s.summary).link.dHasBeenUp = s.link.dHasBeenUp := by unfold State.summary; split <;> simp [State.table]

@[simp] theorem State.summary_link_position (s : State) :
    (s.summary).link.position = s.link.position := by unfold State.summary; split <;> simp [State.table]

@[simp] theorem State.summary_link_uDiscard (s : State) :
    (s.summary).link.uDiscard = s.link.uDiscard := by unfold State.summary; split <;> simp [State.table]

@[simp] theorem State.summary_link_dDiscard (s : State) :
    (s.summary).link.dDiscard = s.link.dDiscard := by unfold State.summary; split <;> simp [State.table]

@[simp] theorem State.summary_link_forwardOverflow (s : State) :
    (s.summary).link.forwardOverflow = s.link.forwardOverflow := by unfold State.summary; split <;> simp [State.table]

@[simp] theorem State.summary_link_repliesLost (s : State) :
    (s.summary).link.repliesLost = s.link.repliesLost := by unfold State.summary; split <;> simp [State.table]

@[simp] theorem State.summary_link_uFailures (s : State) :
    (s.summary).link.uFailures = s.link.uFailures := by unfold State.summary; split <;> simp [State.table]

@[simp] theorem State.summary_link_forwardQueue (s : State) :
    (s.summary).link.forwardQueue = s.link.forwardQueue := by unfold State.summary; split <;> simp [State.table]

@[simp] theorem State.summary_link_replies (s : State) :
    (s.summary).link.replies = s.link.replies := by unfold State.summary; split <;> simp [State.table]

@[simp] theorem State.summary_capture_displayed (s : State) :
    (s.summary).capture.displayed = s.capture.displayed := by unfold State.summary; split <;> simp [State.table]

@[simp] theorem State.summary_capture_display (s : State) :
    (s.summary).capture.display = s.capture.display := by unfold State.summary; split <;> simp [State.table]

@[simp] theorem State.summary_capture_fill (s : State) :
    (s.summary).capture.fill = s.capture.fill := by unfold State.summary; split <;> simp [State.table]

@[simp] theorem State.summary_capture_incomplete (s : State) :
    (s.summary).capture.incomplete = s.capture.incomplete := by unfold State.summary; split <;> simp [State.table]

@[simp] theorem State.summary_dimming_override (s : State) :
    (s.summary).dimming.override = s.dimming.override := by unfold State.summary; split <;> simp [State.table]

@[simp] theorem State.summary_dimming_lux (s : State) :
    (s.summary).dimming.lux = s.dimming.lux := by unfold State.summary; split <;> simp [State.table]

@[simp] theorem State.summary_dimming_luxValid (s : State) :
    (s.summary).dimming.luxValid = s.dimming.luxValid := by unfold State.summary; split <;> simp [State.table]

@[simp] theorem State.summary_dimming_ceiling (s : State) :
    (s.summary).dimming.ceiling = s.dimming.ceiling := by unfold State.summary; split <;> simp [State.table]

@[simp] theorem State.summary_reports_summaryCount (s : State) :
    (s.summary).reports.summaryCount = s.reports.summaryCount := by unfold State.summary; split <;> simp [State.table]

@[simp] theorem State.summary_reports_inbound (s : State) :
    (s.summary).reports.inbound = s.reports.inbound := by unfold State.summary; split <;> simp [State.table]

@[simp] theorem State.summary_tables_lock (s : State) :
    (s.summary).tables.lock = s.tables.lock := by unfold State.summary; split <;> simp [State.table]

@[simp] theorem State.summary_tables_layoutMissing (s : State) :
    (s.summary).tables.layoutMissing = s.tables.layoutMissing := by unfold State.summary; split <;> simp [State.table]

/-! `State.arriveAll` -/

@[simp] theorem State.arriveAll_started (s : State) (l : List ReportRec) :
    (s.arriveAll l).started = s.started := by induction l generalizing s <;> simp [State.arriveAll, *]

@[simp] theorem State.arriveAll_trims (s : State) (l : List ReportRec) :
    (s.arriveAll l).trims = s.trims := by induction l generalizing s <;> simp [State.arriveAll, *]

@[simp] theorem State.arriveAll_time (s : State) (l : List ReportRec) :
    (s.arriveAll l).time = s.time := by induction l generalizing s <;> simp [State.arriveAll, *]

@[simp] theorem State.arriveAll_drive (s : State) (l : List ReportRec) :
    (s.arriveAll l).drive = s.drive := by induction l generalizing s <;> simp [State.arriveAll, *]

@[simp] theorem State.arriveAll_stream (s : State) (l : List ReportRec) :
    (s.arriveAll l).stream = s.stream := by induction l generalizing s <;> simp [State.arriveAll, *]

@[simp] theorem State.arriveAll_faults (s : State) (l : List ReportRec) :
    (s.arriveAll l).faults = s.faults := by induction l generalizing s <;> simp [State.arriveAll, *]

@[simp] theorem State.arriveAll_agent (s : State) (l : List ReportRec) :
    (s.arriveAll l).agent = s.agent := by induction l generalizing s <;> simp [State.arriveAll, *]

@[simp] theorem State.arriveAll_flash (s : State) (l : List ReportRec) :
    (s.arriveAll l).flash = s.flash := by induction l generalizing s <;> simp [State.arriveAll, *]

@[simp] theorem State.arriveAll_pending (s : State) (l : List ReportRec) :
    (s.arriveAll l).pending = s.pending := by induction l generalizing s <;> simp [State.arriveAll, *]

@[simp] theorem State.arriveAll_link_upU (s : State) (l : List ReportRec) :
    (s.arriveAll l).link.upU = s.link.upU := by induction l generalizing s <;> simp [State.arriveAll, *]

@[simp] theorem State.arriveAll_link_upD (s : State) (l : List ReportRec) :
    (s.arriveAll l).link.upD = s.link.upD := by induction l generalizing s <;> simp [State.arriveAll, *]

@[simp] theorem State.arriveAll_link_partnerU (s : State) (l : List ReportRec) :
    (s.arriveAll l).link.partnerU = s.link.partnerU := by induction l generalizing s <;> simp [State.arriveAll, *]

@[simp] theorem State.arriveAll_link_partnerD (s : State) (l : List ReportRec) :
    (s.arriveAll l).link.partnerD = s.link.partnerD := by induction l generalizing s <;> simp [State.arriveAll, *]

@[simp] theorem State.arriveAll_link_dHasBeenUp (s : State) (l : List ReportRec) :
    (s.arriveAll l).link.dHasBeenUp = s.link.dHasBeenUp := by induction l generalizing s <;> simp [State.arriveAll, *]

@[simp] theorem State.arriveAll_link_position (s : State) (l : List ReportRec) :
    (s.arriveAll l).link.position = s.link.position := by induction l generalizing s <;> simp [State.arriveAll, *]

@[simp] theorem State.arriveAll_link_uDiscard (s : State) (l : List ReportRec) :
    (s.arriveAll l).link.uDiscard = s.link.uDiscard := by induction l generalizing s <;> simp [State.arriveAll, *]

@[simp] theorem State.arriveAll_link_dDiscard (s : State) (l : List ReportRec) :
    (s.arriveAll l).link.dDiscard = s.link.dDiscard := by induction l generalizing s <;> simp [State.arriveAll, *]

@[simp] theorem State.arriveAll_link_forwardOverflow (s : State) (l : List ReportRec) :
    (s.arriveAll l).link.forwardOverflow = s.link.forwardOverflow := by induction l generalizing s <;> simp [State.arriveAll, *]

@[simp] theorem State.arriveAll_link_repliesLost (s : State) (l : List ReportRec) :
    (s.arriveAll l).link.repliesLost = s.link.repliesLost := by induction l generalizing s <;> simp [State.arriveAll, *]

@[simp] theorem State.arriveAll_link_uFailures (s : State) (l : List ReportRec) :
    (s.arriveAll l).link.uFailures = s.link.uFailures := by induction l generalizing s <;> simp [State.arriveAll, *]

@[simp] theorem State.arriveAll_link_forwardQueue (s : State) (l : List ReportRec) :
    (s.arriveAll l).link.forwardQueue = s.link.forwardQueue := by induction l generalizing s <;> simp [State.arriveAll, *]

@[simp] theorem State.arriveAll_link_replies (s : State) (l : List ReportRec) :
    (s.arriveAll l).link.replies = s.link.replies := by induction l generalizing s <;> simp [State.arriveAll, *]

@[simp] theorem State.arriveAll_capture_displayed (s : State) (l : List ReportRec) :
    (s.arriveAll l).capture.displayed = s.capture.displayed := by induction l generalizing s <;> simp [State.arriveAll, *]

@[simp] theorem State.arriveAll_capture_display (s : State) (l : List ReportRec) :
    (s.arriveAll l).capture.display = s.capture.display := by induction l generalizing s <;> simp [State.arriveAll, *]

@[simp] theorem State.arriveAll_capture_fill (s : State) (l : List ReportRec) :
    (s.arriveAll l).capture.fill = s.capture.fill := by induction l generalizing s <;> simp [State.arriveAll, *]

@[simp] theorem State.arriveAll_capture_incomplete (s : State) (l : List ReportRec) :
    (s.arriveAll l).capture.incomplete = s.capture.incomplete := by induction l generalizing s <;> simp [State.arriveAll, *]

@[simp] theorem State.arriveAll_dimming_override (s : State) (l : List ReportRec) :
    (s.arriveAll l).dimming.override = s.dimming.override := by induction l generalizing s <;> simp [State.arriveAll, *]

@[simp] theorem State.arriveAll_dimming_lux (s : State) (l : List ReportRec) :
    (s.arriveAll l).dimming.lux = s.dimming.lux := by induction l generalizing s <;> simp [State.arriveAll, *]

@[simp] theorem State.arriveAll_dimming_luxValid (s : State) (l : List ReportRec) :
    (s.arriveAll l).dimming.luxValid = s.dimming.luxValid := by induction l generalizing s <;> simp [State.arriveAll, *]

@[simp] theorem State.arriveAll_dimming_ceiling (s : State) (l : List ReportRec) :
    (s.arriveAll l).dimming.ceiling = s.dimming.ceiling := by induction l generalizing s <;> simp [State.arriveAll, *]

@[simp] theorem State.arriveAll_reports_summaryCount (s : State) (l : List ReportRec) :
    (s.arriveAll l).reports.summaryCount = s.reports.summaryCount := by induction l generalizing s <;> simp [State.arriveAll, *]

@[simp] theorem State.arriveAll_reports_inbound (s : State) (l : List ReportRec) :
    (s.arriveAll l).reports.inbound = s.reports.inbound := by induction l generalizing s <;> simp [State.arriveAll, *]

@[simp] theorem State.arriveAll_tables_lock (s : State) (l : List ReportRec) :
    (s.arriveAll l).tables.lock = s.tables.lock := by induction l generalizing s <;> simp [State.arriveAll, *]

@[simp] theorem State.arriveAll_tables_layoutMissing (s : State) (l : List ReportRec) :
    (s.arriveAll l).tables.layoutMissing = s.tables.layoutMissing := by induction l generalizing s <;> simp [State.arriveAll, *]

/-- A record joins as R151 and R154 say. -/
theorem State.joinQueue_joined {s : State} (h : s.storage = []) (r : ReportRec) : Joined s r (s.joinQueue r) := by
  let u : State := { s with reports := { s.reports with queue := s.reports.queue ++ [r] } }
  have hu : u.storage = [] := h
  have hm : u.marks = s.marks := rfl
  have hj : s.joinQueue r = u.checkAssert.grantU := rfl
  have hc : u.checkAssert =
      if s.marks.1 ≤ s.reports.queue.length + 1 ∧ s.reports.holdMark = false then u.renewHold else u := by
    simp only [State.checkAssert, State.readHigh_quiet hu, hm]
    simp [u]
  refine ⟨fun hc1 => ⟨u.renewHold, State.renewHold_sent hu, ?_⟩, fun hc2 => ?_⟩
  · rw [hj, hc, if_pos hc1]
    exact State.grantU_granted _
  · have hn : ¬ (s.marks.1 ≤ s.reports.queue.length + 1 ∧ s.reports.holdMark = false) := by
      rintro ⟨h1, h2⟩
      rcases hc2 with h3 | h3
      · omega
      · simp [h2] at h3
    rw [hj, hc, if_neg hn]
    exact State.grantU_granted _

/-- A discard does for the hold what R157 says. -/
theorem State.discardHold_quiet {s : State} (h : s.storage = []) :
    s.discardHold = match s.reports.lastHold with
      | some x => if s.reports.holdMark = true ∧ s.refreshNow ≤ (s.time.count - x).toNat
          then s.sendHold (s.presentOrDefault .policy 42) else s
      | none => s := by
  simp only [State.discardHold, State.readPause_quiet h, refreshInterval, State.refreshNow, State.now]
  rfl

/-- A discard renews the hold when the last HOLD is old enough, and does nothing for it otherwise (R157). -/
theorem State.discardHold_sent {s : State} (h : s.storage = []) :
    (∀ x, s.reports.lastHold = some x → s.reports.holdMark = true → s.refreshNow ≤ (s.time.count - x).toNat →
      HoldSent s s.discardHold) ∧
    (s.reports.holdMark = false ∨
      (∀ x, s.reports.lastHold = some x → (s.time.count - x).toNat < s.refreshNow) → s.discardHold = s) := by
  rw [State.discardHold_quiet h]
  cases hl : s.reports.lastHold with
  | none => exact ⟨fun x hx => absurd hx (by simp), fun _ => rfl⟩
  | some y =>
    refine ⟨fun x hx hm hr => ?_, fun hn => ?_⟩
    · cases hx
      simp only
      rw [if_pos ⟨hm, hr⟩]
      exact State.sendHold_sent s
    · simp only
      rw [if_neg]
      rintro ⟨h1, h2⟩
      rcases hn with h3 | h3
      · simp [h1] at h3
      · have := h3 y rfl
        omega

/-- A record is discarded as R151 and R157 say. -/
theorem State.discardRecord_discarded {s : State} (h : s.storage = []) (src : RecordSource) :
    Discarded s src (s.discardRecord src) := by
  cases src
  · exact State.discardHold_sent
      (s := { s with reports := { s.reports with lostLocal := saturate counterMax s.reports.lostLocal } }) h
  · exact State.discardHold_sent
      (s := { s with reports := { s.reports with lostForwarded := saturate counterMax s.reports.lostForwarded } }) h

/-- A record arrives as R151 says. -/
theorem State.arriveRecord_arrived {s : State} (h : s.storage = []) (src : RecordSource) (r : ReportRec) :
    Arrived s src r (s.arriveRecord src r) := by
  unfold Arrived State.arriveRecord queueMax
  refine ⟨fun hl => ?_, fun hl => ?_⟩
  · rw [if_pos hl]
    exact State.joinQueue_joined h r
  · rw [if_neg (Nat.not_lt.mpr hl)]
    exact State.discardRecord_discarded h src

/-- While the storage shows no error, an arrival leaves it so. -/
theorem State.arriveRecord_storage_quiet {s : State} (h : s.storage = []) (src : RecordSource) (r : ReportRec) :
    (s.arriveRecord src r).storage = [] := by
  unfold State.arriveRecord
  split
  · have hu : ({ s with reports := { s.reports with queue := s.reports.queue ++ [r] } } : State).storage = [] := h
    simp only [State.joinQueue, State.checkAssert, State.readHigh_quiet hu, State.grantU_storage, State.renewHold,
      State.readPause_quiet hu]
    split <;> simp [h]
  · cases src <;> simp only [State.discardRecord] <;> rw [State.discardHold_quiet (by simpa using h)] <;> split <;>
      (try split) <;> simp [h]

/-- The records of a delivery arrive one after another (R149). -/
theorem State.arriveAll_arrived (l : List ReportRec) : ∀ {s : State}, s.storage = [] → ArrivedAll s l (s.arriveAll l) := by
  induction l with
  | nil => intro s _; rfl
  | cons r rs ih =>
    intro s h
    exact ⟨_, State.arriveRecord_arrived h _ _, ih (by simpa using State.arriveRecord_storage_quiet h _ _)⟩

end Sys2Proof.Machine
end

