-- ==== Sys2Proof/Tests/Slice0.lean ====
section
/-! SUPPORT. Small tests: what the well-formedness check refuses, the manual's worked examples with the values its tables
give, and for each obligation with hypotheses a state and operands that meet them. -/

namespace Sys2Proof.Tests

open Machine

set_option Elab.async false

/-! ## Helpers -/

/-- The state that a command leaves. -/
def after (c : Instr) (s : State) : State :=
  match exec c s with
  | .next t => t
  | .fault _ => s
  | .refused _ => s

/-- A part that has started up, both ports UP, at position 5. -/
def base : State :=
  { State.reset with
    started := true
    link := { Link.reset with upU := true, upD := true, dHasBeenUp := true, position := 5 } }

/-- One entry of an active bank replaced. -/
def poke (s : State) (t : Table) (i v : Nat) : State :=
  s.setTable t { s.table t with active := (s.table t).active.set i (BitVec.ofNat 16 v) }

/-- Some entries of an active bank marked bad. -/
def mark (s : State) (t : Table) (bad : List Nat) : State := s.setTable t { s.table t with bad := bad }

/-- A shadow put into a table. -/
def withShadow (s : State) (t : Table) (x : Shadow) : State := s.setTable t { s.table t with shadow := x }

/-- The header of a request under POSITION for position 5, with tag 17. -/
def here : MgmtHead := ⟨0, 5, 17⟩

/-- The header of a request under ALL. -/
def toAll : MgmtHead := ⟨2, 0, 0⟩

/-- A fault record in a slot, with hits 1 and misses 0. -/
def recordIn (slot : Nat) (scope : Option Nat) (k : FaultKind) (x : RecordState) (d : Detail) : FaultRecord :=
  ⟨slot, scope, k, x, 1, 0, ⟨1, 0, 0, false⟩, ⟨1, 0, 0, false⟩, d⟩

/-- The part with these fault records. -/
def withRecords (s : State) (rs : List FaultRecord) : State := { s with faults := { s.faults with records := rs } }

/-- A report record whose fields are all 0. -/
def zeroRecord : ReportRec := ⟨0, 0, 0, 0, 0, 0, 0, 0, 0, 0, 0, 0, 0, 0, 0, 0⟩

/-! ## What the well-formedness check refuses -/

theorem test_pixel_without_samples_refused : (Instr.pixelFrame 0 0 [] 0).wellFormed = false := by decide

theorem test_pixel_with_even_count_and_fill_refused :
    (Instr.pixelFrame 0 0 [Pixel.black, Pixel.black] 1).wellFormed = false := by decide

theorem test_pixel_with_1025_samples_refused :
    (Instr.pixelFrame 0 0 (List.replicate 1025 Pixel.black) 0).wellFormed = false := by decide +kernel

theorem test_arguments_of_4795_bytes_refused :
    (Instr.identify toAll (List.replicate 4795 0)).wellFormed = false := by decide +kernel

theorem test_listed_code_refused_as_unknown :
    (Instr.unknownRequest toAll 0x10 []).wellFormed = false ∧ (Instr.unknownRequest toAll 0x11 []).wellFormed = true := by
  decide

theorem test_short_reply_refused : (Instr.forwardedReply [1, 2, 3, 4]).wellFormed = false := by decide

theorem test_module_32_refused : (Instr.pollResult 32 0 0 0 none).wellFormed = false := by decide

theorem test_empty_deliveries_refused :
    (Instr.faultEvaluationDelivery []).wellFormed = false ∧ (Instr.localReportDelivery []).wellFormed = false := by decide

theorem test_condition_kind_refused_as_evaluation :
    (Instr.faultEvaluationDelivery [⟨.streamLost, none, true, .absent⟩]).wellFormed = false := by decide

theorem test_cabinet_kind_with_module_refused :
    (Instr.faultEvaluationDelivery [⟨.motion, some 3, true, .absent⟩]).wellFormed = false := by decide

theorem test_empty_string_set_refused :
    (Instr.faultEvaluationDelivery [⟨.openString, some 3, true, .strings 0⟩]).wellFormed = false := by decide

theorem test_detail_without_detection_refused :
    (Instr.faultEvaluationDelivery [⟨.overTemp, some 3, false, .temperature 20⟩]).wellFormed = false := by decide

theorem test_own_condition_refused : (Instr.conditionDelivery .cabinetDark true).wellFormed = false := by decide

theorem test_latched_cabinet_report_refused :
    (Instr.localReportDelivery [⟨.latched, some .motion, none, .absent⟩]).wellFormed = false ∧
    (Instr.localReportDelivery [⟨.summary, none, none, .absent⟩]).wellFormed = false ∧
    (Instr.localReportDelivery [⟨.restored, none, some 32, .absent⟩]).wellFormed = false := by decide

/-! ## Frames as bytes -/

/-- The published check value of this polynomial, start value, bit order and complement (CRC-32/BZIP2) for the nine digits
1 to 9; not in the manual. -/
theorem test_check_of_nine_digits :
    crc32 [0x31, 0x32, 0x33, 0x34, 0x35, 0x36, 0x37, 0x38, 0x39] = 0xFC891918 := by decide +kernel

/-- A SYNC written out by Table 1-3: kind 01h, length 7, frame 0102h, content 0304h, lux 0506h, flags 03h. -/
theorem test_sync_bytes :
    base.frameReceived .u
      ([0x01, 0x00, 0x07, 0x01, 0x02, 0x03, 0x04, 0x05, 0x06, 0x03] ++
        checkBytes (crc32 [0x01, 0x00, 0x07, 0x01, 0x02, 0x03, 0x04, 0x05, 0x06, 0x03])) =
      .syncFrame 0x0102 0x0304 0x0506 0x03 := by decide +kernel

/-- A PIXEL frame of one sample by Table 1-4: its nine half-bytes 123h, 456h, 789h and the fill Ah. -/
theorem test_pixel_bytes :
    base.frameReceived .u
      ([0x02, 0x00, 0x0B, 0x00, 0x2C, 0x02, 0xBC, 0x00, 0x01, 0x12, 0x34, 0x56, 0x78, 0x9A] ++
        checkBytes (crc32 [0x02, 0x00, 0x0B, 0x00, 0x2C, 0x02, 0xBC, 0x00, 0x01, 0x12, 0x34, 0x56, 0x78, 0x9A])) =
      .pixelFrame 44 700 [⟨0x123, 0x456, 0x789⟩] 0xA := by decide +kernel

/-- A DRIFT-SET under POSITION 5 with tag 0011h by Table 1-5, drift −2000 (F830h). -/
theorem test_request_bytes :
    base.frameReceived .u
      ([0x03, 0x00, 0x08, 0x00, 0x00, 0x05, 0x00, 0x11, 0x09, 0xF8, 0x30] ++
        checkBytes (crc32 [0x03, 0x00, 0x08, 0x00, 0x00, 0x05, 0x00, 0x11, 0x09, 0xF8, 0x30])) =
      .driftSet here [0xF8, 0x30] := by decide +kernel

/-- A frame whose check does not match is a check failure (R2). -/
theorem test_bad_check : base.frameReceived .u [0x04, 0x00, 0x01, 0x07, 0, 0, 0, 0] = .frameCheckFailure .u := by
  decide +kernel

/-! ## The cascade link -/

/-- Example: enumerating a chain. Counter 61 gives position 62 and counter 62; counter 63 gives position 0 and 63. -/
theorem test_enumeration :
    (after (.enumFrame 61) base).link.position = 62 ∧ (after (.enumFrame 61) base).out = [.sendD (.enum 62)] ∧
    (after (.enumFrame 63) base).link.position = 0 ∧ (after (.enumFrame 63) base).out = [.sendD (.enum 63)] := by
  decide +kernel

/-- Example: a HOLD(200) while REPORT b is being sent abandons it, and the timer's expiry starts it again. -/
theorem test_hold_abandons_report :
    let s : State := { base with
      link := { base.link with sendingU := .report true }, reports := { base.reports with queue := [zeroRecord] } }
    let t := after (.holdFrame 200) s
    t.out = [.abortU] ∧ t.link.sendingU = .idle ∧
    (after .inboundHoldExpiry { t with time := { t.time with count := 200 } }).link.sendingU = .report true ∧
    after .inboundHoldExpiry { t with time := { t.time with count := 199 } } =
      { t with time := { t.time with count := 199 } } := by decide +kernel

/-- Example: four replies wait; a forwarded one then counts in the D discard count, an own one in the replies lost count. -/
theorem test_full_reply_buffer :
    let s : State := { base with
      link := { base.link with replies := List.replicate 4 (.forwarded []), sendingU := .reply } }
    (after (.forwardedReply [1, 2, 3, 4, 5]) s).link.dDiscard = 1 ∧ (after (.identify here []) s).link.repliesLost = 1 ∧
    (after .replySent s).link.replies.length = 3 := by decide +kernel

/-- The forward queue holds 4 frames; the fifth is counted, and its local delivery is unaffected (R9). -/
theorem test_forward_overflow :
    let s : State := { base with
      link := { base.link with forwardQueue := List.replicate 4 (.enum 0), sendingD := .forwarded } }
    (after (.enumFrame 7) s).link.forwardOverflow = 1 ∧ (after (.enumFrame 7) s).link.position = 8 := by decide +kernel

/-- The body of an own REPLY by R7: position 62, tag 0123h, code 0Eh, status NOT_FOUND (7). -/
theorem test_reply_head : replyHead ⟨62, 0x0123, 0x0E, .notFound, .empty⟩ = [62, 0x01, 0x23, 0x0E, 7] := by decide

/-! ## Frame Capture -/

/-- The cabinet of Example: placing a segment. -/
def window : Geometry := ⟨512, 256, 256, 128, 4, 2, 64, 64⟩

/-- Example: placing a segment. Of 100 samples from column 700 on line 300, 68 fall on window line 44 at columns 188..255. -/
theorem test_segment_placed :
    ((writeSegment window 44 700 (List.replicate 100 ⟨1, 2, 3⟩) ([], [])).2 =
      (List.range 68).map fun i => 44 * 256 + 188 + i) ∧
    (writeSegment window 44 4000 (List.replicate 200 ⟨1, 2, 3⟩) ([], [])).2 = [] := by decide +kernel

/-- The DISPLAY of the dwell example: content 9, dwell 1, under Dw = 4, with an open frame of one pixel. -/
def dwellState (content : Word) (dwell : Nat) (coverage : List Nat) : State :=
  { poke base .limits 4 4 with
    capture := ⟨some ⟨9, frameSignature ⟨0, 0, 1, 1, 1, 1, 1, 1⟩ [], 0, dwell⟩,
      some ⟨0, content, ⟨0, 0, 1, 1, 1, 1, 1, 1⟩, coverage⟩, [], [(0, ⟨1, 0, 0⟩)], 0⟩ }

/-- Example: content change against the dwell limit, rows s3, s4, s6 and s7. -/
theorem test_dwell_rows :
    ((dwellState 12 1 [0]).closeFrame.1 = .early ∧ (dwellState 12 2 []).closeFrame.1 = .incomplete) ∧
    ((dwellState 9 4 [0]).closeFrame.1 = .motion ∧ (dwellState 12 5 [0]).closeFrame.1 = .swap) ∧
    (after (.frameCaptureSync 8 3) (dwellState 12 5 [0])).capture.displayed.map (fun d => (d.content, d.dwell)) =
      some (12, 1) := by decide +kernel

/-! ## The Luminance Pipeline -/

/-- The reference case and the rows of The limits. -/
theorem test_drive_words :
    driveWord (gammaStage 14820 15060 2008) (trimStage 3900 (-2)) 600 1024 = 8300 ∧
    driveWord (gammaStage 14820 15060 2008) (trimStage 3900 (-2)) 600 512 = 4150 ∧
    driveWord (gammaStage 65535 65535 4095) (trimStage 4095 0) 1024 1024 = 65519 ∧
    driveWord (gammaStage 65280 65535 4095) (trimStage 4095 0) 1024 1024 = 65503 ∧
    driveWord (gammaStage 32000 32256 2008) (trimStage 4095 0) 1024 1024 = 32120 ∧
    driveWord (gammaStage 65535 65535 4095) (trimStage 4095 0) 1 1024 = 63 ∧
    driveWord (gammaStage 14820 15060 2008) (trimStage 3900 (-2)) 1 1024 = 13 ∧
    driveWord (gammaStage 14820 15060 2008) (trimStage 4090 3) 1024 1024 = 14936 ∧ trimStage 100 (-13) = 0 := by decide

/-- Locating the sample: module 5, column 10, line 3. -/
theorem test_sample_position : (⟨256, 4, 64, 64⟩ : Mapping).position 5 10 3 = 17226 := by decide

/-- A bad point takes half the sum of its neighbours (R167): the default points 124 and 126 give 32000 for point 125. -/
theorem test_gamma_substitute :
    ((mark base .gamma [125]).gammaPoint .red 125).1 = 32000 ∧ ((mark base .gamma [256]).gammaPoint .red 256).1 = 65280 ∧
    ((mark base .gamma [124, 125, 126]).gammaPoint .red 125).1 = 32000 := by decide +kernel

/-- A bad coefficient takes entry 96, trimmed, in its place (R49, R52); with entry 96 bad too the colour is dark whatever
its trim (R49). -/
theorem test_fallback_coefficient :
    let s := fun bad => ({ mark (poke base .calibration 96 4000) .calibration bad with trims := zeroTrims.set 1 15 } : State)
    ((s [1]).colourInput 0 [] .green).1.coefficient = 4095 ∧ ((s [1, 96]).colourInput 0 [] .green).1.coefficient = 0 := by
  decide +kernel

/-- A LAYOUT swap from 8 modules to 6 zeroes the trims of 6 and above, loaded ones of modules that never existed included; one
that leaves the count at 8 changes none (R58). -/
theorem test_trims_at_swap :
    let trims := List.replicate 96 (4 : Int)
    zeroRemovedTrims trims 8 6 = List.replicate 18 4 ++ List.replicate 78 0 ∧ zeroRemovedTrims trims 8 8 = trims := by
  decide +kernel

/-- Nudging against the clamp: green of module 6 from +4 UP to +5, red and blue kept; at +15 it stays. -/
theorem test_nudge :
    let s : State := { base with
      drive := { base.drive with geometry := ⟨8, 4, 64, 64, 8, true, 12⟩ }
      trims := (zeroTrims.set 19 4).set 20 (-1) }
    (trimNudge [6, 2, 0] s).1 = ⟨.ok, .trims 6 0 5 (-1)⟩ ∧ nudge true 15 = 15 ∧ nudge false (-16) = -16 ∧
    (trimNudge [8, 2, 0] s).1 = ⟨.range, .empty⟩ ∧ (trimNudge [6, 8, 0] s).1 = ⟨.badArgs, .empty⟩ := by decide +kernel

/-! ## The Drive Port -/

/-- Scan order within a group (R101): from start line 3 of 8, sequential and interleaved. -/
theorem test_scan_order :
    scanOrder ⟨1, 1, 16, 8, 8, false, 1⟩ 3 = [3, 4, 5, 6, 7, 0, 1, 2] ∧
    scanOrder ⟨1, 1, 16, 8, 8, true, 1⟩ 3 = [3, 2, 1, 0, 7, 6, 5, 4] := by decide

/-- A part of two modules, one line high to each scan group, whose words of module 0 stand to be emitted. -/
def emitting : State :=
  { base with drive := { base.drive with geometry := ⟨2, 2, 16, 16, 1, false, 1⟩, unemitted := some ⟨0, [(0, [(1, 2, 3)])]⟩ } }

/-- The request for module 1 comes when the last word of module 0 is out, and that for module 0 of the next pass when the last
word of module 1 is (R100). -/
theorem test_pass_goes_on :
    let t := after .moduleComputation emitting
    t.out = [.driveWords 0 [(0, [(1, 2, 3)])]] ∧ t.drive.position = 1 ∧ t.drive.unemitted.map Emission.module = some 1 ∧
    (after .moduleComputation t).drive.position = 0 ∧ (after .moduleComputation t).out.length = 2 := by decide +kernel

/-- A LAYOUT swap discards the words not yet emitted and begins a pass at module 0 (R103, step 2). -/
theorem test_swap_discards_words :
    let t := after (.tableStoreSync 3) (withShadow emitting .layout (.posted layoutDefault 3))
    t.drive.unemitted = none ∧ t.drive.position = 0 ∧ t.out.length = 1 ∧
    (after .moduleComputation t).out.length = 1 ∧ (emitting.soft).drive.unemitted = none := by decide +kernel

/-- The part of the worked sweep: 3 modules, S = 12, n = 1. -/
def sweepState : State :=
  { poke base .policy 39 1 with drive := ⟨⟨3, 3, 16, 16, 4, true, 12⟩, 0, 0, 1, 2, 2, some ⟨1, 1, 0⟩, none⟩ }

/-- Worked sweep: the tick that finds module 1 unanswered polls module 2 as number 2 and wraps the pointer. -/
theorem test_sweep_tick :
    let t := after .sweepCountSync sweepState
    t.drive.sweepCount = 0 ∧ t.drive.inFlight = some ⟨2, 2, 0⟩ ∧ t.drive.sweepPointer = 0 ∧
    t.handed = [.faultEvaluationDelivery [⟨.driverSilent, some 1, true, .absent⟩]] ∧
    after (.pollResult 1 1 0 0 (some 62)) t = t := by decide +kernel

/-- Worked sweep: open {3, 9, 14} with 83 °C gives OPEN {3, 9} and no OVER_TEMP evaluation. -/
theorem test_poll_result :
    (after (.pollResult 1 1 0x4208 0 (some 83)) sweepState).handed =
      [.faultEvaluationDelivery [⟨.openString, some 1, true, .strings 0x0208⟩, ⟨.shortString, some 1, false, .absent⟩,
        ⟨.driverSilent, some 1, false, .absent⟩]] := by decide +kernel

/-! ## The Dimming Controller -/

/-- Example: reading the curve, and the falling curve at 333. -/
theorem test_curve :
    ([0, 150, 500, 1100, 5000, 25000].map (curveValue [(0, 40), (200, 120), (2000, 400), (20000, 1024)]) =
      [40, 100, 166, 260, 504, 1024]) ∧
    curveValue [(0, 300), (500, 100), (40000, 600)] 333 = 167 := by decide

/-- The part at a level and a target, LIVE. -/
def atLevel (l t c : Nat) : State :=
  { base with
    dimming := ⟨l, t, .auto, .auto, none, 0, true, c⟩
    time := { base.time with ceiling := c }
    stream := ⟨.live, some ⟨0, 250⟩, none, none, some 0, []⟩ }

/-- Example: a slew run, up from 258 and down to 200. -/
theorem test_slew :
    (atLevel 258 260 1024).levelTick.dimming.level = 260 ∧ (atLevel 256 260 1024).levelTick.dimming.level = 258 ∧
    (atLevel 204 200 1024).levelTick.dimming.level = 200 ∧ (atLevel 260 260 1024).levelTick = atLevel 260 260 1024 := by
  decide +kernel

/-- Example: the 22:00 ceiling cuts L and T from 260 to 220 at once. -/
theorem test_ceiling_cut :
    let s := poke (poke (atLevel 260 260 1024) .ambient 2 260) .ambient 4 260
    (s.ceilingChange 220).dimming.level = 220 ∧ (s.ceilingChange 220).dimming.target = 220 := by decide +kernel

/-- Example: the stream lost; local tick 21 brings 6 to 0 and notifies Stream Supervision. -/
theorem test_darkening_tick :
    let s : State := { atLevel 6 0 1024 with stream := ⟨.darkening, none, none, some ⟨0, 33⟩, some 0, []⟩ }
    (after .dimmingLocalTick s).dimming.level = 0 ∧ (after .dimmingLocalTick s).handed = [.lZeroNotice] ∧
    (after .lZeroNotice (after .dimmingLocalTick s)).stream.state = .dark := by decide +kernel

/-- Table 4-4, last row: a local tick delivered in DARKENING at L = 4 lowers L by 8 at most when it is taken first, and, taken
after the SYNC that ends DARKENING, moves L by S_up = 2 toward the released target; one delivered in DARK is no tick. -/
theorem test_local_tick_against_release :
    let s : State := { atLevel 4 0 1024 with
      dimming := ⟨4, 0, .forcedDark, .override, some ⟨100, 3⟩, 0, false, 1024⟩
      stream := ⟨.darkening, none, none, some ⟨0, 33⟩, some 0, []⟩, time := { base.time with count := 33, ceiling := 1024 } }
    let t := after .localTickExpiry s
    let dark := after .localTickExpiry { s with stream := { s.stream with state := .dark } }
    t.stream.ticks = [.darkening] ∧ (after .dimmingLocalTick t).dimming.level = 0 ∧
    (after .dimmingLocalTick (after .streamSync t)).dimming.level = 6 ∧
    (after .dimmingLocalTick (after .streamSync dark)).dimming.level = 4 ∧
    (after .dimmingLocalTick (after .streamSync t)).stream.ticks = [] := by decide +kernel

/-- LEVEL-OVERRIDE clamps 1025 to 1024; 0 minutes is BAD_ARGS (R79). -/
theorem test_override :
    (levelOverride [4, 1, 0, 60] (atLevel 100 100 220)).1.status = .ok ∧
    (levelOverride [4, 1, 0, 60] (atLevel 100 100 220)).2.dimming.override = some ⟨1024, 60⟩ ∧
    (levelOverride [4, 1, 0, 60] (atLevel 100 100 220)).1.payload = .overrideSet 1024 60 220 220 .override ∧
    (levelOverride [4, 1, 0, 0] (atLevel 100 100 220)).1 = ⟨.badArgs, .empty⟩ := by decide +kernel

/-! ## Stream Supervision and the Time Base -/

/-- Across DARKENING to DARK the forced-dark condition continues and the source is not selected anew (R112): AUTO stays,
AMBIENT having been marked bad meanwhile. -/
theorem test_dark_keeps_source :
    let s : State := { mark (atLevel 0 0 1024) .ambient [3] with stream := ⟨.darkening, none, none, some ⟨0, 33⟩, some 0, []⟩ }
    (after .lZeroNotice s).stream.state = .dark ∧ (after .lZeroNotice s).dimming = s.dimming := by decide +kernel

/-- Example: a stream lost for three seconds, its timeout at 10,250 with Th = 2 s. -/
theorem test_timeout :
    let s : State := { poke (atLevel 40 40 1024) .limits 8 2 with
      stream := ⟨.live, some ⟨10000, 250⟩, none, none, some 10000, []⟩, time := { base.time with count := 10250, ceiling := 1024 } }
    (after .syncTimeoutExpiry s).stream = ⟨.holding, none, some ⟨10250, 2000⟩, none, some 10000, []⟩ ∧
    (after .syncTimeoutExpiry s).handed = [.conditionDelivery .streamLost true] := by decide +kernel

/-- Example: drift over a day. At +250 the 4000th step advances the clock by 2 ms and leaves the accumulator 0. -/
theorem test_drift_step :
    let s : State := { base with time := { base.time with drift := 250, accumulator := 999750 } }
    (after .millisecondStep s).time.accumulator = 0 ∧ (after .millisecondStep s).time.ms = 2 ∧
    (driftSet [0xF8, 0x30] s).1 = ⟨.ok, .drift (-500)⟩ := by decide +kernel

/-- Sunday 23:59:59.999 rolls over to Monday 00:00:00.000 (R85), with a second and a minute event. -/
theorem test_week_rollover :
    let t := after .millisecondStep { base with time := { base.time with weekday := 7, minute := 1439, ms := 59999 } }
    t.time.weekday = 1 ∧ t.time.minute = 0 ∧ t.time.ms = 0 ∧
    t.handed = [.secondEventLink, .summaryCountAdvance, .minuteEventCeiling, .overrideMinute] := by decide +kernel

/-- The schedule of Example: a week of ceilings. -/
def week : List ScheduleEntry :=
  [⟨some 1320, some 127, some 220⟩, ⟨some 360, some 31, some 1024⟩, ⟨some 480, some 96, some 900⟩]

/-- Example: a week of ceilings, and the substitute 150 when entry 1's ceiling is lost beside the fourth entry. -/
theorem test_week_of_ceilings :
    ceilingOf 2 190 (some 220) week = (220, .default) ∧ ceilingOf 2 420 (some 220) week = (1024, .entry 1) ∧
    ceilingOf 2 1380 (some 220) week = (220, .entry 0) ∧ ceilingOf 6 540 (some 220) week = (900, .entry 2) ∧
    ceilingOf 7 1439 (some 220) week = (220, .entry 0) ∧
    ceilingOf 1 420 (some 220) [⟨some 1320, some 95, some 220⟩, ⟨some 360, some 31, none⟩, ⟨some 480, some 96, some 900⟩,
      ⟨some 1320, some 32, some 150⟩] = (150, .entry 1) := by decide

/-- TIME-SET on an unset clock ends CLOCK_UNSET (R89, R90). -/
theorem test_time_set :
    let t := after (.timeSet toAll [4, 5, 50, 0x3A, 0x98]) base
    t.time.weekday = 4 ∧ t.time.minute = 1330 ∧ t.time.ms = 15000 ∧ t.time.clockSet = true ∧
    t.handed = [.conditionDelivery .clockUnset false] := by decide +kernel

/-! ## The Fault Monitor -/

/-- POLICY of Raise, derate, clear and latch: N_c = N_r = 2 for OVER_TEMP; four modules. -/
def hotState (flap : Nat) (rs : List FaultRecord) : State :=
  let s := withRecords (poke (poke base .policy 2 2) .policy 16 2) rs
  { s with faults := { s.faults with
      modules := List.replicate 4 .lit, flaps := s.faults.flaps.set 14 flap } }

/-- One evaluation of OVER_TEMP for module 3. -/
def hot (c : Int) : Instr := .faultEvaluationDelivery [⟨.overTemp, some 3, true, .temperature c⟩]

/-- Raise, derate, clear and latch: poll 2 raises and derates to 512, and the third entry latches. -/
theorem test_raise_and_latch :
    let s := after (hot 88) (hotState 0 [recordIn 5 (some 3) .overTemp .suspect (.temperature 87)])
    s.faults.records.map (fun r => (r.state, r.hits)) = [(.active, 2)] ∧ s.faults.modules[3]? = some ⟨.derated, 512⟩ ∧
    s.faults.flap 3 .overTemp = 1 ∧
    s.handed = [.localReportDelivery [⟨.raised, some .overTemp, some 3, .temperature 88⟩]] ∧
    (after (hot 95) (hotState 2 [recordIn 5 (some 3) .overTemp .suspect .absent])).handed =
      [.localReportDelivery [⟨.latched, some .overTemp, some 3, .temperature 95⟩]] := by decide +kernel

/-- Raise, derate, clear and latch: FAULT-CLEAR of the LATCHED record, and of one that is not. -/
theorem test_fault_clear :
    let s := hotState 3 [recordIn 5 (some 3) .overTemp .latched (.temperature 95)]
    (faultClear [0, 3, 3] s).1 = ⟨.ok, .cleared 1⟩ ∧ (faultClear [0, 3, 3] s).2.faults.flap 3 .overTemp = 0 ∧
    (faultClear [0, 3, 3] (faultClear [0, 3, 3] s).2).1 = ⟨.notFound, .empty⟩ := by decide +kernel

/-- The restore window at 130,000: module 4 is admitted and module 6 waits on. -/
theorem test_restore_window :
    let s : State := { base with
      time := { base.time with count := 130000 }
      faults := { base.faults with
        modules := [.lit, .lit, .lit, .lit, ⟨.restoreWait, 1024⟩, ⟨.lit, 1024⟩, ⟨.restoreWait, 1024⟩, .lit]
        restoreQueue := [4, 6], history := [100000, 100500, 101000, 101500] } }
    let t := after .restoreWindowExpiry s
    t.faults.restoreQueue = [6] ∧ t.faults.history = [100500, 101000, 101500, 130000] ∧
    t.handed = [.localReportDelivery [⟨.restored, none, some 4, .absent⟩]] := by decide +kernel

/-- Each admission evaluates CABINET_DARK (R140, step 5): with B = 4, two admissions from five dark modules end it at the
second, between whose RESTORED and the first stands nothing, and with B = 5 at the first. -/
theorem test_admissions_evaluate :
    let s := fun b : Nat => ({ poke base .limits 6 b with
      time := { base.time with count := 30000 }
      faults := { base.faults with
        modules := List.replicate 5 ⟨.restoreWait, 1024⟩, restoreQueue := [0, 1, 2, 3, 4], history := [0, 9, 9]
        records := [recordIn 0 none .cabinetDark .active .absent], flags := ⟨false, false, false, true⟩ } } : State)
    let restored := fun m : Nat => (⟨.restored, none, some m, .absent⟩ : Report)
    let ended : Report := ⟨.cleared, some .cabinetDark, none, .absent⟩
    (after .restoreWindowExpiry (s 4)).handed = [.localReportDelivery [restored 0, restored 1, ended]] ∧
    (after .restoreWindowExpiry (s 5)).handed = [.localReportDelivery [restored 0, ended, restored 1]] := by decide +kernel

/-- The evaluations of one delivery are carried through in order and their reports go as one delivery (R124, R137); a module
that does not exist takes none. -/
theorem test_two_evaluations :
    let e := fun (k : FaultKind) m => (⟨k, m, true, .absent⟩ : Evaluation)
    let s := poke (poke (hotState 0 []) .policy 5 1) .policy 6 1
    (after (.faultEvaluationDelivery [e .motion none, e .overTemp (some 4), e .dwellEarly none]) s).handed =
      [.localReportDelivery [⟨.raised, some .motion, none, .absent⟩, ⟨.raised, some .dwellEarly, none, .absent⟩]] := by
  decide +kernel

/-- SHORT_STRING confirmed blanks module 3; with B = 1 CABINET_DARK starts in the same event, and L and T are 0 (R142, R76). -/
theorem test_cabinet_dark_starts :
    let s : State := { poke (hotState 0 []) .policy 1 1 with
      dimming := ⟨200, 200, .auto, .auto, none, 0, true, 1024⟩, stream := ⟨.live, none, none, none, some 0, []⟩ }
    let t := fun b => after (.faultEvaluationDelivery [⟨.shortString, some 3, true, .absent⟩]) (poke s .limits 6 b)
    (t 1).faults.flags.cabinetDark = true ∧ (t 1).dimming.level = 0 ∧ (t 1).dimming.mode = .forcedDark ∧
    (t 1).handed = [.lZeroNotice, .localReportDelivery
      [⟨.raised, some .shortString, some 3, .absent⟩, ⟨.raised, some .cabinetDark, none, .absent⟩]] ∧
    (t 2).faults.flags.cabinetDark = false ∧ (t 2).dimming.level = 200 := by decide +kernel

/-- A full table of ACTIVE records with one LATCHED. -/
def fullTable (last : FaultRecord) : State :=
  let s := withRecords base
    ((List.range 63).map (fun n => recordIn n (some (n / 4)) (FaultKind.moduleKinds.getD (n % 4) .motion) .active .absent) ++
      [last])
  { s with faults := { s.faults with modules := List.replicate 32 .lit } }

/-- A full table: a CLEARING record gives way with its CLEARED report, and without one the detection is lost. -/
theorem test_full_table :
    let e : Instr := .faultEvaluationDelivery [⟨.driverSilent, some 20, true, .absent⟩]
    let s := after e (fullTable (recordIn 63 (some 31) .overTemp .clearing .absent))
    s.faults.lostDetections = 0 ∧ s.faults.records.any (fun r => r.slot == 63 && r.kind == .driverSilent) = true ∧
    s.handed = [.localReportDelivery [⟨.cleared, some .overTemp, some 31, .absent⟩]] ∧
    (after e (fullTable (recordIn 63 (some 31) .overTemp .latched .absent))).faults.lostDetections = 1 := by decide +kernel

/-- FAULT-READ from cursor 3 over slots 2, 4, 6, 8, 10, 12 returns four records and goes on at slot 11, the one after the
last returned; from cursor 11 it returns the last and no cursor (R143). -/
theorem test_fault_read_cursor :
    let s := hotState 0 ([12, 4, 2, 8, 10, 6].map fun n => recordIn n (some (n / 4)) .overTemp .active .absent)
    let read := fun c => match (faultRead [c] s).1.payload with
      | .faults count shown more next => (count, shown.map (fun e => e.record.slot), more, next)
      | _ => (0, [], false, 0)
    read 3 = (6, [4, 6, 8, 10], true, 11) ∧ read 11 = (6, [12], false, 0) ∧ read 4 = read 3 := by decide +kernel

/-- The part of four modules: module 1 blanked by a LATCHED SHORT_STRING, module 2 waiting to be restored with the history
full, module 3 with an ACTIVE OVER_TEMP and a SUSPECT OPEN_STRING. -/
def fourModules : State :=
  let s := withRecords base
    [recordIn 5 (some 3) .overTemp .active .absent, recordIn 7 (some 1) .shortString .latched .absent,
     recordIn 1 (some 3) .openString .suspect .absent, recordIn 0 none .motion .active .absent]
  { s with
      drive := { s.drive with geometry := { s.drive.geometry with modules := 4 } }
      faults := { s.faults with
        modules := [.lit, ⟨.blanked, 1024⟩, ⟨.restoreWait, 1024⟩, ⟨.derated, 512⟩], restoreQueue := [2]
        history := [0, 1, 2, 3], flaps := List.replicate 128 2 } }

/-- A LAYOUT swap from four modules to one frees the records of modules 1 and 3 in module order, the SUSPECT one without a
report, keeps the cabinet's, zeroes the flap counters of the removed modules and empties the restore queue (R146). -/
theorem test_layout_swap_removes :
    let t := after (.tableStoreSync 3) (withShadow fourModules .layout (.posted layoutDefault 3))
    t.faults.records = [recordIn 0 none .motion .active .absent] ∧ t.faults.modules = [.lit] ∧
    t.faults.restoreQueue = [] ∧ t.faults.history = [0, 1, 2, 3] ∧
    t.faults.flaps = List.replicate 4 2 ++ List.replicate 124 0 ∧
    t.handed = [.localReportDelivery
      [⟨.cleared, some .shortString, some 1, .absent⟩, ⟨.cleared, some .overTemp, some 3, .absent⟩]] := by decide +kernel

/-! ## The Report Queue -/

/-- The marks, a hold and an overflow: the 36th record sets the mark and hands HOLD(200) to D. -/
theorem test_high_mark :
    let s : State := { base with
      reports := { base.reports with queue := List.replicate 35 zeroRecord, inbound := some ⟨0, 3000⟩ } }
    let t := after (.localReportDelivery [⟨.raised, some .motion, none, .absent⟩]) s
    t.reports.queue.length = 36 ∧ t.reports.holdMark = true ∧ t.out = [.sendHold 200] ∧
    t.reports.refresh = some ⟨0, 100⟩ := by decide +kernel

/-- The departure that brings the depth to 12 releases the hold. -/
theorem test_low_mark :
    let s : State := { base with
      link := { base.link with sendingU := .report true }
      reports := { base.reports with
        queue := List.replicate 13 zeroRecord, holdMark := true, refresh := some ⟨0, 100⟩, lastHold := some 0 } }
    let t := after .reportSent s
    t.reports.holdMark = false ∧ t.reports.queue.length = 12 ∧ t.out = [.sendHold 0, .sendReport zeroRecord] := by
  decide +kernel

/-! ## The Table Store and the Management Agent -/

/-- A commit across the wrap: E = 3 is due at F = 3 and not at F = 2; E = 40,000 is due at 101, 32,868 is not. -/
theorem test_due : isDue 3 3 = true ∧ isDue 2 3 = false ∧ isDue 101 40000 = true ∧ isDue 101 32868 = false := by decide

/-- A commit across the wrap: the posted LIMITS swaps with generation 8 and the new S_down and F. -/
theorem test_swap :
    let s := (withShadow base .limits (.posted [2, 16, 120, 200, 240, 1, 8, 250, 10, 33, 0] 3))
    let t := after (.tableStoreSync 3) (s.setTable .limits { s.table .limits with generation := 7 })
    (t.table .limits).generation = 8 ∧ entry (t.table .limits).active 1 = 16 ∧ (t.table .limits).shadow = .clean ∧
    after (.tableStoreSync 2) s = s := by decide +kernel

/-- A soft reset drops a STREAM_LOST and a delivery of reports under way, so that no record of it stands before the next good
SYNC (R119, R147, R164); the second event stays. -/
theorem test_soft_reset_drops_deliveries :
    let s : State := { base with
      time := { base.time with clockSet := true }
      handed := [.streamSync, .conditionDelivery .streamLost true, .secondEventLink,
        .localReportDelivery [⟨.raised, some .streamLost, none, .absent⟩]] }
    (after (.softReset toAll []) s).handed = [.secondEventLink] := by decide +kernel

/-- An uncorrectable error in POLICY: the copy carries the damage, the commit finds it, the write repairs it. -/
theorem test_policy_repair :
    let s := mark base .policy [39]
    let w := tableWrite [7, 0, 42, 1, 44] s
    w.1 = ⟨.ok, .written 7 42 1 1⟩ ∧ (tableCommit [7, 0, 4] w.2).1 = ⟨.invalid, .invalid 39 .damaged⟩ ∧
    (tableWrite [7, 0, 39, 0, 2] w.2).1 = ⟨.ok, .written 7 39 1 0⟩ ∧
    (tableCommit [7, 0, 4] (tableWrite [7, 0, 39, 0, 2] w.2).2).1 = ⟨.posted, .posted 4 1⟩ := by decide +kernel

/-- An uncorrectable error in POLICY at a counted SYNC: entry 39 is marked, UNCONFIGURED begins and L goes to 0. -/
theorem test_uncorrectable_read :
    let s : State := { atLevel 200 200 1024 with storage := [⟨.policy, .active, 39, .uncorrectable⟩] }
    let t := after .sweepCountSync s
    (t.table .policy).bad = [39] ∧ t.unconfigured = true ∧ t.dimming.level = 0 ∧ t.dimming.mode = .forcedDark ∧
    t.handed.head? = some (.tableEccDelivery .policy true) := by decide +kernel

/-- TABLE-READ of POLICY 36 to 43 in that example: 85, 5, 16, BAD 0, 36, 12, 200, 6. -/
theorem test_table_read :
    (tableRead [7, 0, 0, 36, 0, 8] (mark base .policy [39])).1.payload =
      .entries 7 0 36 8 .clean 0 0 [(85, .good), (5, .good), (16, .good), (0, .bad), (36, .good), (12, .good), (200, .good),
        (6, .good)] := by decide +kernel

/-- CEILING-LOCK returns an EDITING LIMITS to CLEAN and locks; TABLE-WRITE is LOCKED then, TABLE-ABANDON is not (R176). -/
theorem test_ceiling_lock :
    let s := withShadow base .limits (.editing (List.replicate 11 0) [])
    (ceilingLock [] s).1 = ⟨.ok, .locked false 1⟩ ∧ (tableWrite [6, 0, 0, 0, 1] (ceilingLock [] s).2).1.status = .locked ∧
    (tableAbandon [6] (ceilingLock [] s).2).1 = ⟨.ok, .abandoned .clean⟩ ∧
    (ceilingLock [] (ceilingLock [] s).2).1 = ⟨.ok, .locked true 0⟩ := by decide +kernel

/-- A SAVE cut short: count 41 becomes 42 with the header OPEN, and a pin reset ends the SAVE. -/
theorem test_save_begun :
    let s : State := { base with agent := { base.agent with saveCount := 41 } }
    let t := after (.save here []) s
    t.agent.save.map SaveRun.writing = some (.headerOpen 42) ∧ t.flash.header = ⟨false, 42, true⟩ ∧
    (after .pinReset t).agent.save = none ∧ after .saveWriteSuccess (after .pinReset t) = after .pinReset t := by
  decide +kernel

/-- After that start-up every item is at its default, and the part is UNCONFIGURED and dark. -/
theorem test_start_up_from_open_header :
    let t := after .startUpComplete { State.reset with flash := { Flash.unwritten with header := ⟨false, 42, true⟩ } }
    t.agent.results = List.replicate 8 .default ∧ t.agent.trimResult = .zero ∧ t.agent.storeInvalid = true ∧
    t.unconfigured = true ∧ t.agent.saveCount = 42 ∧ t.dimming.ceiling = 200 ∧
    t.handed = [.conditionDelivery .clockUnset true, .conditionDelivery .storeInvalid true] := by decide +kernel

/-- IDENTIFY carries the codes of R183, and arguments refuse it. -/
theorem test_identify :
    (identify [] base).1 = ⟨.ok, .identity 0x5A17 0x0316 siliconRevision Config.serialNumber⟩ ∧
    (identify [1] base).1 = ⟨.badArgs, .empty⟩ := ⟨rfl, rfl⟩

/-- SOFT-RESET keeps the clock and empties the HOLD slot, and its reply is offered first (R189, R22). -/
theorem test_soft_reset :
    let s : State := { base with link := { base.link with holdSlot := some ⟨200, true⟩, sendingD := .hold } }
    let t := after (.softReset here []) { s with time := { s.time with clockSet := true, minute := 7 } }
    t.link.holdSlot = none ∧ t.link.sendingD = .hold ∧ t.time.minute = 7 ∧ t.stream.state = .dark ∧
    t.link.replies = [.own ⟨5, 17, 0x10, .ok, .empty⟩] := by decide +kernel

/-- A SOFT-RESET abandons the posts (R180): a SYNC taken after it swaps nothing, and STORE_INVALID, handed over as present, is
ended by the swap of a later LAYOUT commit (R192). -/
theorem test_soft_reset_abandons :
    let s : State := { withShadow base .layout (.posted layoutDefault 3) with
      agent := { base.agent with storeInvalid := true }, time := { base.time with clockSet := true } }
    let t := after (.softReset toAll []) s
    t.handed = [.conditionDelivery .storeInvalid true] ∧ (t.table .layout).shadow = .clean ∧
    after (.tableStoreSync 3) t = t ∧
    (after (.tableStoreSync 3) (withShadow t .layout (.posted layoutDefault 3))).handed =
      [.conditionDelivery .storeInvalid true, .conditionDelivery .storeInvalid false] := by decide +kernel

/-! ## Witnesses: for each obligation with hypotheses, states and operands that meet them, clause by clause -/

theorem witness_StepRunsTheFrontCommand :
    ({ base with pending := [.sweepTick, .pinReset] } : State).pending = [.sweepTick, .pinReset] ∧ base.pending = [] := by
  decide

theorem witness_DownPortsReceiveNothing :
    receivedAt (.syncFrame 1 2 3 1) = some .u ∧ State.reset.portUp .u = false ∧
    receivedAt (.forwardedRecord zeroRecord) = some .d ∧ State.reset.portUp .d = false := by decide

theorem witness_DownFramesAreReadBack :
    (DownFrame.sync 65535 65535 65535 255).wellFormed = true ∧ (DownFrame.pixel 0 0 [Pixel.black] 15).wellFormed = true ∧
    (DownFrame.pixel 65535 65535 (List.replicate 1024 Pixel.black) 0).wellFormed = true ∧
    (DownFrame.mgmt here 255 (List.replicate 4794 0)).wellFormed = true ∧ (DownFrame.enum 255).wellFormed = true := by
  decide +kernel

theorem witness_UpFramesAreReadBack :
    5 ≤ (List.replicate 5 (0 : Byte)).length ∧ (List.replicate 4800 (0 : Byte)).length ≤ 4800 ∧
    ((⟨63, 17, 0x0E, .ok, .empty⟩ : Reply).origin ≤ 63 ∧ (List.replicate 4795 (0 : Byte)).length ≤ 4795) ∧
    (DownFrame.enum 0).wellFormed = true ∧
    (0 : Check) ≠ crc32 (frameKind (.enum 0) :: wordBytes (BitVec.ofNat 16 (frameBody (.enum 0)).length) ++
      frameBody (.enum 0)) := by decide +kernel

theorem witness_LinkEventsMoveThePorts :
    let down : State := { State.reset with started := true }
    (down.started = true ∧ down.link.upU = false ∧ down.link.upD = false) ∧
    (State.reset.started = false ∧ base.link.upU = true ∧ base.link.upD = true) := by decide

theorem witness_CheckFailuresAreCounted : base.link.upU = true ∧ base.link.upD = true := by decide

theorem witness_SyncFrameIsForwardedAndDelivered : base.link.upU = true := by decide

theorem witness_PixelFrameWritesItsWindow :
    (dwellState 9 0 []).link.upU = true ∧ SlotWf (dwellState 9 0 []).capture.fill ∧
    (dwellState 9 0 []).capture.opened ≠ none := by decide

theorem witness_EnumFrameSetsThePosition :
    base.link.upU = true ∧ (62 : Byte).toNat ≤ 62 ∧ 63 ≤ (63 : Byte).toNat := by decide

theorem receives_here (s : State) (hu : s.link.upU = true) (hp : s.link.position = 5) : s.receives here :=
  ⟨hu, .inr (.inl ⟨rfl, by decide, by decide, by rw [hp]; rfl⟩)⟩

theorem receives_toAll (s : State) (hu : s.link.upU = true) : s.receives toAll := ⟨hu, .inl rfl⟩

theorem receives_group : base.receives ⟨1, 4095, 0⟩ ∨ (poke base .groups 4095 1).receives ⟨1, 4095, 0⟩ :=
  .inr ⟨rfl, .inr (.inr ⟨rfl, by decide, rfl, 1, by decide +kernel, by decide⟩)⟩

theorem witness_RequestsNotTakenAreForwarded :
    requestParts (.driftSet ⟨3, 0, 0⟩ []) = some (⟨3, 0, 0⟩, 0x09, []) ∧ base.link.upU = true ∧ base.storage = [] ∧
    ¬ base.isAddressed ⟨3, 0, 0⟩ ∧ requestParts (.mgmtNotTaken here 1 []) = some (here, 1, []) := by
  refine ⟨rfl, rfl, rfl, ?_, rfl⟩
  rintro (h | ⟨h, -⟩ | ⟨h, -⟩) <;> cases h

theorem witness_HoldFrameSetsTheInboundTimer :
    let sending : State := { base with link := { base.link with sendingU := .report true } }
    base.link.upU = true ∧ (1 : Word) ≠ 0 ∧ (∀ b, base.link.sendingU ≠ .report b) ∧ sending.link.upU = true ∧
    sending.link.sendingU = .report true := by
  refine ⟨rfl, by decide, ?_, rfl, rfl⟩
  intro b h
  cases h

theorem witness_FramesLeaveTheDownPort :
    let s := fun (x : SendingD) (h : Option HoldSlot) => ({ base with link := { base.link with sendingD := x, holdSlot := h } } : State)
    (s .forwarded none).link.sendingD = .forwarded ∧ base.link.sendingD ≠ .forwarded ∧
    ((s .hold (some ⟨200, true⟩)).link.sendingD = .hold ∧
      (s .hold (some ⟨200, true⟩)).link.holdSlot.all HoldSlot.started = true) ∧
    ((s .hold (some ⟨0, false⟩)).link.sendingD = .hold ∧ (s .hold (some ⟨0, false⟩)).link.holdSlot = some ⟨0, false⟩) ∧
    base.link.sendingD ≠ .hold := by decide

theorem witness_FramesLeaveTheUpPort :
    let s := fun (x : SendingU) (n : Nat) => ({ base with
      link := { base.link with sendingU := x }
      reports := { base.reports with queue := List.replicate n zeroRecord, holdMark := true } } : State)
    (s .reply 0).link.sendingU = .reply ∧ base.link.sendingU = .idle ∧
    ((s (.report true) 13).storage = [] ∧ (s (.report true) 13).reports.queue.length - 1 ≤ (s (.report true) 13).marks.2) ∧
    (s (.report true) 14).marks.2 < (s (.report true) 14).reports.queue.length - 1 ∧
    (s (.report false) 0).link.sendingU = .report false := by decide +kernel

theorem witness_FrameCaptureSyncDecides :
    let s := dwellState 12 4 [0]
    s.started = true ∧ s.storage = [] ∧ s.unconfigured = false ∧ s.present .limits 4 = some 4 ∧
    (mark s .limits [4]).present .limits 4 = none ∧ (mark s .limits [4]).unconfigured = true := by decide +kernel

theorem witness_UpBoundFramesAreQueued :
    let s := fun n => ({ base with reports := { base.reports with queue := List.replicate n zeroRecord } } : State)
    (s 47).link.upD = true ∧ (s 47).storage = [] ∧ (s 47).reports.queue.length < 48 ∧ 48 ≤ (s 48).reports.queue.length := by
  decide +kernel

theorem witness_LocalReportsBecomeRecords : base.started = true ∧ base.storage = [] := by decide

theorem witness_SummaryCountMakesSummaries :
    let s := fun n => ({ base with reports := { base.reports with summaryCount := n } } : State)
    (s 62).started = true ∧ (s 62).storage = [] ∧
    ¬ 2 ^ (s 62).presentOrDefault .policy 43 ≤ (s 62).reports.summaryCount + 1 ∧
    2 ^ (s 63).presentOrDefault .policy 43 ≤ (s 63).reports.summaryCount + 1 := by decide +kernel

theorem witness_HoldTimersExpire :
    let s := fun (now : Count) (n : Nat) => ({ base with
      time := { base.time with count := now }
      reports := { base.reports with
        queue := List.replicate n zeroRecord, refresh := some ⟨0, 100⟩, inbound := some ⟨0, 100⟩ } } : State)
    ((100 : Nat) ≤ ((s 100 13).time.count - 0).toNat ∧ (s 100 13).storage = [] ∧ (s 100 13).reports.refresh = some ⟨0, 100⟩ ∧
      (s 100 13).marks.2 < (s 100 13).reports.queue.length ∧ (s 100 12).reports.queue.length ≤ (s 100 12).marks.2) ∧
    (((s 99 0).time.count - 0).toNat < 100 ∧ (s 99 0).reports.refresh = some ⟨0, 100⟩ ∧
      (s 99 0).reports.inbound = some ⟨0, 100⟩) := by decide +kernel

/-- A part with a frame in DISPLAY and one module in a state. -/
def shown (x : ModuleState) : State :=
  { dwellState 9 0 [] with faults := { base.faults with modules := [⟨x, 512⟩] } }

theorem witness_ModuleComputationFormsTheWords :
    (shown .derated).started = true ∧ (shown .derated).storage = [] ∧ ((shown .derated).table .layout).bad = [] ∧
    (shown .derated).capture.displayed.isSome = true ∧ ((shown .derated).faults.modules.getD 0 .lit).state = .derated := by
  decide

theorem witness_DarkModulesAreDrivenDark :
    (base.started = true ∧ base.storage = [] ∧ base.capture.displayed = none) ∧
    ((shown .restoreWait).capture.displayed.isSome = true ∧
      ((shown .restoreWait).faults.modules.getD 0 .lit).state = .restoreWait) ∧
    (7 : Nat) ∈ ((mark (shown .lit) .layout [7]).table .layout).bad := by decide

theorem witness_DriveWordsAreBounded :
    (shown .lit).started = true ∧ (shown .lit).dimming.level ≤ 1024 ∧ ∀ x ∈ (shown .lit).faults.modules, x.derate ≤ 1024 := by
  decide

theorem witness_EveryLineIsEmittedOnce :
    let s : State := { base with drive := { base.drive with geometry := ⟨1, 1, 64, 64, 16, true, 1⟩, startLine := 15 } }
    s.started = true ∧ s.drive.geometry.group ∈ [1, 2, 4, 8, 16] ∧ s.drive.geometry.moduleHeight ∈ [16, 32, 64] ∧
    s.drive.startLine < s.drive.geometry.group := by decide

theorem witness_CountedEventsBringSweepTicks :
    let s := sweepState
    s.started = true ∧ s.storage = [] ∧ 2 ^ (s.present .policy 39).getD 0 ≤ s.drive.sweepCount + 1 ∧
    ({ s with drive := { s.drive with sweepCount := 0 } } : State).drive.sweepCount + 1 < 2 ^ (s.present .policy 39).getD 0 ∧
    39 ∉ (s.table .policy).bad ∧
    ({ s with storage := [⟨.policy, .active, 39, .uncorrectable⟩] } : State).storage = [⟨.policy, .active, 39, .uncorrectable⟩] := by
  decide +kernel

theorem witness_PollResultsAreEvaluated :
    sweepState.storage = [] ∧ sweepState.drive.inFlight = some ⟨1, 1, 0⟩ ∧ base.drive.inFlight = none := by decide

theorem witness_TrimNudgeMovesTheNamedTrims :
    base.receives here ∧ base.receives toAll ∧ base.trims.length = 96 ∧ 0 < base.drive.geometry.modules ∧
    base.drive.geometry.modules ≤ (31 : Byte).toNat ∧ (7 : Byte).toNat % 8 ≠ 0 ∧ (8 : Byte).toNat % 8 = 0 :=
  ⟨receives_here _ rfl rfl, receives_toAll _ rfl, by decide, by decide, by decide, by decide, by decide⟩

theorem witness_DimmingSyncFollowsTheLight :
    (atLevel 5 5 5).started = true ∧ (atLevel 5 5 5).storage = [] ∧
    validate .ambient ((atLevel 5 5 5).table .ambient).active = none ∧ (atLevel 5 5 5).stream.state = .live ∧
    base.stream.state ≠ .live := by decide

theorem witness_LocalTicksMoveTheLevelInDarkening :
    let s : State := { base with stream := ⟨.darkening, none, none, some ⟨0, 33⟩, some 0, []⟩ }
    let live : State := { base with stream := { s.stream with state := .live, ticks := [.darkening] } }
    let dark : State := { base with stream := { s.stream with ticks := [.dark] } }
    s.storage = [] ∧ s.localTickCounts ∧ live.localTickCounts ∧ ¬ base.localTickCounts ∧ ¬ dark.localTickCounts := by
  refine ⟨rfl, ⟨fun _ _ h => (by cases h), fun _ => rfl⟩, ⟨fun _ _ h => (by cases h; exact ⟨rfl, .inr rfl⟩), fun h => (by cases h)⟩,
    fun h => (by cases h.2 rfl), fun h => (by cases (h.1 _ _ rfl).1)⟩

theorem witness_OverridesCountDown :
    let s := fun n => ({ base with dimming := { base.dimming with override := some ⟨900, n⟩ } } : State)
    (s 2).storage = [] ∧ validate .ambient ((s 2).table .ambient).active = none ∧ (s 2).dimming.override = some ⟨900, 2⟩ ∧
    (s 1).dimming.override = some ⟨900, 1⟩ ∧ base.dimming.override = none := by decide

theorem witness_OverrideRequestsSetTheRecord :
    base.receives here ∧ base.storage = [] ∧ validate .ambient (base.table .ambient).active = none ∧
    1 ≤ (0 : Byte).toNat * 256 + (1 : Byte).toNat ∧ (5 : Byte).toNat * 256 + (160 : Byte).toNat ≤ 1440 ∧
    1440 < (5 : Byte).toNat * 256 + (161 : Byte).toNat :=
  ⟨receives_here _ rfl rfl, rfl, by decide, by decide, by decide, by decide⟩

theorem witness_LevelRisesOnlyAtTicks :
    let s := atLevel 258 260 1024
    let t := after (.dimmingSync 0 false) { s with dimming := { s.dimming with ceiling := 1024 } }
    s.dimming.level < 259 ∧ t.dimming.level ≤ 260 := by decide +kernel

theorem witness_SyncBringsTheStreamToLive :
    base.started = true ∧ base.storage = [] ∧ validate .ambient (base.table .ambient).active = none ∧
    base.stream.state ≠ .live ∧ (atLevel 0 0 0).stream.state = .live := by decide

theorem witness_StreamTimersRunTheLoss :
    let s := fun (x : StreamState) (th : Nat) (now : Count) => ({ poke base .limits 8 th with
      time := { base.time with count := now }
      stream := ⟨x, some ⟨0, 250⟩, some ⟨0, 250⟩, some ⟨0, 250⟩, some 0, []⟩ } : State)
    (250 : Nat) ≤ ((s .live 0 250).time.count - 0).toNat ∧ ((s .live 0 249).time.count - 0).toNat < 250 ∧
    (s .live 0 250).storage = [] ∧ (s .live 0 250).presentOrDefault .limits 8 = 0 ∧
    1 ≤ (s .live 1 250).presentOrDefault .limits 8 ∧ (s .holding 1 250).stream.state = .holding ∧
    (s .live 0 250).stream.timeout = some ⟨0, 250⟩ := by decide +kernel

theorem witness_LZeroNoticeEndsDarkening :
    ({ base with stream := ⟨.darkening, none, none, some ⟨0, 33⟩, none, []⟩ } : State).stream.state = .darkening ∧
    base.stream.state ≠ .darkening := by decide

theorem witness_SecondEventsEvaluateTheLink : base.started = true ∧ base.storage = [] := by decide

theorem witness_MillisecondStepAdvancesTime :
    let s : State := { base with time := { base.time with
      accumulator := 999999, drift := -500, ms := 59999, minute := 1439, weekday := 7 } }
    s.time.accumulator < 1000000 ∧ s.time.drift.natAbs ≤ 500 ∧ s.time.ms < 60000 ∧ s.time.minute < 1440 ∧
    1 ≤ s.time.weekday ∧ s.time.weekday ≤ 7 := by decide

theorem witness_MinuteEventEvaluatesTheCeiling :
    base.storage = [] ∧ validate .ambient (base.table .ambient).active = none ∧ base.started = true ∧
    State.reset.started = false ∧ State.reset.storage = [] ∧
    validate .ambient (State.reset.table .ambient).active = none := by decide

theorem witness_TimeSetSetsTheClock :
    base.receives here ∧ base.storage = [] ∧ validate .ambient (base.table .ambient).active = none ∧
    (5 : Byte).toNat * 256 + (159 : Byte).toNat ≤ 1439 ∧ 1439 < (5 : Byte).toNat * 256 + (160 : Byte).toNat ∧
    (0xEA : Byte).toNat * 256 + (0x5F : Byte).toNat ≤ 59999 ∧ 59999 < (0xEA : Byte).toNat * 256 + (0x60 : Byte).toNat :=
  ⟨receives_here _ rfl rfl, rfl, by decide, by decide, by decide, by decide, by decide⟩

theorem witness_DriftSetSetsTheDrift :
    base.receives here ∧ exec (.driftSet toAll [1, 244]) base = .next (after (.driftSet toAll [1, 244]) base) ∧
    base.time.accumulator < 1000000 ∧ base.time.drift.natAbs ≤ 500 :=
  ⟨receives_here _ rfl rfl, rfl, by decide, by decide⟩

/-- The table of these records, with confirm and release counts 2 for OVER_TEMP and for MOTION. -/
def tabled (rs : List FaultRecord) : State := poke (poke (hotState 0 rs) .policy 6 2) .policy 20 2

theorem tabled_records (rs : List FaultRecord) : (tabled rs).faults.records = rs := rfl

theorem tableWf_one (r : FaultRecord) (h : r.slot < 64) : (tabled [r]).faults.tableWf := by
  unfold Faults.tableWf
  rw [tabled_records]
  exact ⟨List.pairwise_singleton _ r, fun q hq => by rw [List.mem_singleton.1 hq]; exact h⟩

theorem hasScope_tabled (rs : List FaultRecord) : (tabled rs).hasScope (some 3) := by
  show 3 < (List.replicate 4 ModuleStatus.lit).length
  decide

theorem atRest_tabled (rs : List FaultRecord) : (tabled rs).faults.atRest := by
  refine ⟨.inl rfl, ?_⟩
  intro k hk d hd
  simp only [List.mem_cons, List.mem_nil_iff, or_false] at hk
  rcases hk with rfl | rfl | rfl | rfl | rfl <;> cases hd

theorem lowestFree_tabled : LowestFree (tabled []).faults 0 :=
  ⟨by decide, fun r h => (by cases h), fun k h => by omega⟩

theorem witness_EvaluationsAreDebounced :
    let s := tabled [recordIn 0 (some 3) .overTemp .suspect .absent]
    (s.started = true ∧ s.storage = [] ∧ FaultKind.overTemp.debounced = true ∧ s.hasScope (some 3) ∧ s.faults.tableWf ∧
      s.faults.atRest) ∧
    (HoldsNone (tabled []).faults (some 3) .overTemp ∧ LowestFree (tabled []).faults 0) ∧
    (Holds s.faults (some 3) .overTemp (recordIn 0 (some 3) .overTemp .suspect .absent) ∧
      2 ≤ s.confirmCount .overTemp ∧ 2 ≤ s.releaseCount .overTemp) ∧ ¬ s.hasScope (some 4) := by
  refine ⟨⟨rfl, rfl, rfl, hasScope_tabled _, tableWf_one _ (by decide), atRest_tabled _⟩, ⟨fun r h => (by cases h), lowestFree_tabled⟩,
    ⟨⟨by decide, rfl, rfl⟩, by decide +kernel, by decide +kernel⟩, ?_⟩
  show ¬ 4 < (List.replicate 4 ModuleStatus.lit).length
  decide

theorem witness_CabinetFaultsAreRaisedAndCleared :
    let s := tabled [recordIn 63 none .motion .clearing .absent]
    (s.started = true ∧ s.storage = [] ∧ FaultKind.motion.debounced = true ∧ s.faults.tableWf ∧ s.faults.atRest) ∧
    (Holds s.faults none .motion (recordIn 63 none .motion .clearing .absent) ∧
      s.releaseCount .motion ≤ min 255 (1 + 1) ∧ s.confirmCount .motion ≤ min 255 (1 + 1)) ∧
    (HoldsNone (tabled []).faults none .motion ∧ LowestFree (tabled []).faults 0 ∧
      (poke (tabled []) .policy 6 1).confirmCount .motion ≤ 1 ∧ (poke (tabled []) .policy 20 1).releaseCount .motion ≤ 1) := by
  refine ⟨⟨rfl, rfl, rfl, tableWf_one _ (by decide), atRest_tabled _⟩, ⟨⟨by decide, rfl, rfl⟩, by decide +kernel,
    by decide +kernel⟩, fun r h => (by cases h), lowestFree_tabled, by decide +kernel, by decide +kernel⟩

theorem witness_ModuleFaultsFlapAndLatch :
    let r := recordIn 0 (some 3) .overTemp .suspect .absent
    let s := tabled [r]
    (FaultKind.overTemp.moduleScope = true ∧ s.started = true ∧ s.storage = [] ∧ s.hasScope (some 3) ∧ s.faults.tableWf ∧
      s.faults.atRest ∧ s.faults.flaps.length = 128 ∧ Holds s.faults (some 3) .overTemp r ∧ r.state = .suspect ∧
      s.confirmCount .overTemp ≤ min 255 (r.hits + 1)) ∧
    (HoldsNone (tabled []).faults (some 3) .overTemp ∧ LowestFree (tabled []).faults 0 ∧
      (poke (tabled []) .policy 2 1).confirmCount .overTemp ≤ 1) ∧
    ((tabled [recordIn 0 (some 3) .overTemp .clearing .absent]).releaseCount .overTemp ≤ min 255 (1 + 1) ∧
      (poke (tabled []) .policy 16 1).releaseCount .overTemp ≤ 1) :=
  ⟨⟨rfl, rfl, rfl, hasScope_tabled _, tableWf_one _ (by decide), atRest_tabled _, by decide +kernel, ⟨by decide, rfl, rfl⟩, rfl,
    by decide +kernel⟩, ⟨fun r h => (by cases h), lowestFree_tabled, by decide +kernel⟩, by decide +kernel, by decide +kernel⟩

/-- A BLANKED module whose one BLANK record is freed: the premises of its joining the restore queue, with room in the history
and with none. -/
theorem witness_FaultFreed :
    let r := recordIn 0 (some 3) .shortString .clearing .absent
    let s := fun n : Nat => { tabled [r] with faults := { (tabled [r]).faults with
      modules := [.lit, .lit, .lit, ⟨.blanked, 1024⟩], history := List.replicate n 0 } }
    (s 3).faults.modules[3]? = some ⟨.blanked, 1024⟩ ∧ 3 ∉ (s 3).faults.restoreQueue ∧
    (∀ q ∈ (s 3).faults.records, q ≠ r → ¬ BlanksModule (s 3) 3 q) ∧
    ((s 3).faults.history.length < 4 ∧ (s 3).faults.restoreQueue = []) ∧ (s 4).faults.history.length = 4 := by
  refine ⟨rfl, by decide, ?_, ⟨by decide, rfl⟩, rfl⟩
  intro q hq hne
  exact absurd (List.mem_singleton.1 hq) hne

/-- A part that holds CLOCK_UNSET with its record. -/
def unset : State :=
  let s := tabled [recordIn 0 none .clockUnset .active .absent]
  { s with faults := { s.faults with flags := s.faults.flags.set .clockUnset true } }

theorem witness_ConditionsAreRaisedAndCleared :
    (unset.started = true ∧ unset.storage = [] ∧ unset.faults.tableWf ∧ unset.faults.flags.get .clockUnset = true ∧
      Holds unset.faults none .clockUnset (recordIn 0 none .clockUnset .active .absent)) ∧
    unset.faults.atRest ∧
    ((tabled []).faults.flags.get .clockUnset = false ∧ HoldsNone (tabled []).faults none .clockUnset ∧
      LowestFree (tabled []).faults 0 ∧ (tabled []).faults.atRest) := by
  refine ⟨⟨rfl, rfl, tableWf_one _ (by decide), rfl, by decide, rfl, rfl⟩, ⟨.inl rfl, ?_⟩, rfl, fun r h => (by cases h),
    lowestFree_tabled, atRest_tabled _⟩
  intro k hk d hd hn
  simp only [List.mem_cons, List.mem_nil_iff, or_false] at hk
  rcases hk with rfl | rfl | rfl | rfl | rfl
  · cases hd
  · cases hd
  · exact hn (recordIn 0 none .clockUnset .active .absent) (by decide) ⟨rfl, rfl⟩
  · cases hd
  · cases hd

/-- CLOCK_UNSET held without a record, and with its record while STORE_INVALID lacks one. -/
theorem witness_ConditionsAreRaisedAndCleared_unrecorded :
    let s := { tabled [] with faults := { (tabled []).faults with flags := unset.faults.flags } }
    let two := { unset with faults := { unset.faults with flags := unset.faults.flags.set .storeInvalid true } }
    (s.started = true ∧ s.storage = [] ∧ s.faults.tableWf ∧ s.faults.restoreQueue = [] ∧
      s.faults.flags.get .clockUnset = true ∧ HoldsNone s.faults none .clockUnset) ∧
    (two.faults.tableWf ∧ two.faults.flags.get .clockUnset = true ∧
      Holds two.faults none .clockUnset (recordIn 0 none .clockUnset .active .absent) ∧ ¬ two.faults.atRest) := by
  refine ⟨⟨rfl, rfl, ⟨.nil, fun r h => (by cases h)⟩, rfl, rfl, fun r h => (by cases h)⟩,
    tableWf_one _ (by decide), rfl, ⟨by decide, rfl, rfl⟩, ?_⟩
  rintro ⟨-, h⟩
  refine h .storeInvalid (by decide) .absent rfl fun r hr => ?_
  rw [List.mem_singleton.1 hr]
  decide

/-- Every module of a part without fault records is LIT, as R138 has it. -/
theorem witness_ConditionsAreRaisedAndCleared_dark :
    let s := tabled []
    FaultEvent s (hot 88) ∧ s.storage = [] ∧ validate .ambient (s.table .ambient).active = none ∧ s.faults.tableWf ∧
    s.faults.flags.cabinetDark = decide (s.darkAt ≤ s.blankedNow) ∧ HoldsNone s.faults none .cabinetDark ∧
    (∀ m x, s.faults.modules[m]? = some x → ModuleDerived s m x) ∧
    (∀ e e' es, hot 88 ≠ .faultEvaluationDelivery (e :: e' :: es)) := by
  have none : ∀ P : FaultRecord → Prop, ¬ ∃ r ∈ (tabled []).faults.records, P r := by rintro P ⟨r, h, -⟩; cases h
  refine ⟨⟨rfl, by decide⟩, rfl, by decide, ⟨.nil, fun r h => (by cases h)⟩, by decide +kernel, fun r h => (by cases h), ?_, ?_⟩
  · intro m x h
    have hx : x = ModuleStatus.lit := by
      have : x ∈ List.replicate 4 ModuleStatus.lit := List.mem_of_getElem? h
      exact (List.mem_replicate.1 this).2
    exact ⟨fun h => absurd h (none _), fun _ h => (by cases h), fun _ _ h => absurd h (none _), fun _ _ _ => hx⟩
  · intro e e' es h
    cases h

theorem fullTable_full (r : FaultRecord) (h : r.slot = 63) : (fullTable r).faults.full := by
  intro n hn
  by_cases h63 : n = 63
  · exact ⟨r, by simp [fullTable, withRecords], by omega⟩
  · exact ⟨_, List.mem_append_left _ (List.mem_map_of_mem (List.mem_range.2 (show n < 63 by omega))), rfl⟩

theorem witness_FullTableLosesDetections :
    let latched := recordIn 63 (some 31) .overTemp .latched .absent
    let s := fullTable latched
    (s.started = true ∧ FaultKind.driverSilent.debounced = true ∧ s.storage = [] ∧ s.hasScope (some 20) ∧
      s.faults.restoreQueue = [] ∧ s.faults.full ∧
      (∀ r ∈ s.faults.records, r.state = .active ∨ r.state = .latched) ∧
      (∀ r ∈ s.faults.records, ¬ (r.scope = some 20 ∧ r.kind = .driverSilent)) ∧
      s.faults.flags.get .streamLost = false ∧ 2 ≤ s.confirmCount .driverSilent) ∧
    (let clearing := recordIn 63 none .motion .clearing .absent;
      (fullTable clearing).faults.tableWf ∧
        OldestIn (fullTable clearing).faults .clearing ((fullTable clearing).faults.records.take 63) clearing []) ∧
    (let suspect := recordIn 63 none .motion .suspect .absent;
      (fullTable suspect).faults.tableWf ∧ (∀ r ∈ (fullTable suspect).faults.records, r.state ≠ .clearing) ∧
        OldestIn (fullTable suspect).faults .suspect ((fullTable suspect).faults.records.take 63) suspect []) ∧
    (Holds (tabled [recordIn 0 (some 3) .overTemp .suspect .absent]).faults (some 3) .overTemp
      (recordIn 0 (some 3) .overTemp .suspect .absent)) := by
  refine ⟨⟨rfl, rfl, rfl, ?_, rfl, fullTable_full _ rfl, by decide +kernel, by decide +kernel, rfl, by decide +kernel⟩, ?_, ?_,
    by decide, rfl, rfl⟩
  · show 20 < (fullTable (recordIn 63 (some 31) .overTemp .latched .absent)).faults.modules.length
    decide
  · exact ⟨⟨by decide +kernel, by decide +kernel⟩, by decide +kernel, rfl, by decide +kernel⟩
  · exact ⟨⟨by decide +kernel, by decide +kernel⟩, by decide +kernel, by decide +kernel, rfl, by decide +kernel⟩

/-- The oldest CLEARING record of a full table is a BLANKED module's last BLANK record, the restore history being full. -/
theorem witness_FullTable_module :
    let r := recordIn 63 (some 31) .shortString .clearing .absent
    let f := (fullTable r).faults
    let s := { fullTable r with faults := { f with
      modules := f.modules.set 31 ⟨.blanked, 1024⟩, history := [0, 0, 0, 0] } }
    let room := { s with faults := { s.faults with history := [0], flags := ⟨false, false, false, true⟩ } }
    (room.faults.flags.cabinetDark = true ∧ room.faults.history.length < 4 ∧ room.faults.restoreQueue = []) ∧
    (s.faults.history.length = 4 ∧ (poke s .limits 6 2).blankedNow < (poke s .limits 6 2).darkAt) ∧
    (poke s .policy 3 1).confirmCount .driverSilent ≤ 1 ∧
    s.faults.tableWf ∧ OldestIn s.faults .clearing (s.faults.records.take 63) r [] ∧
    s.faults.modules[31]? = some ⟨.blanked, 1024⟩ ∧ ModuleDerived s 31 ⟨.blanked, 1024⟩ ∧
    (∀ q ∈ s.faults.records.take 63 ++ [], ¬ BlanksModule s 31 q) := by
  refine ⟨by decide, by decide +kernel, by decide +kernel, ⟨by decide +kernel, by decide +kernel⟩, ⟨by decide +kernel, rfl, by decide +kernel⟩, rfl, ?_, ?_⟩
  · have h2 : ∃ q ∈ (fullTable (recordIn 63 (some 31) .shortString .clearing .absent)).faults.records, ActsOn q 31 ∧
        base.presentOrDefault .policy (27 + q.kind.code) = 2 :=
      ⟨recordIn 63 (some 31) .shortString .clearing .absent, by decide +kernel, ⟨rfl, by decide⟩, by decide +kernel⟩
    exact ⟨fun _ => rfl, fun h => absurd h2 h, fun h => absurd h2 h, fun h => absurd h2 h⟩
  · intro q hq ⟨⟨hs, _⟩, _⟩
    have : ∀ q ∈ (fullTable (recordIn 63 (some 31) .shortString .clearing .absent)).faults.records.take 63,
        q.scope ≠ some 31 := by decide +kernel
    exact this q (by simpa using hq) hs

theorem witness_TableEccFollowsTheAffectedSet :
    let r := recordIn 0 none .tableEcc .active (.table .policy)
    let s := mark (tabled [r]) .policy [39]
    let t : State := { s with faults := { s.faults with affected := [.policy] } }
    (s.started = true ∧ s.storage = [] ∧ (s.table .policy).bad ≠ [] ∧ s.faults.tableWf ∧ s.faults.atRest) ∧
    (Holds t.faults none .tableEcc r ∧ Table.policy ∈ t.faults.affected ∧
      t.faults.affected.filter (fun y => y != .policy) = []) ∧ HoldsNone (tabled []).faults none .tableEcc :=
  ⟨⟨rfl, rfl, by decide, tableWf_one (recordIn 0 none .tableEcc .active (.table .policy)) (by decide), atRest_tabled _⟩,
    ⟨⟨by decide, rfl, rfl⟩, by decide, rfl⟩, fun r h => (by cases h)⟩

/-- A table in the affected set whose record is absent, and one with bad marks that finds the fault table full. -/
theorem witness_TableEccFollowsTheAffectedSet_unrecorded :
    let s := mark (tabled []) .policy [39]
    let t : State := { s with faults := { s.faults with affected := [.policy] } }
    let full := mark (fullTable (recordIn 63 (some 31) .overTemp .latched .absent)) .policy [39]
    (t.started = true ∧ t.storage = [] ∧ t.faults.tableWf ∧ t.faults.restoreQueue = [] ∧ (t.table .policy).bad ≠ [] ∧
      Table.policy ∈ t.faults.affected ∧ HoldsNone t.faults none .tableEcc) ∧
    ((full.table .policy).bad ≠ [] ∧ Table.policy ∉ full.faults.affected ∧ full.faults.full ∧ full.faults.tableWf ∧
      full.faults.restoreQueue = [] ∧ (∀ r ∈ full.faults.records, ¬ (r.scope = none ∧ r.kind = .tableEcc)) ∧
      ∀ r ∈ full.faults.records, r.state = .active ∨ r.state = .latched) := by
  exact ⟨⟨rfl, rfl, ⟨.nil, fun r h => (by cases h)⟩, rfl, by decide, by decide, fun r h => (by cases h)⟩,
    by decide, by decide, fullTable_full _ rfl, ⟨by decide +kernel, by decide +kernel⟩, rfl, by decide +kernel,
    by decide +kernel⟩

/-- A part whose module 0 waits to be restored, four admissions in the history, the oldest at count 0. -/
def waiting (now : Count) : State :=
  { base with
    time := { base.time with count := now }
    faults := { base.faults with modules := [⟨.restoreWait, 1024⟩], restoreQueue := [0], history := [0, 1, 2, 3] } }

theorem witness_RestoreWindowAdmitsTheHead :
    ((waiting 30000).storage = [] ∧ (waiting 30000).faults.tableWf ∧ (waiting 30000).faults.restoreQueue.Nodup) ∧
    (∀ m ∈ (waiting 30000).faults.restoreQueue,
      (∃ x, (waiting 30000).faults.modules[m]? = some x ∧ x.state = .restoreWait) ∧
        ∀ r ∈ (waiting 30000).faults.records, ActsOn r m →
          (waiting 30000).presentOrDefault .policy (27 + r.kind.code) ≠ 2) ∧
    (30000 ≤ ((waiting 30000).time.count - 0).toNat ∧ ((waiting 29999).time.count - 0).toNat < 30000 ∧
      (waiting 30000).faults.history = [0, 1, 2, 3]) ∧
    ((waiting 30000).faults.flags.cabinetDark = decide ((waiting 30000).darkAt < (waiting 30000).blankedNow) ∧
      (waiting 30000).blankedNow ≤ (waiting 30000).darkAt) := by
  refine ⟨⟨rfl, ⟨List.Pairwise.nil, fun r h => (by cases h)⟩, by decide⟩, ?_, ⟨by decide, by decide, rfl⟩, by decide +kernel⟩
  intro m hm
  have h0 : m = 0 := by simpa [waiting] using hm
  subst h0
  exact ⟨⟨⟨.restoreWait, 1024⟩, rfl, rfl⟩, fun r h => (by cases h)⟩

theorem witness_FaultRequestsReadAndClear :
    let s := tabled [recordIn 63 (some 3) .overTemp .latched .absent]
    s.receives here ∧ s.faults.tableWf ∧ s.storage = [] ∧ s.faults.flaps.length = 128 ∧
    (∀ r ∈ s.faults.records, r.state = .latched → ∃ m, r.scope = some m ∧ m < 32 ∧ r.kind.moduleScope = true) ∧
    (63 : Byte).toNat ≤ 63 ∧ 63 < (64 : Byte).toNat := by
  refine ⟨receives_here _ rfl rfl, tableWf_one _ (by decide), rfl, by decide +kernel, ?_, by decide, by decide⟩
  intro r h _
  rw [tabled_records] at h
  have : r = recordIn 63 (some 3) .overTemp .latched .absent := List.mem_singleton.1 h
  exact ⟨3, by rw [this]; rfl, by decide, by rw [this]; rfl⟩

theorem witness_DueTablesSwap :
    let s := fun (x : Table) (b : List Word) => withShadow base x (.posted b 3)
    (s .limits limitsDefault).storage = [] ∧ (s .limits limitsDefault).started = true ∧
    (s .limits limitsDefault).dueBank 3 .limits = some limitsDefault ∧
    (s .limits limitsDefault).dueBank 2 .limits = none ∧
    (∀ y, y ≠ .limits → (s .limits limitsDefault).dueBank 3 y = none) ∧
    (s .ambient ambientDefault).dueBank (3 + 32767) .ambient = some ambientDefault ∧
    (s .ambient ambientDefault).dueBank (3 + 32768) .ambient = none ∧ validate .ambient ambientDefault = none ∧
    (s .schedule scheduleDefault).dueBank 3 .schedule = some scheduleDefault ∧
    (s .policy policyDefault).dueBank 3 .policy = some policyDefault ∧
    (s .layout layoutDefault).dueBank 3 .layout = some layoutDefault := by
  refine ⟨rfl, rfl, rfl, rfl, ?_, rfl, rfl, by decide, rfl, rfl, rfl⟩
  intro y hy
  cases y <;> first | rfl | exact absurd rfl hy

/-- No table due, and a free slot beside an idle restore queue. -/
theorem witness_DueTablesSwap_none :
    (∀ x, base.dueBank 3 x = none) ∧ LowestFree base.faults 0 ∧ base.faults.restoreQueue = [] :=
  ⟨fun x => by cases x <;> rfl, ⟨by decide, fun r h => (by cases h), fun k h => (by omega)⟩, rfl⟩

/-- The premises on the Fault Monitor at a LAYOUT swap that removes modules. -/
theorem witness_DueTablesSwap_removes :
    let s := withShadow fourModules .layout (.posted layoutDefault 3)
    s.dueBank 3 .layout = some layoutDefault ∧ s.faults.flaps.length = 128 ∧ s.faults.tableWf ∧
    (∀ r ∈ s.faults.records, ∀ m, r.scope = some m → m < 32) ∧ s.faults.flags.cabinetDark = false ∧
    HoldsNone s.faults none .cabinetDark ∧ s.faults.atRest ∧ s.faults.roomForDark ∧
    (∃ r ∈ s.faults.records, OfRemoved 1 r) ∧
    (∀ m x, s.faults.modules[m]? = some x → ModuleDerived s m x) ∧
    (∀ m ∈ s.faults.restoreQueue, m < 32 ∧ ∃ x, s.faults.modules[m]? = some x ∧ x.state = .restoreWait) := by
  have records : (withShadow fourModules .layout (.posted layoutDefault 3)).faults.records =
    [recordIn 5 (some 3) .overTemp .active .absent, recordIn 7 (some 1) .shortString .latched .absent,
     recordIn 1 (some 3) .openString .suspect .absent, recordIn 0 none .motion .active .absent] := rfl
  refine ⟨rfl, by decide +kernel, ⟨by decide +kernel, by decide +kernel⟩, ?_, rfl, ?_, ⟨.inr rfl, ?_⟩,
    .inl ⟨2, by decide, by decide +kernel, ?_⟩,
    ⟨recordIn 5 (some 3) .overTemp .active .absent, by decide +kernel, 3, rfl, by decide⟩, ?_, ?_⟩
  · intro r hr m hm
    rw [records] at hr
    simp only [List.mem_cons, List.mem_nil_iff, or_false] at hr
    rcases hr with rfl | rfl | rfl | rfl <;> cases hm <;> decide
  · unfold HoldsNone
    decide +kernel
  · intro k hk d hd
    simp only [List.mem_cons, List.mem_nil_iff, or_false] at hk
    rcases hk with rfl | rfl | rfl | rfl | rfl <;> cases hd
  · intro k hk
    match k, hk with
    | 0, _ => exact ⟨recordIn 0 none .motion .active .absent, by decide +kernel, rfl⟩
    | 1, _ => exact ⟨recordIn 1 (some 3) .openString .suspect .absent, by decide +kernel, rfl⟩
  · intro m x h
    match m, h with
    | 0, h | 1, h | 2, h | 3, h =>
      cases h
      dsimp only [ModuleDerived, ActsOn]
      refine ⟨?_, ?_, ?_, ?_⟩ <;> decide +kernel
  · intro m hm
    cases List.mem_singleton.1 (show m ∈ [2] from hm)
    exact ⟨by decide, ⟨.restoreWait, 1024⟩, rfl, rfl⟩

/-- A swap that ends UNCONFIGURED: the only cause is a bad mark of the bank that it discards. -/
theorem witness_DueTablesSwap_released :
    let s := mark (withShadow base .policy (.posted policyDefault 3)) .policy [7]
    s.unconfigured = true ∧ (s.setTable .policy ⟨policyDefault, .clean, 1, []⟩).unconfigured = false := by decide

theorem shadows_clean (s : State) (h : ∀ x, (s.table x).shadow = .clean) :
    ∀ x b d, (s.table x).shadow = .editing b d → b.length = x.size ∧ d.Nodup ∧ ∀ i ∈ d, i < x.size := by
  intro x b d hx
  rw [h x] at hx
  cases hx

theorem witness_TableRequestsWriteAndRead :
    let s := withShadow base .limits (.editing limitsDefault [10])
    (s.receives here ∧ s.storage = [] ∧
      ∀ x b d, (s.table x).shadow = .editing b d → b.length = x.size ∧ d.Nodup) ∧
    (Table.limits.size = 10 + [(1 : Word)].length ∧ Table.limits.size < 11 + [(1 : Word)].length ∧ Table.limits.code = 6) ∧
    ({ base with storage := [⟨.limits, .active, 10, .uncorrectable⟩] } : State).storage =
      [⟨.limits, base.consulted .limits .shadow, 10, .uncorrectable⟩] := by
  refine ⟨⟨receives_here _ rfl rfl, rfl, ?_⟩, by decide, rfl⟩
  intro x b d h
  cases x <;> cases h
  exact ⟨rfl, by decide⟩

theorem witness_CommitAbandonAndLock :
    let s := fun d => withShadow base .limits (.editing limitsDefault d)
    ((s [10]).receives toAll ∧ (s [10]).storage = [] ∧
      ∀ x b d, ((s [10]).table x).shadow = .editing b d → b.length = x.size ∧ ∀ i ∈ d, i < x.size) ∧
    ((s [10]).tables.lock = false ∧ (s [10]).agent.save = none ∧ validate .limits limitsDefault = none ∧
      validate .limits (limitsDefault.set 10 2) = some 10) := by
  refine ⟨⟨receives_toAll _ rfl, rfl, ?_⟩, rfl, rfl, by decide, by decide⟩
  intro x b d h
  cases x <;> cases h
  exact ⟨rfl, by decide⟩

theorem witness_SavesWriteTheStore :
    let s := fun w => ({ base with agent := { base.agent with save := some ⟨w, [], some 17⟩ } } : State)
    (base.receives here ∧ base.agent.save = none ∧ ∀ x, (base.table x).shadow.name ≠ .posted) ∧
    (withShadow base .groups (.posted groupsDefault 0)).anyPosted = true ∧
    ((s (.headerOpen 1)).agent.save = some ⟨.headerOpen 1, [], some 17⟩ ∧ (s (.headerOpen 1)).storage = [] ∧
      Table.code .groups = Table.code .policy + 1) := by
  refine ⟨⟨receives_here _ rfl rfl, rfl, ?_⟩, rfl, rfl, rfl, rfl⟩
  intro x
  cases x <;> intro h <;> cases h

theorem witness_IdentityAndStatusAreRead : base.receives here ∧ base.receives toAll :=
  ⟨receives_here _ rfl rfl, receives_toAll _ rfl⟩

theorem witness_ResetsSetTheirValues :
    base.receives here ∧ base.storage = [] ∧
    ({ base with tables := { base.tables with lock := true } } : State).tables.lock = true ∧ Table.lockable .limits = true :=
  ⟨receives_here _ rfl rfl, rfl, rfl, rfl⟩

/-! ## Witnesses of the invariants -/

/-- A part that has started up and runs its local ticks in the dark, with a sweep tick waiting. -/
def steady : State := { base with stream := ⟨.dark, none, none, some ⟨0, 33⟩, none, []⟩, pending := [.sweepTick] }

theorem steady_link : LinkInvariant steady := by
  refine ⟨?_, ?_, ?_, ?_, ?_, ?_, ?_, ?_, ?_, ?_, ?_, fun b h => (by cases h), ?_, ?_, ?_, ?_, ?_, ?_, ?_, ?_, ?_, ?_, ?_⟩ <;>
    decide

theorem steady_stored : StoredDataInvariant steady := by
  refine ⟨by decide, by decide, by decide, fun d h => (by cases h), fun o h => (by cases h), by decide, by decide, by decide,
    by decide, by decide, by decide, by decide, by decide, fun o h => (by cases h)⟩

theorem steady_tables (x : Table) : validate x (steady.table x).active = none ∧
    (steady.table x).active.length = x.size ∧ (steady.table x).bad = [] ∧ (steady.table x).shadow = .clean := by
  cases x <;> decide +kernel

theorem steady_banks : BankInvariant steady := by
  refine ⟨fun x => ?_, ?_⟩
  · obtain ⟨hv, hl, hb, hs⟩ := steady_tables x
    refine ⟨hv, hl, by rw [hb]; exact .nil, fun b e h => ?_, fun b d h => ?_, fun _ _ => hs⟩ <;> rw [hs] at h <;> cases h
  · refine ⟨?_, ?_, ?_, ?_, ?_, ?_, ?_, ?_, ?_, ?_, ?_, ?_, fun p h => (by cases h), fun e h => (by cases h), ?_⟩ <;> decide

theorem steady_level : LevelInvariant steady := by
  refine ⟨steady_banks, ?_, ?_, ?_, ?_, ?_, ?_, ?_, ?_, ?_, ?_, ?_, ?_⟩ <;> decide

theorem steady_faults : FaultTableInvariant steady := by
  refine ⟨?_, steady_banks, ⟨.nil, fun r h => (by cases h)⟩, fun r h => (by cases h), by decide +kernel, by decide +kernel, by decide, by decide,
    by decide, fun m => ⟨fun h => (by cases h), ?_⟩, by decide, .inl rfl, by decide, fun h => (by cases h), ?_⟩
  · intro c hc
    have : c = .sweepTick := by simpa [steady] using hc
    rw [this]
    rfl
  · rintro ⟨x, hx, hs⟩
    rcases m with _ | m
    · cases hx
      cases hs
    · cases hx
  · intro k hk
    refine ⟨fun _ r h => (by cases h), fun h => ?_⟩
    simp only [List.mem_cons, List.mem_nil_iff, or_false] at hk
    rcases hk with rfl | rfl | rfl | rfl | rfl <;> exact absurd rfl h

theorem steady_steps : step steady = .next (after .sweepTick { steady with pending := [] }) := rfl

theorem witness_LinkInvariantIsKept : ∃ s t, LinkInvariant s ∧ step s = .next t := ⟨_, _, steady_link, steady_steps⟩

theorem witness_StoredDataInvariantIsKept : ∃ s t, StoredDataInvariant s ∧ step s = .next t :=
  ⟨_, _, steady_stored, steady_steps⟩

theorem witness_BankInvariantIsKept : ∃ s t, BankInvariant s ∧ step s = .next t ∧
    s.pending.head? ≠ some .powerOnReset := ⟨_, _, steady_banks, steady_steps, by decide⟩

theorem witness_LevelInvariantIsKept : ∃ s t, LevelInvariant s ∧ step s = .next t := ⟨_, _, steady_level, steady_steps⟩

theorem witness_FaultTableInvariantIsKept : ∃ s t, FaultTableInvariant s ∧ step s = .next t :=
  ⟨_, _, steady_faults, steady_steps⟩

/-- A part starting up, with a partner at U. -/
def starting : State := { State.reset with link := { Link.reset with partnerU := true } }

theorem witness_StartUpLoadsTheStore :
    starting.started = false ∧ starting.storage = [] ∧ LinkInvariant starting ∧ starting.reports.queue = [] ∧
    starting.dimming.level = 0 ∧ waitsForStart (.conditionDelivery .clockUnset true) = true := by
  refine ⟨rfl, rfl, ?_, rfl, rfl, rfl⟩
  refine ⟨?_, ?_, ?_, ?_, ?_, ?_, ?_, ?_, ?_, ?_, ?_, fun b h => (by cases h), ?_, ?_, ?_, ?_, ?_, ?_, ?_, ?_, ?_, ?_, ?_⟩ <;>
    decide

end Sys2Proof.Tests
end

section
/-! SUPPORT. What reads, recomputations, hand-overs and events of the Fault Monitor leave of the banks and of the stored
data: two relations between the state before and after, kept by composition. -/

namespace Sys2Proof.Machine

/-- The tables of `t` are those of `s` but for bad marks that reads have added. -/
structure TablesKept (s t : State) : Prop where
  active : ∀ x, (t.table x).active = (s.table x).active
  shadow : ∀ x, (t.table x).shadow = (s.table x).shadow
  bad : ∀ x, (s.table x).bad.Nodup → (t.table x).bad.Nodup
  lock : t.tables.lock = s.tables.lock
  save : s.agent.save = none → t.agent.save = none

/-- The tables are kept, and the Drive Port is as it was. -/
structure BankKept (s t : State) : Prop extends TablesKept s t where
  started : t.started = s.started
  drive : t.drive = s.drive

/-- The frame store, the clock, the trims and the override are those of `s`, but for an open frame that has been
discarded. -/
structure DataKept (s t : State) : Prop where
  displayed : t.capture.displayed = s.capture.displayed
  display : t.capture.display = s.capture.display
  fill : t.capture.fill = s.capture.fill
  incomplete : t.capture.incomplete = s.capture.incomplete
  opened : t.capture.opened = s.capture.opened ∨ t.capture.opened = none
  clock : t.time = { s.time with ceiling := t.time.ceiling, source := t.time.source }
  trims : t.trims = s.trims
  override : t.dimming.override = s.dimming.override

/-- Both the banks with the Drive Port and the stored data are kept. -/
structure Kept (s t : State) : Prop extends BankKept s t, DataKept s t

theorem TablesKept.refl (s : State) : TablesKept s s := ⟨fun _ => rfl, fun _ => rfl, fun _ h => h, rfl, id⟩

theorem TablesKept.trans {s t u : State} (h : TablesKept s t) (k : TablesKept t u) : TablesKept s u where
  active x := (k.active x).trans (h.active x)
  shadow x := (k.shadow x).trans (h.shadow x)
  bad x hx := k.bad x (h.bad x hx)
  lock := k.lock.trans h.lock
  save hs := k.save (h.save hs)

theorem BankKept.trans {s t u : State} (h : BankKept s t) (k : BankKept t u) : BankKept s u where
  toTablesKept := h.toTablesKept.trans k.toTablesKept
  started := k.started.trans h.started
  drive := k.drive.trans h.drive

theorem DataKept.trans {s t u : State} (h : DataKept s t) (k : DataKept t u) : DataKept s u where
  displayed := k.displayed.trans h.displayed
  display := k.display.trans h.display
  fill := k.fill.trans h.fill
  incomplete := k.incomplete.trans h.incomplete
  opened := k.opened.elim (fun e => e ▸ h.opened) .inr
  clock := by rw [k.clock, h.clock]
  trims := k.trims.trans h.trims
  override := k.override.trans h.override

theorem Kept.trans {s t u : State} (h : Kept s t) (k : Kept t u) : Kept s u where
  toBankKept := h.toBankKept.trans k.toBankKept
  toDataKept := h.toDataKept.trans k.toDataKept

/-- A state with the same tables keeps the tables. -/
theorem TablesKept.of_fields {s t : State} (h : t.tables = s.tables ∧ t.agent = s.agent) : TablesKept s t where
  active x := by simp only [State.table, h.1]
  shadow x := by simp only [State.table, h.1]
  bad x hx := by simpa only [State.table, h.1] using hx
  lock := by rw [h.1]
  save hs := by rwa [h.2]

/-- A state with the same tables, agent and Drive Port keeps the banks. -/
theorem BankKept.of_fields {s t : State}
    (h : t.tables = s.tables ∧ t.agent = s.agent ∧ t.started = s.started ∧ t.drive = s.drive) : BankKept s t where
  toTablesKept := .of_fields ⟨h.1, h.2.1⟩
  started := h.2.2.1
  drive := h.2.2.2

/-- A state with the same frame store, time, trims and override keeps the stored data. -/
theorem DataKept.of_fields {s t : State} (h : t.capture = s.capture ∧ t.time = s.time ∧ t.trims = s.trims ∧
    t.dimming.override = s.dimming.override) : DataKept s t := by
  obtain ⟨capture, time, trims, override⟩ := h
  exact ⟨by rw [capture], by rw [capture], by rw [capture], by rw [capture], .inl (by rw [capture]), by rw [time], trims,
    override⟩

/-- A state that differs in other fields alone. -/
theorem Kept.of_fields {s t : State} (h : t.tables = s.tables ∧ t.agent = s.agent ∧ t.started = s.started ∧
    t.drive = s.drive ∧ t.capture = s.capture ∧ t.time = s.time ∧ t.trims = s.trims ∧
    t.dimming.override = s.dimming.override) : Kept s t := by
  obtain ⟨tables, agent, started, drive, data⟩ := h
  exact ⟨.of_fields ⟨tables, agent, started, drive⟩, .of_fields data⟩

theorem Kept.refl (s : State) : Kept s s := .of_fields ⟨rfl, rfl, rfl, rfl, rfl, rfl, rfl, rfl⟩

/-! ## Hand-overs and reads -/

theorem State.hand_kept (s : State) (c : Instr) : Kept s (s.hand c) := .of_fields (by simp)

theorem State.take_kept (s : State) (c : Instr) : Kept s (s.take c) := .of_fields (by simp)

theorem State.emit_kept (s : State) (o : Output) : Kept s (s.emit o) := .of_fields (by simp)

theorem State.lowerLevel_kept (s : State) (l : Nat) : Kept s (s.lowerLevel l) := .of_fields (by simp)

theorem State.darkTarget_kept (s : State) : Kept s s.darkTarget := .of_fields (by simp)

theorem State.darkAtOnce_kept (s : State) : Kept s s.darkAtOnce := .of_fields (by simp)

theorem State.beginUnconfigured_kept (s : State) : Kept s s.beginUnconfigured where
  toBankKept := .of_fields (by simp)
  toDataKept := ⟨by simp, by simp, by simp, by simp, .inr rfl, by simp, by simp, by simp⟩

theorem State.consult_kept (s : State) (t : Table) (b : BankName) (i : Nat) : Kept s (s.consult t b i).2 :=
  .of_fields (by simp)

theorem State.noteCorrected_kept (s : State) (t : Table) (b : BankName) (i : Nat) : Kept s (s.noteCorrected t b i) where
  toBankKept := ⟨⟨by simp, by simp, by simp, by simp, by simp⟩, by simp, by simp⟩
  toDataKept := .of_fields (by simp)

/-- An uncorrectable error marks an entry that carried no mark. -/
theorem State.markBad_kept {s : State} {t : Table} {i : Nat} (h : i ∉ (s.table t).bad) : Kept s (s.markBad t i) := by
  have marked :
      Kept s ((s.setTable t { s.table t with bad := (s.table t).bad ++ [i] }).hand (.tableEccDelivery t true)) := by
    refine ⟨⟨⟨fun x => ?_, fun x => ?_, fun x hx => ?_, by simp, by simp⟩, by simp, by simp⟩, .of_fields (by simp)⟩
    · by_cases hxt : x = t <;> simp [hxt]
    · by_cases hxt : x = t <;> simp [hxt]
    · by_cases hxt : x = t
      · subst hxt
        simpa [List.nodup_append, hx] using fun a ha => (fun e : a = i => h (e ▸ ha))
      · simpa [hxt] using hx
  unfold State.markBad
  dsimp only
  split
  · exact marked.trans (State.beginUnconfigured_kept _)
  · exact marked

theorem State.readActive_kept (s : State) (t : Table) (i : Nat) : Kept s (s.readActive t i).2 := by
  unfold State.readActive
  split
  · exact .refl s
  · next h =>
    have consulted := s.consult_kept t .active i
    dsimp only
    split
    · exact consulted
    · exact consulted.trans (State.noteCorrected_kept ..)
    · exact consulted.trans (State.markBad_kept (by simpa using h))

theorem State.readEntry_kept (s : State) (t : Table) (i : Nat) : Kept s (s.readEntry t i).2 := s.readActive_kept t i

theorem State.readOrDefault_kept (s : State) (t : Table) (i : Nat) : Kept s (s.readOrDefault t i).2 :=
  s.readActive_kept t i

theorem State.readEntries_kept (t : Table) (l : List Nat) : ∀ s : State, Kept s (s.readEntries t l).2 := by
  induction l with
  | nil => exact Kept.refl
  | cons i is ih => exact fun s => (s.readEntry_kept t i).trans (ih _)

theorem State.readResults_kept (t : Table) (l : List Nat) : ∀ s : State, Kept s (s.readResults t l).2 := by
  induction l with
  | nil => exact Kept.refl
  | cons i is ih => exact fun s => (s.readActive_kept t i).trans (ih _)

theorem State.readUntilBad_kept (t : Table) (l : List Nat) : ∀ s : State, Kept s (s.readUntilBad t l).2 := by
  induction l with
  | nil => exact Kept.refl
  | cons i is ih =>
    intro s
    have read := s.readEntry_kept t i
    unfold State.readUntilBad
    dsimp only
    split
    · exact read
    · exact read.trans (ih _)

/-! ## The Link Interface and the Report Queue -/

theorem State.grantD_kept (s : State) : Kept s s.grantD := .of_fields (by simp)

theorem State.grantU_kept (s : State) : Kept s s.grantU := .of_fields (by simp)

theorem State.forward_kept (s : State) (f : DownFrame) : Kept s (s.forward f) := .of_fields (by simp)

theorem State.offerOwn_kept (s : State) (r : Reply) : Kept s (s.offerOwn r) := .of_fields (by simp)

theorem State.reply_kept (s : State) (h : MgmtHead) (code : Byte) (a : Answer) : Kept s (s.reply h code a) :=
  .of_fields (by simp)

theorem State.isMember_kept (s : State) (g : Nat) : Kept s (s.isMember g).2 := s.readEntry_kept .groups g

theorem State.takenHere_kept (s : State) (h : MgmtHead) : Kept s (s.takenHere h).2 := by
  unfold State.takenHere
  split
  · exact .refl s
  · split
    · exact .refl s
    · split
      · exact s.isMember_kept _
      · exact .refl s

theorem State.arriveMgmt_kept (s : State) (h : MgmtHead) (code : Byte) (args : List Byte) :
    Kept s (s.arriveMgmt h code args).2 := by
  unfold State.arriveMgmt
  split
  · exact (s.forward_kept _).trans (State.takenHere_kept _ h)
  · exact .refl s

theorem State.readMark_kept (s : State) (own other : Nat) : Kept s (s.readMark own other).2 :=
  s.readEntry_kept .policy own

theorem State.sendHold_kept (s : State) (pause : Nat) : Kept s (s.sendHold pause) := .of_fields (by simp)

theorem State.releaseHold_kept (s : State) : Kept s s.releaseHold := .of_fields (by simp)

theorem State.renewHold_kept (s : State) : Kept s s.renewHold :=
  (s.readOrDefault_kept .policy 42).trans (State.sendHold_kept _ _)

theorem State.checkAssert_kept (s : State) : Kept s s.checkAssert := by
  have read := s.readMark_kept 40 41
  unfold State.checkAssert
  dsimp only
  split
  · exact read.trans (State.renewHold_kept _)
  · exact read

theorem State.checkRelease_kept (s : State) : Kept s s.checkRelease := by
  have read := s.readMark_kept 41 40
  unfold State.checkRelease
  dsimp only
  split
  · exact read.trans (State.releaseHold_kept _)
  · exact read

theorem State.discardHold_kept (s : State) : Kept s s.discardHold := by
  have read : Kept s s.readPause.2 := s.readOrDefault_kept .policy 42
  unfold State.discardHold
  dsimp only
  split
  · split
    · exact read.trans (State.sendHold_kept _ _)
    · exact read
  · exact read

theorem State.joinQueue_kept (s : State) (r : ReportRec) : Kept s (s.joinQueue r) := by
  have queued : Kept s { s with reports := { s.reports with queue := s.reports.queue ++ [r] } } := .of_fields (by simp)
  exact queued.trans ((State.checkAssert_kept _).trans (State.grantU_kept _))

theorem State.discardRecord_kept (s : State) (src : RecordSource) : Kept s (s.discardRecord src) := by
  unfold State.discardRecord
  cases src <;> exact Kept.trans (.of_fields (by simp)) (State.discardHold_kept _)

theorem State.arriveRecord_kept (s : State) (src : RecordSource) (r : ReportRec) : Kept s (s.arriveRecord src r) := by
  unfold State.arriveRecord
  split
  · exact s.joinQueue_kept r
  · exact s.discardRecord_kept src

theorem State.arriveAll_kept (l : List ReportRec) : ∀ s : State, Kept s (s.arriveAll l) := by
  induction l with
  | nil => exact Kept.refl
  | cons r rs ih => exact fun s => (s.arriveRecord_kept _ r).trans (ih _)

theorem State.summary_kept (s : State) : Kept s s.summary := by
  unfold State.summary
  dsimp only
  split
  · exact Kept.trans (.of_fields (by simp)) (State.joinQueue_kept _ _)
  · exact s.discardRecord_kept _

end Sys2Proof.Machine
end

section
/-! SUPPORT. The operations of the Dimming Controller, the Time Base, the Luminance Pipeline, Stream Supervision and the
Fault Monitor that keep the banks and the stored data. -/

namespace Sys2Proof.Machine

/-! ## The Dimming Controller -/

theorem State.ambientCurve_kept (s : State) : Kept s s.ambientCurve.2 := by
  have read := s.readEntry_kept .ambient 0
  unfold State.ambientCurve
  dsimp only
  split
  · exact read
  · exact read.trans (State.readUntilBad_kept ..)

theorem State.setTarget_kept (s : State) (src : Source) (base : Nat) : Kept s (s.setTarget src base) := by
  unfold State.setTarget
  exact .of_fields (by simp)

theorem State.fallbackTarget_kept (s : State) : Kept s s.fallbackTarget := by
  have read := s.readEntry_kept .limits 2
  unfold State.fallbackTarget
  dsimp only
  split
  · exact read.trans (State.setTarget_kept ..)
  · exact read

theorem State.recompute_kept (s : State) : Kept s s.recompute := by
  have curve := s.ambientCurve_kept
  unfold State.recompute
  dsimp only
  split
  · exact s.darkTarget_kept
  · split
    · exact s.setTarget_kept _ _
    · split
      · split
        · exact curve.trans (State.setTarget_kept ..)
        · exact curve.trans (State.fallbackTarget_kept _)
      · exact s.fallbackTarget_kept

theorem State.raiseLevel_kept (s : State) (l : Nat) : Kept s (s.raiseLevel l) := by
  unfold State.raiseLevel
  exact .of_fields (by simp)

theorem State.levelTick_kept (s : State) : Kept s s.levelTick := by
  have up := s.readEntry_kept .limits 0
  have down := s.readEntry_kept .limits 1
  unfold State.levelTick
  dsimp only
  split
  · split
    · exact up.trans (State.raiseLevel_kept ..)
    · exact up
  · split
    · split
      · exact down.trans (State.lowerLevel_kept ..)
      · exact down
    · exact .refl s

theorem State.clampLevel_kept (s : State) (c : Nat) : Kept s (s.clampLevel c) := by
  have held : Kept s { s with dimming := { s.dimming with ceiling := c } } := .of_fields (by simp)
  unfold State.clampLevel
  dsimp only
  split
  · exact held.trans (State.lowerLevel_kept ..)
  · exact held

theorem State.ceilingChange_kept (s : State) (c : Nat) : Kept s (s.ceilingChange c) :=
  (s.clampLevel_kept c).trans (State.recompute_kept _)

/-- The replacement of the override leaves the banks. -/
theorem State.setOverride_bankKept (s : State) (o : Option Override) : BankKept s (s.setOverride o) :=
  BankKept.trans (t := { s with dimming := { s.dimming with override := o } }) (.of_fields (by simp))
    (State.recompute_kept _).toBankKept

/-! ## The Time Base -/

theorem State.unsetCeiling_kept (s : State) : Kept s s.unsetCeiling.2 := s.readEntry_kept .limits 3

theorem State.scheduledCeiling_kept (s : State) : Kept s s.scheduledCeiling.2 := by
  have read := s.readEntry_kept .schedule 0
  unfold State.scheduledCeiling
  dsimp only
  split
  · exact read.trans (State.readEntry_kept _ .limits 3)
  · exact read.trans (State.readEntries_kept ..)

theorem State.evaluateCeiling_kept (s : State) : Kept s s.evaluateCeiling := by
  have evaluated : Kept s (if s.time.clockSet then s.scheduledCeiling else s.unsetCeiling).2 := by
    split
    · exact s.scheduledCeiling_kept
    · exact s.unsetCeiling_kept
  unfold State.evaluateCeiling
  exact evaluated.trans ⟨.of_fields (by simp), by simp, by simp, by simp, by simp, by simp, by simp, by simp, by simp⟩

theorem State.ceilingEvent_kept (s : State) : Kept s s.ceilingEvent := by
  unfold State.ceilingEvent
  dsimp only
  split
  · exact s.evaluateCeiling_kept
  · exact s.evaluateCeiling_kept.trans (State.ceilingChange_kept ..)

theorem State.resetCeiling_kept (s : State) : Kept s s.resetCeiling := by
  unfold State.resetCeiling
  exact s.evaluateCeiling_kept.trans (.of_fields (by simp))

/-! ## Stream Supervision -/

theorem State.startTimeout_kept (s : State) : Kept s s.startTimeout := by
  unfold State.startTimeout
  exact (s.readOrDefault_kept .limits 7).trans (.of_fields (by simp))

theorem State.startLocalTick_kept (s : State) (c : Count) : Kept s (s.startLocalTick c) := by
  unfold State.startLocalTick
  exact (s.readOrDefault_kept .limits 9).trans (.of_fields (by simp))

theorem State.setStream_kept (s : State) (x : StreamState) : Kept s (s.setStream x) := by
  have set : Kept s { s with stream := { s.stream with state := x } } := .of_fields (by simp)
  unfold State.setStream
  dsimp only
  split
  · exact set
  · exact set.trans (State.recompute_kept _)

theorem State.enterDarkening_kept (s : State) : Kept s s.enterDarkening := by
  have entered := (s.setStream_kept .darkening).trans (State.startLocalTick_kept _ s.now)
  unfold State.enterDarkening
  dsimp only
  split
  · exact entered.trans (State.setStream_kept ..)
  · exact entered

/-! ## The Luminance Pipeline -/

theorem State.gammaSubstitute_kept (s : State) (c : Colour) (i : Nat) : Kept s (s.gammaSubstitute c i).2 := by
  unfold State.gammaSubstitute
  dsimp only
  split
  · exact .refl s
  · split
    · exact s.readEntry_kept ..
    · exact (s.readEntry_kept ..).trans (State.readEntry_kept ..)

theorem State.gammaPoint_kept (s : State) (c : Colour) (i : Nat) : Kept s (s.gammaPoint c i).2 := by
  have read := s.readEntry_kept .gamma (gammaIndex c i)
  unfold State.gammaPoint
  dsimp only
  split
  · exact read
  · exact read.trans (State.gammaSubstitute_kept ..)

theorem State.gammaPoints_kept (c : Colour) (l : List Nat) : ∀ s : State, Kept s (s.gammaPoints c l).2 := by
  induction l with
  | nil => exact Kept.refl
  | cons i is ih => exact fun s => (s.gammaPoint_kept c i).trans (ih _)

theorem State.coefficient_kept (s : State) (m : Nat) (c : Colour) : Kept s (s.coefficient m c).2 := by
  have read := s.readEntry_kept .calibration (3 * m + c.index)
  unfold State.coefficient
  dsimp only
  split
  · exact read
  · exact read.trans (State.readEntry_kept ..)

theorem State.colourInput_kept (s : State) (m : Nat) (samples : List Pixel) (c : Colour) :
    Kept s (s.colourInput m samples c).2 :=
  (s.coefficient_kept m c).trans (State.gammaPoints_kept ..)

theorem State.litWords_kept (s : State) (m level d : Nat) (lines : List (List Pixel)) :
    Kept s (s.litWords m level d lines).2 :=
  (s.colourInput_kept m _ .red).trans ((State.colourInput_kept _ m _ .green).trans (State.colourInput_kept _ m _ .blue))

theorem State.computeModule_kept (s : State) (m : Nat) : Kept s (s.computeModule m).2 := by
  have read := State.readEntries_kept .layout [2, 4, 6, 7] s
  unfold State.computeModule
  generalize s.readEntries .layout [2, 4, 6, 7] = r at read
  dsimp only
  split
  · split
    · exact read
    · exact read.trans (State.litWords_kept ..)
  · exact read

/-! ## The Fault Monitor -/

theorem Work.setFaults_kept (w : Work) (f : Faults) : Kept w.st (w.setFaults f).st := by
  unfold Work.setFaults
  exact .of_fields (by simp)

theorem State.readActions_kept (l : List FaultRecord) : ∀ s : State, Kept s (s.readActions l).2 := by
  induction l with
  | nil => exact Kept.refl
  | cons r rs ih =>
    exact fun s => (s.readOrDefault_kept ..).trans ((State.readOrDefault_kept ..).trans (ih _))

theorem State.deriveModule_kept (s : State) (m : Nat) : Kept s (s.deriveModule m) := by
  unfold State.deriveModule
  exact (State.readActions_kept (s.faults.acting m) s).trans (.of_fields (by simp))

theorem State.deriveModules_kept (l : List Nat) : ∀ s : State, Kept s (s.deriveModules l) := by
  induction l with
  | nil => exact Kept.refl
  | cons m ms ih => exact fun s => (s.deriveModule_kept m).trans (ih _)

theorem Work.deriveScope_kept (w : Work) (scope : Option Nat) : Kept w.st (w.deriveScope scope).st := by
  cases scope with
  | none => exact .refl w.st
  | some m => exact w.st.deriveModule_kept m

theorem Work.free_kept (w : Work) (r : FaultRecord) : Kept w.st (w.free r).st := by
  have removed := w.setFaults_kept (w.faults.remove r.slot)
  unfold Work.free
  dsimp only
  split
  · exact removed.trans (Work.deriveScope_kept { w.setFaults (w.faults.remove r.slot) with freed := true } _)
  · exact removed

theorem Work.makeRoom_kept (w : Work) : Kept w.st w.makeRoom.st := by
  unfold Work.makeRoom
  split
  · exact .refl w.st
  · split
    · exact Work.free_kept (w.sayRecord .cleared _) _
    · split
      · exact w.free_kept _
      · exact w.setFaults_kept _

theorem Work.place_kept (w : Work) (r : FaultRecord) : Kept w.st (w.place r).2.st := by
  unfold Work.place
  split
  · exact w.setFaults_kept _
  · exact .refl w.st

theorem Work.create_kept (w : Work) (r : FaultRecord) : Kept w.st (w.create r).2.st :=
  w.makeRoom_kept.trans (Work.place_kept ..)

theorem Work.enterActive_kept (w : Work) (r : FaultRecord) : Kept w.st (w.enterActive r).st := by
  unfold Work.enterActive
  split
  · exact w.setFaults_kept _
  · dsimp only
    refine Kept.trans ?_ (Work.deriveScope_kept _ _)
    split <;> exact (w.setFaults_kept _).trans (Work.setFaults_kept _ _)

theorem Work.readConfirm_kept (w : Work) (k : FaultKind) : Kept w.st (w.readConfirm k).2.st := w.st.readOrDefault_kept ..

theorem Work.readRelease_kept (w : Work) (k : FaultKind) : Kept w.st (w.readRelease k).2.st := w.st.readOrDefault_kept ..

theorem Work.miss_kept (w : Work) (r : FaultRecord) (n : Nat) : Kept w.st (w.miss r n).st := by
  have read := w.readRelease_kept r.kind
  unfold Work.miss
  dsimp only
  split
  · exact read.trans (Work.free_kept ((w.readRelease r.kind).2.sayRecord .cleared r) r)
  · exact read.trans (Work.setFaults_kept ..)

theorem Work.debounce_kept (w : Work) (e : Evaluation) : Kept w.st (w.debounce e).st := by
  have read := w.readConfirm_kept e.kind
  unfold Work.debounce
  dsimp only
  split
  · split
    · have created := read.trans (Work.create_kept _ (newRecord e w.st.stamp))
      split
      · split
        · exact created.trans (Work.enterActive_kept ..)
        · exact created
      · exact created
    · exact .refl w.st
  · next r _ =>
    split
    · have replaced := read.trans ((w.readConfirm e.kind).2.setFaults_kept
        ((w.readConfirm e.kind).2.faults.replace (r.detect w.st.stamp e.detail)))
      split
      · exact replaced.trans (Work.enterActive_kept ..)
      · exact replaced
    · exact w.free_kept r
    · exact w.setFaults_kept _
    · exact w.miss_kept r 1
    · exact w.setFaults_kept _
    · exact w.miss_kept r _
    · exact .refl w.st

theorem Work.raise_kept (w : Work) (k : FaultKind) (d : Detail) : Kept w.st (w.raise k d).st := by
  have created := w.create_kept (conditionRecord k d w.st.stamp)
  unfold Work.raise
  dsimp only
  split <;> exact created

theorem Work.clear_kept (w : Work) (k : FaultKind) : Kept w.st (w.clear k).st := by
  unfold Work.clear
  split
  · exact Work.free_kept (w.sayRecord .cleared _) _
  · exact .refl w.st

theorem Work.refresh_kept (w : Work) (k : FaultKind) : Kept w.st (w.refresh k).st := by
  unfold Work.refresh
  split
  · exact w.setFaults_kept _
  · exact .refl w.st

theorem Work.tellDimming_kept (w : Work) (c : Condition) (present : Bool) : Kept w.st (w.tellDimming c present).st := by
  cases c with
  | cabinetDark =>
    cases present
    · exact w.st.recompute_kept
    · exact w.st.darkAtOnce_kept
  | _ => exact .refl w.st

theorem Work.condition_kept (w : Work) (c : Condition) (present : Bool) : Kept w.st (w.condition c present).st := by
  have told (b : Bool) := (w.setFaults_kept { w.faults with flags := w.faults.flags.set c b }).trans
    (Work.tellDimming_kept (w.setFlag c b) c b)
  unfold Work.condition
  split
  · exact (told true).trans (Work.raise_kept ..)
  · exact w.refresh_kept _
  · exact (told false).trans (Work.clear_kept ..)
  · exact .refl w.st

theorem Work.setEccDetail_kept (w : Work) (t : Table) : Kept w.st (w.setEccDetail t).st := by
  unfold Work.setEccDetail
  split
  · exact w.setFaults_kept _
  · exact .refl w.st

theorem Work.eccNew_kept (w : Work) (t : Table) : Kept w.st (w.eccNew t).st := by
  have added := w.setFaults_kept { w.faults with affected := affectedWith w.faults.affected t }
  unfold Work.eccNew
  dsimp only
  split
  · exact added.trans (Work.setFaults_kept ..)
  · exact added.trans (Work.raise_kept ..)

theorem Work.eccEnd_kept (w : Work) (t : Table) : Kept w.st (w.eccEnd t).st := by
  have removed := w.setFaults_kept { w.faults with affected := w.faults.affected.filter (· != t) }
  unfold Work.eccEnd
  dsimp only
  split
  · exact removed.trans ((Work.setEccDetail_kept ..).trans (Work.clear_kept ..))
  · exact removed.trans (Work.setEccDetail_kept ..)

theorem Work.tableEcc_kept (w : Work) (t : Table) (present : Bool) : Kept w.st (w.tableEcc t present).st := by
  unfold Work.tableEcc
  split
  · split
    · exact .refl w.st
    · split
      · exact w.refresh_kept _
      · exact w.eccNew_kept t
  · split
    · exact w.eccEnd_kept t
    · exact .refl w.st

theorem Work.recordCondition_kept (w : Work) (k : FaultKind) : Kept w.st (w.recordCondition k).st := by
  unfold Work.recordCondition
  split
  · have placed (d : Detail) := w.place_kept (conditionRecord k d w.st.stamp)
    dsimp only
    split <;> exact placed _
  · exact .refl w.st

/-- Steps that each keep the banks and the stored data keep them together. -/
theorem Work.foldl_kept {α : Type} {f : Work → α → Work} (h : ∀ w a, Kept w.st (f w a).st) (l : List α) :
    ∀ w : Work, Kept w.st (l.foldl f w).st := by
  induction l with
  | nil => exact fun w => .refl w.st
  | cons a as ih => exact fun w => (h w a).trans (ih _)

theorem Work.recordConditions_kept (w : Work) : Kept w.st w.recordConditions.st := by
  unfold Work.recordConditions
  split
  · exact Work.foldl_kept Work.recordCondition_kept conditionKinds w
  · exact .refl w.st

theorem Work.evaluateDark_kept (w : Work) : Kept w.st w.evaluateDark.st := by
  have read := w.st.readOrDefault_kept .limits 6
  unfold Work.evaluateDark
  dsimp only
  split
  · split
    · exact read
    · exact read.trans (Work.condition_kept { w with st := (w.st.readOrDefault .limits 6).2 } ..)
  · exact read.trans (Work.condition_kept { w with st := (w.st.readOrDefault .limits 6).2 } ..)

theorem Work.admitHead_kept (w : Work) (m : Nat) : Kept w.st (w.admitHead m).st := by
  unfold Work.admitHead
  refine Kept.trans ?_ (Work.evaluateDark_kept _)
  exact (w.setFaults_kept _).trans (State.deriveModule_kept _ m)

theorem Work.admitAll_kept (n : Nat) : ∀ w : Work, Kept w.st (w.admitAll n).st := by
  induction n with
  | zero => exact fun w => .refl w.st
  | succ n ih =>
    intro w
    unfold Work.admitAll
    split
    · split
      · exact (w.admitHead_kept _).trans (ih _)
      · exact .refl w.st
    · exact .refl w.st

theorem Work.settle_kept (w : Work) (before : Nat) : Kept w.st (w.settle before).st := by
  have admitted := Work.admitAll_kept historyMax w
  unfold Work.settle
  dsimp only
  refine Kept.trans ?_ ((Work.admitAll_kept historyMax _).trans (Work.recordConditions_kept _))
  split
  · exact admitted
  · exact admitted.trans (Work.evaluateDark_kept _)

theorem Work.carry_kept {f : Work → Work} (h : ∀ w, Kept w.st (f w).st) (w : Work) : Kept w.st (w.carry f).st :=
  (h w).trans (Work.settle_kept ..)

theorem Work.evaluation_kept (w : Work) (e : Evaluation) : Kept w.st (w.evaluation e).st := by
  unfold Work.evaluation
  split
  · split
    · exact Work.carry_kept (fun w => w.debounce_kept e) w
    · exact .refl w.st
  · exact Work.carry_kept (fun w => w.debounce_kept e) w

theorem Work.clearLatched_kept (w : Work) (r : FaultRecord) : Kept w.st (w.clearLatched r).st := by
  refine Work.carry_kept (fun w => ?_) w
  refine Kept.trans ?_ (Work.free_kept _ r)
  split
  · exact w.setFaults_kept _
  · exact .refl w.st

theorem Work.removeRecords_kept (w : Work) (m : Nat) : Kept w.st (w.removeRecords m).st := by
  unfold Work.removeRecords
  refine (Work.foldl_kept (fun w r => ?_) _ w).trans (Work.foldl_kept (fun w r => ?_) _ _)
  · exact w.setFaults_kept _
  · exact w.setFaults_kept _

theorem Work.removeModule_kept (w : Work) (m : Nat) : Kept w.st (w.removeModule m).st := by
  unfold Work.removeModule
  exact (w.removeRecords_kept m).trans (Work.setFaults_kept ..)

theorem Work.layoutSwap_kept (n : Nat) (w : Work) : Kept w.st (w.layoutSwap n).st := by
  unfold Work.layoutSwap
  dsimp only
  refine Kept.trans ?_ (Work.settle_kept ..)
  refine Kept.trans ?_ (Work.evaluateDark_kept _)
  refine Kept.trans ?_ (Work.recordConditions_kept _)
  refine Kept.trans ?_ (Work.admitAll_kept historyMax _)
  refine Kept.trans ?_ (State.deriveModules_kept (List.range n) _)
  exact (Work.foldl_kept Work.removeModule_kept _ w).trans (Work.setFaults_kept ..)

/-- An event of the Fault Monitor keeps what its work keeps. -/
theorem State.faultEvent_kept {f : Work → Work} (h : ∀ w, Kept w.st (f w).st) (s : State) : Kept s (s.faultEvent f) := by
  have worked := h ⟨s, [], false⟩
  unfold State.faultEvent
  dsimp only
  split
  · exact worked
  · exact worked.trans (State.hand_kept ..)

theorem State.faultLayoutSwap_kept (s : State) : Kept s s.faultLayoutSwap :=
  State.faultEvent_kept (Work.layoutSwap_kept _) s

theorem State.faultPolicySwap_kept (s : State) : Kept s s.faultPolicySwap :=
  State.faultEvent_kept (Work.carry_kept fun w => State.deriveModules_kept _ w.st) s

theorem State.faultLimitsSwap_kept (s : State) : Kept s s.faultLimitsSwap :=
  State.faultEvent_kept (Work.carry_kept Work.evaluateDark_kept) s

end Sys2Proof.Machine
end

section
/-! SUPPORT. The commands that keep the banks, the Drive Port and the stored data. -/

namespace Sys2Proof.Machine

/-- Where the outcome is a next state, `P` holds of it. -/
def Leads (o : Host.Outcome State Fault Refusal) (P : State → Prop) : Prop := ∀ t, o = .next t → P t

theorem leads_next {u : State} {P : State → Prop} : Leads (.next u) P ↔ P u :=
  ⟨fun h => h u rfl, fun h _ e => (Host.Outcome.next.inj e) ▸ h⟩

/-- A choice between a step and standing still. -/
theorem Kept.ite {s t u : State} {c : Prop} [Decidable c] (h : Kept s t) (k : Kept s u) : Kept s (if c then t else u) := by
  split
  · exact h
  · exact k

/-! ## The ports -/

theorem State.raiseD_kept (s : State) : Kept s s.raiseD := by
  unfold State.raiseD
  exact Kept.trans (.of_fields (by simp)) (State.grantD_kept _)

theorem State.raiseU_kept (s : State) : Kept s s.raiseU := by
  unfold State.raiseU
  exact Kept.trans (.of_fields (by simp)) (State.grantU_kept _)

theorem State.dropD_kept (s : State) : Kept s s.dropD := by
  unfold State.dropD
  dsimp only
  split
  · exact .of_fields (by simp)
  · exact Kept.trans (.of_fields (by simp)) (State.emit_kept ..)

theorem State.dropU_kept (s : State) : Kept s s.dropU := by
  unfold State.dropU
  dsimp only
  split
  · exact .of_fields (by simp)
  · exact Kept.trans (.of_fields (by simp)) (State.emit_kept ..)

theorem execLinkUp_kept (p : Port) (s : State) : Leads (execLinkUp p s) (Kept s) := by
  cases p
  · exact leads_next.2 (Kept.trans (t := { s with link := { s.link with partnerU := true } }) (.of_fields (by simp))
      (.ite (State.raiseU_kept _) (.refl _)))
  · exact leads_next.2 (Kept.trans (t := { s with link := { s.link with partnerD := true } }) (.of_fields (by simp))
      (.ite (State.raiseD_kept _) (.refl _)))

theorem execLinkDown_kept (p : Port) (s : State) : Leads (execLinkDown p s) (Kept s) := by
  cases p
  · exact leads_next.2 (Kept.trans (t := { s with link := { s.link with partnerU := false } }) (.of_fields (by simp))
      (.ite (State.dropU_kept _) (.refl _)))
  · exact leads_next.2 (Kept.trans (t := { s with link := { s.link with partnerD := false } }) (.of_fields (by simp))
      (.ite (State.dropD_kept _) (.refl _)))

theorem execFrameCheckFailure_kept (p : Port) (s : State) : Leads (execFrameCheckFailure p s) (Kept s) := by
  cases p <;> exact leads_next.2 (.ite (.of_fields (by simp)) (.refl s))

theorem execSyncFrame_kept (frame content lux : Word) (flags : Byte) (s : State) :
    Leads (execSyncFrame frame content lux flags s) (Kept s) :=
  leads_next.2 (.ite (.of_fields (by simp)) (.refl s))

theorem execEnumFrame_kept (counter : Byte) (s : State) : Leads (execEnumFrame counter s) (Kept s) :=
  leads_next.2 (.ite (.ite (Kept.trans (.of_fields (by simp)) (State.forward_kept ..))
    (Kept.trans (.of_fields (by simp)) (State.forward_kept ..)))
    (.refl s))

theorem execMgmtNotTaken_kept (h : MgmtHead) (code : Byte) (args : List Byte) (s : State) :
    Leads (execMgmtNotTaken h code args s) (Kept s) :=
  leads_next.2 (s.arriveMgmt_kept h code args)

theorem execForwardedReply_kept (body : List Byte) (s : State) : Leads (execForwardedReply body s) (Kept s) :=
  leads_next.2 (.ite (.of_fields (by simp)) (.refl s))

theorem execForwardedFrameSent_kept (s : State) : Leads (execForwardedFrameSent s) (Kept s) := by
  refine leads_next.2 ?_
  split
  · exact Kept.trans (.of_fields (by simp)) (State.grantD_kept _)
  · exact .refl s

theorem execHoldFrameSent_kept (s : State) : Leads (execHoldFrameSent s) (Kept s) := by
  refine leads_next.2 ?_
  split
  · exact Kept.trans (.of_fields (by simp)) (State.grantD_kept _)
  · exact .refl s

theorem execReplySent_kept (s : State) : Leads (execReplySent s) (Kept s) := by
  refine leads_next.2 ?_
  split
  · exact Kept.trans (.of_fields (by simp)) (State.grantU_kept _)
  · exact .refl s

/-! ## The Report Queue -/

theorem State.abandonReport_kept (s : State) : Kept s s.abandonReport := .of_fields (by simp)

theorem execLocalReportDelivery_kept (reports : List Report) (s : State) :
    Leads (execLocalReportDelivery reports s) (Kept s) :=
  leads_next.2 ((s.take_kept _).trans (.ite (State.arriveAll_kept _ _) (.refl _)))

theorem execForwardedRecord_kept (rec : ReportRec) (s : State) : Leads (execForwardedRecord rec s) (Kept s) :=
  leads_next.2 (.ite (s.arriveRecord_kept _ _) (.refl s))

theorem execReportSent_kept (s : State) : Leads (execReportSent s) (Kept s) := by
  refine leads_next.2 ?_
  split
  · exact Kept.trans (.of_fields (by simp)) ((State.checkRelease_kept _).trans (State.grantU_kept _))
  · exact Kept.trans (.of_fields (by simp)) (State.grantU_kept _)
  · exact .refl s

theorem execSummaryCountAdvance_kept (s : State) : Leads (execSummaryCountAdvance s) (Kept s) := by
  have read := (s.take_kept .summaryCountAdvance).trans (State.readOrDefault_kept _ .policy 43)
  refine leads_next.2 ?_
  split
  · dsimp only
    split
    · exact read.trans (Kept.trans (.of_fields (by simp)) (State.summary_kept _))
    · exact read.trans (.of_fields (by simp))
  · exact s.take_kept _

theorem execHoldFrame_kept (pause : Word) (s : State) : Leads (execHoldFrame pause s) (Kept s) :=
  leads_next.2 (.ite (.ite (Kept.trans (.of_fields (by simp)) (State.grantU_kept _))
    (Kept.trans (.of_fields (by simp)) (State.abandonReport_kept _)))
    (.refl s))

theorem execHoldRefreshExpiry_kept (s : State) : Leads (execHoldRefreshExpiry s) (Kept s) :=
  leads_next.2 (.ite ((s.readMark_kept 41 40).trans (.ite (State.renewHold_kept _) (State.releaseHold_kept _))) (.refl s))

theorem execInboundHoldExpiry_kept (s : State) : Leads (execInboundHoldExpiry s) (Kept s) :=
  leads_next.2 (.ite (Kept.trans (.of_fields (by simp)) (State.grantU_kept _)) (.refl s))

/-! ## The Dimming Controller, Stream Supervision and the Time Base -/

theorem execDimmingSync_kept (lux : Word) (valid : Bool) (s : State) : Leads (execDimmingSync lux valid s) (Kept s) := by
  refine leads_next.2 ((s.take_kept _).trans (.ite ?_ (.refl _)))
  have recomputed := fun u : State => Kept.trans (s := u)
    (t := { u with dimming := { u.dimming with lux := lux, luxValid := valid } })
    (.of_fields (by simp)) ((State.hand_kept _ (.faultEvaluationDelivery [⟨.ambientInvalid, none, !valid, .absent⟩])).trans
      (State.recompute_kept _))
  exact .ite ((recomputed _).trans (State.levelTick_kept _)) (recomputed _)

theorem execDimmingLocalTick_kept (s : State) : Leads (execDimmingLocalTick s) (Kept s) := by
  have taken : Kept s { s.take .dimmingLocalTick with
      stream := { (s.take .dimmingLocalTick).stream with ticks := (s.take .dimmingLocalTick).stream.ticks.tail } } :=
    .of_fields (by simp)
  exact leads_next.2 (.ite (taken.trans (State.levelTick_kept _)) taken)

theorem execStreamSync_kept (s : State) : Leads (execStreamSync s) (Kept s) := by
  refine leads_next.2 ((s.take_kept .streamSync).trans (.ite ?_ (.refl _)))
  have started := fun u : State => Kept.trans (s := u) (t := { u with stream := { u.stream with lastSync := some u.now } })
    (.of_fields (by simp)) (State.startTimeout_kept _)
  refine .ite (started _) ((started _).trans ?_)
  exact Kept.trans (.of_fields (by simp)) ((State.setStream_kept _ .live).trans (State.hand_kept ..))

theorem execSyncTimeoutExpiry_kept (s : State) : Leads (execSyncTimeoutExpiry s) (Kept s) := by
  refine leads_next.2 (.ite ?_ (.refl s))
  have read := Kept.trans (s := s) (t := { s with stream := { s.stream with timeout := none } }) (.of_fields (by simp))
    (State.readOrDefault_kept _ .limits 8)
  refine Kept.trans (read.trans ?_) (State.hand_kept _ (.conditionDelivery .streamLost true))
  exact .ite (State.enterDarkening_kept _) (Kept.trans (.of_fields (by simp)) (State.setStream_kept ..))

theorem execHoldExpiry_kept (s : State) : Leads (execHoldExpiry s) (Kept s) :=
  leads_next.2 (.ite (Kept.trans (.of_fields (by simp)) (State.enterDarkening_kept _)) (.refl s))

theorem execLocalTickExpiry_kept (s : State) : Leads (execLocalTickExpiry s) (Kept s) := by
  have delivered : Kept s s.deliverLocalTick := by
    unfold State.deliverLocalTick
    exact .of_fields (by simp)
  refine leads_next.2 ?_
  split
  · exact .refl s
  · exact .ite (delivered.trans (State.startLocalTick_kept ..)) (.refl s)

theorem execLZeroNotice_kept (s : State) : Leads (execLZeroNotice s) (Kept s) :=
  leads_next.2 ((s.take_kept .lZeroNotice).trans (.ite (State.setStream_kept ..) (.refl _)))

theorem execSecondEventLink_kept (s : State) : Leads (execSecondEventLink s) (Kept s) := by
  refine leads_next.2 ((s.take_kept .secondEventLink).trans (.ite ?_ (.refl _)))
  exact Kept.trans (.of_fields (by simp)) ((State.readEntry_kept _ .policy 38).trans (State.hand_kept ..))

theorem execMinuteEventCeiling_kept (s : State) : Leads (execMinuteEventCeiling s) (Kept s) :=
  leads_next.2 ((s.take_kept .minuteEventCeiling).trans (.ite (State.ceilingEvent_kept _) (.refl _)))

/-! ## The Fault Monitor -/

theorem execFaultEvaluationDelivery_kept (es : List Evaluation) (s : State) :
    Leads (execFaultEvaluationDelivery es s) (Kept s) :=
  leads_next.2 ((s.take_kept _).trans
    (.ite (State.faultEvent_kept (Work.foldl_kept Work.evaluation_kept es) _) (.refl _)))

theorem execConditionDelivery_kept (c : Condition) (present : Bool) (s : State) :
    Leads (execConditionDelivery c present s) (Kept s) :=
  leads_next.2 ((s.take_kept _).trans
    (.ite (State.faultEvent_kept (Work.carry_kept fun w => w.condition_kept c present) _) (.refl _)))

theorem execTableEccDelivery_kept (t : Table) (present : Bool) (s : State) :
    Leads (execTableEccDelivery t present s) (Kept s) :=
  leads_next.2 ((s.take_kept _).trans
    (.ite (State.faultEvent_kept (Work.carry_kept fun w => w.tableEcc_kept t present) _) (.refl _)))

theorem execRestoreWindowExpiry_kept (s : State) : Leads (execRestoreWindowExpiry s) (Kept s) :=
  leads_next.2 (.ite (State.faultEvent_kept (Work.carry_kept fun w => w.setFaults_kept _) _) (.refl s))

/-! ## The requests that keep the banks and the stored data -/

/-- A request relates the state it is received in to the state it leaves, where carrying it out does and the arrival of
its frame and its reply do. -/
theorem State.request_related {R : State → State → Prop} (trans : ∀ {s t u}, R s t → R t u → R s u)
    (kept : ∀ {s t}, Kept s t → R s t) {carryOut : State → Answer × State} (h : ∀ u, R u (carryOut u).2) (s : State)
    (head : MgmtHead) (code : Byte) (args : List Byte) : R s (s.request head code args carryOut) := by
  have arrived := kept (s.arriveMgmt_kept head code args)
  unfold State.request
  dsimp only
  split
  · exact trans arrived (trans (h _) (kept (State.reply_kept ..)))
  · exact arrived

theorem State.request_kept {carryOut : State → Answer × State} (h : ∀ u, Kept u (carryOut u).2) (s : State)
    (head : MgmtHead) (code : Byte) (args : List Byte) : Kept s (s.request head code args carryOut) :=
  State.request_related (R := Kept) Kept.trans (fun k => k) h s head code args

theorem faultRead_kept (args : List Byte) (s : State) : Kept s (faultRead args s).2 := by
  unfold faultRead
  split <;> exact .refl s

theorem faultClear_kept (args : List Byte) (s : State) : Kept s (faultClear args s).2 := by
  unfold faultClear
  split
  · exact .refl s
  · split
    · split
      · exact State.faultEvent_kept (fun w => w.clearLatched_kept _) s
      · exact .refl s
    · exact .refl s
  · exact State.faultEvent_kept (Work.foldl_kept Work.clearLatched_kept _) s

/-! ## The writes of a SAVE -/

theorem State.writeItem_kept {s : State} (h : s.agent.save ≠ none) (run : SaveRun) : Kept s (s.writeItem run) where
  toBankKept := ⟨⟨fun _ => rfl, fun _ => rfl, fun _ h => h, rfl, fun e => absurd e h⟩, rfl, rfl⟩
  toDataKept := .of_fields ⟨rfl, rfl, rfl, rfl⟩

theorem State.saveTable_kept {s : State} (h : s.agent.save ≠ none) (run : SaveRun) (t : Table) :
    Kept s (s.saveTable run t) := by
  unfold State.saveTable
  exact (State.readEntries_kept t _ s).trans (State.writeItem_kept (by simpa using h) _)

theorem State.endSave_kept (s : State) (run : SaveRun) (a : Answer) : Kept s (s.endSave run a) := by
  have ended : Kept s { s with agent := { s.agent with save := none } } :=
    ⟨⟨⟨fun _ => rfl, fun _ => rfl, fun _ h => h, rfl, fun _ => rfl⟩, rfl, rfl⟩, .of_fields ⟨rfl, rfl, rfl, rfl⟩⟩
  unfold State.endSave
  dsimp only
  split
  · exact ended.trans (State.offerOwn_kept ..)
  · exact ended

theorem State.saveNext_kept {s : State} (h : s.agent.save ≠ none) (run : SaveRun) : Kept s (s.saveNext run) := by
  unfold State.saveNext
  split
  · exact State.saveTable_kept h run _
  · split
    · exact State.saveTable_kept h run _
    · exact State.writeItem_kept h _
  · exact State.writeItem_kept h _
  · exact s.endSave_kept run _

theorem execSaveWriteSuccess_kept (s : State) : Leads (execSaveWriteSuccess s) (Kept s) := by
  refine leads_next.2 ?_
  split
  · next run h => exact Kept.trans (.of_fields (by simp)) (State.saveNext_kept (by simp [h]) run)
  · exact .refl s

theorem execSaveWriteFailure_kept (s : State) : Leads (execSaveWriteFailure s) (Kept s) := by
  refine leads_next.2 ?_
  split
  · exact s.endSave_kept ..
  · exact .refl s

end Sys2Proof.Machine
end

section
/-! SUPPORT. The stored data in its ranges: the frame store, the clock, the trims and the override, and the operations that
change them. -/

namespace Sys2Proof.Machine

/-- The coverage map of an open frame is rising and lies in its window (R28). -/
def OpenFit (o : OpenFrame) : Prop :=
  o.coverage.Pairwise (· < ·) ∧ ∀ a ∈ o.coverage, a < o.geometry.width * o.geometry.height

/-- The frame store in its form and ranges. -/
structure CaptureFit (c : Capture) : Prop where
  display : SlotWf c.display
  fill : SlotWf c.fill
  incomplete : c.incomplete ≤ 65535
  displayed : ∀ d, c.displayed = some d → d.dwell ≤ 65535
  opened : ∀ o, c.opened = some o → OpenFit o

/-- The clock is legal, and the drift and the accumulator keep their ranges. -/
structure ClockFit (t : TimeBase) : Prop where
  weekday : 1 ≤ t.weekday ∧ t.weekday ≤ 7
  minute : t.minute < 1440
  ms : t.ms < 60000
  accumulator : t.accumulator < 1000000
  drift : t.drift.natAbs ≤ 500

/-- The trims number 96 and keep their range. -/
def TrimsFit (l : List Int) : Prop := l.length = 96 ∧ ∀ t ∈ l, -16 ≤ t ∧ t ≤ 15

/-- The override record keeps its ranges. -/
def OverrideFit (o : Override) : Prop := o.level ≤ 1024 ∧ 1 ≤ o.minutes ∧ o.minutes ≤ 1440

theorem storedDataInvariant_iff (s : State) : StoredDataInvariant s ↔
    CaptureFit s.capture ∧ ClockFit s.time ∧ TrimsFit s.trims ∧ ∀ o, s.dimming.override = some o → OverrideFit o := by
  constructor
  · rintro ⟨hd, hf, hi, hw, ho, h1, h7, hm, hs, ha, hr, hl, ht, hv⟩
    exact ⟨⟨hd, hf, hi, hw, ho⟩, ⟨⟨h1, h7⟩, hm, hs, ha, hr⟩, ⟨hl, ht⟩, hv⟩
  · rintro ⟨⟨hd, hf, hi, hw, ho⟩, ⟨⟨h1, h7⟩, hm, hs, ha, hr⟩, ⟨hl, ht⟩, hv⟩
    exact ⟨hd, hf, hi, hw, ho, h1, h7, hm, hs, ha, hr, hl, ht, hv⟩

/-- The step from `s` to `t` keeps the stored data in its ranges. -/
def DataSafe (s t : State) : Prop := StoredDataInvariant s → StoredDataInvariant t

theorem DataSafe.trans {s t u : State} (h : DataSafe s t) (k : DataSafe t u) : DataSafe s u := fun i => k (h i)

/-- A step is safe where it keeps each of the four parts. -/
theorem DataSafe.of_parts {s t : State} (capture : CaptureFit s.capture → CaptureFit t.capture)
    (time : ClockFit s.time → ClockFit t.time) (trims : TrimsFit s.trims → TrimsFit t.trims)
    (override : (∀ o, s.dimming.override = some o → OverrideFit o) → ∀ o, t.dimming.override = some o → OverrideFit o) :
    DataSafe s t := by
  intro i
  obtain ⟨hc, hk, ht, ho⟩ := (storedDataInvariant_iff s).1 i
  exact (storedDataInvariant_iff t).2 ⟨capture hc, time hk, trims ht, override ho⟩

/-- What is kept stays in its ranges. -/
theorem DataKept.safe {s t : State} (h : DataKept s t) : DataSafe s t := by
  refine .of_parts (fun c => ?_) (fun k => ?_) (fun f => h.trims ▸ f) (fun o => h.override ▸ o)
  · refine ⟨h.display ▸ c.display, h.fill ▸ c.fill, h.incomplete ▸ c.incomplete, h.displayed ▸ c.displayed, fun o e => ?_⟩
    rcases h.opened with k | k
    · exact c.opened o (k ▸ e)
    · simp [k] at e
  · rw [h.clock]
    exact ⟨k.weekday, k.minute, k.ms, k.accumulator, k.drift⟩

/-! ## Frame Capture -/

/-- A state that differs from `s` at the frame store alone. -/
theorem DataSafe.of_capture {s : State} {c : Capture} (h : CaptureFit s.capture → CaptureFit c) :
    DataSafe s { s with capture := c } := .of_parts h id id id

/-- The segment writes leave the FILL slot in its form, and the coverage map rising and in the window (R28, R29). -/
theorem writeSegment_fit {g : Geometry} {wy : Nat} (hw : wy < g.height) (ps : List Pixel) :
    ∀ (col : Nat) (acc : Slot × List Nat), SlotWf acc.1 → acc.2.Pairwise (· < ·) →
      (∀ a ∈ acc.2, a < g.width * g.height) →
      SlotWf (writeSegment g wy col ps acc).1 ∧ (writeSegment g wy col ps acc).2.Pairwise (· < ·) ∧
        ∀ a ∈ (writeSegment g wy col ps acc).2, a < g.width * g.height := by
  induction ps with
  | nil => exact fun _ _ h1 h2 h3 => ⟨h1, h2, h3⟩
  | cons p ps ih =>
    intro col acc h1 h2 h3
    unfold writeSegment
    split
    · next h =>
      refine ih _ _ (slotWf_writeSlot h1 _ _) (addSorted_rising h2) fun a ha => ?_
      rcases mem_addSorted.1 ha with rfl | ha
      · calc wy * g.width + (col - g.x0) < (wy + 1) * g.width := by rw [Nat.succ_mul]; omega
          _ ≤ g.height * g.width := Nat.mul_le_mul_right _ hw
          _ = g.width * g.height := Nat.mul_comm ..
      · exact h3 a ha
    · exact ih _ _ h1 h2 h3

theorem Capture.pixel_fit {c : Capture} (h : CaptureFit c) (line column : Word) (samples : List Pixel) :
    CaptureFit (c.pixel line column samples) := by
  unfold Capture.pixel
  split
  · exact h
  · next o ho =>
    dsimp only
    split
    · next hy =>
      obtain ⟨rising, inside⟩ := h.opened o ho
      obtain ⟨slot, rising', inside'⟩ := writeSegment_fit (g := o.geometry)
        (wy := line.toNat % pictureSize - o.geometry.y0) (by omega) samples (column.toNat % pictureSize)
        (c.fill, o.coverage) h.fill rising inside
      refine ⟨h.display, slot, h.incomplete, h.displayed, fun o' e => ?_⟩
      obtain rfl := Option.some.inj e
      exact ⟨rising', inside'⟩
    · exact h

/-- A saturating counter stays at or below its bound. -/
theorem saturate_le (bound n : Nat) : saturate bound n ≤ bound := Nat.min_le_left ..

theorem Capture.advanceDwell_fit {c : Capture} (h : CaptureFit c) : CaptureFit c.advanceDwell := by
  refine ⟨h.display, h.fill, h.incomplete, fun d e => ?_, h.opened⟩
  obtain ⟨d', -, rfl⟩ := Option.map_eq_some_iff.1 e
  exact saturate_le counterMax d'.dwell

theorem State.swapSlots_safe (s : State) {d : Displayed} (h : d.dwell ≤ 65535) : DataSafe s (s.swapSlots d) :=
  .of_capture fun c => ⟨c.fill, c.display, c.incomplete, fun _ e => Option.some.inj e ▸ h, c.opened⟩

theorem State.decideHeld_safe (s : State) (o : OpenFrame) (sig : Check) {d : Displayed} (h : d.dwell ≤ 65535) :
    DataSafe s (s.decideHeld o sig d).2 := by
  have read := fun i => (s.readEntry_kept .limits i).toDataKept.safe
  unfold State.decideHeld
  dsimp only
  split
  · split
    · exact read 5
    · split
      · exact read 5
      · exact (read 5).trans (State.swapSlots_safe _ h)
  · split
    · exact read 4
    · split
      · exact read 4
      · exact (read 4).trans (State.swapSlots_safe _ (Nat.zero_le _))

theorem State.decideComplete_safe (s : State) (o : OpenFrame) : DataSafe s (s.decideComplete o).2 := by
  intro i
  have displayed := ((storedDataInvariant_iff s).1 i).1.displayed
  revert i
  unfold State.decideComplete
  dsimp only
  split
  · exact s.swapSlots_safe (Nat.zero_le _)
  · next d h => exact s.decideHeld_safe o _ (displayed d h)

theorem State.closeFrame_safe (s : State) : DataSafe s s.closeFrame.2 := by
  unfold State.closeFrame
  split
  · exact id
  · have closed : DataSafe s { s with capture := { s.capture with opened := none } } :=
      .of_capture fun c => ⟨c.display, c.fill, c.incomplete, c.displayed, by simp⟩
    dsimp only
    split
    · exact closed.trans (State.decideComplete_safe _ _)
    · exact closed.trans (.of_parts (fun c => ⟨c.display, c.fill, saturate_le counterMax _, c.displayed, c.opened⟩) id id id)

theorem State.openFrame_safe (s : State) (frame content : Word) : DataSafe s (s.openFrame frame content) := by
  have read := (State.readEntries_kept .layout (List.range 8) s).toDataKept.safe
  unfold State.openFrame
  split
  · exact id
  · generalize s.readEntries .layout (List.range 8) = r at read
    dsimp only
    split
    · refine read.trans (.of_capture fun c => ⟨c.display, c.fill, c.incomplete, c.displayed, fun o e => ?_⟩)
      obtain rfl := Option.some.inj e
      exact ⟨.nil, by simp⟩
    · exact read

/-- Frame Capture at a SYNC leaves the banks (R31). -/
theorem State.closeFrame_bankKept (s : State) : BankKept s s.closeFrame.2 := by
  have swapped (u : State) (d : Displayed) : BankKept u (u.swapSlots d) := .of_fields ⟨rfl, rfl, rfl, rfl⟩
  have held (u : State) (o : OpenFrame) (sig : Check) (d : Displayed) : BankKept u (u.decideHeld o sig d).2 := by
    have read := fun i => (u.readEntry_kept .limits i).toBankKept
    unfold State.decideHeld
    dsimp only
    split
    · split
      · exact read 5
      · split
        · exact read 5
        · exact (read 5).trans (swapped ..)
    · split
      · exact read 4
      · split
        · exact read 4
        · exact (read 4).trans (swapped ..)
  unfold State.closeFrame
  split
  · exact (Kept.refl s).toBankKept
  · have closed : BankKept s { s with capture := { s.capture with opened := none } } := .of_fields (by simp)
    dsimp only
    split
    · refine closed.trans ?_
      unfold State.decideComplete
      dsimp only
      split
      · exact swapped ..
      · exact held ..
    · exact closed.trans (.of_fields (by simp))

theorem State.openFrame_bankKept (s : State) (frame content : Word) : BankKept s (s.openFrame frame content) := by
  have read := (State.readEntries_kept .layout (List.range 8) s).toBankKept
  unfold State.openFrame
  split
  · exact (Kept.refl s).toBankKept
  · dsimp only
    split
    · exact read.trans (.of_fields (by simp))
    · exact read

/-! ## The clock -/

theorem TimeBase.stepAdvance_le (t : TimeBase) : t.stepAdvance ≤ 2 := by
  unfold TimeBase.stepAdvance
  repeat' split
  all_goals omega

theorem TimeBase.stepAccumulator_lt {t : TimeBase} (h : ClockFit t) : t.stepAccumulator < 1000000 := by
  have ha := h.accumulator
  have hd := h.drift
  unfold TimeBase.stepAccumulator TimeBase.compensated compensationBound
  split
  · omega
  · simp_all

/-- An advance by at most a minute leaves a legal clock (R85). -/
theorem TimeBase.advance_fit {t : TimeBase} (h : ClockFit t) {n : Nat} (hn : n ≤ minuteMs) : ClockFit (t.advance n) := by
  have hw := h.weekday
  have hs := h.ms
  unfold minuteMs at hn
  unfold TimeBase.advance minuteMs dayMinutes
  split
  · exact ⟨h.weekday, h.minute, ‹_›, h.accumulator, h.drift⟩
  · split
    · exact ⟨h.weekday, ‹_›, by simp only; omega, h.accumulator, h.drift⟩
    · refine ⟨?_, by simp, by simp only; omega, h.accumulator, h.drift⟩
      dsimp only
      split <;> omega

theorem TimeBase.step_fit {t : TimeBase} (h : ClockFit t) : ClockFit t.step := by
  have counted : ClockFit { t with count := t.count + 1, accumulator := t.stepAccumulator } :=
    ⟨h.weekday, h.minute, h.ms, TimeBase.stepAccumulator_lt h, h.drift⟩
  exact TimeBase.advance_fit counted (Nat.le_trans t.stepAdvance_le (by decide))

theorem execMillisecondStep_safe (s : State) : Leads (execMillisecondStep s) fun t => DataSafe s t ∧ BankKept s t := by
  have stepped : DataSafe s { s with time := s.time.step } ∧ BankKept s { s with time := s.time.step } :=
    ⟨.of_parts id TimeBase.step_fit id id, .of_fields (by simp)⟩
  have second (u : State) : Kept u u.secondEvent := by
    unfold State.secondEvent
    exact .of_fields (by simp)
  have minute (u : State) : Kept u u.minuteEvent := by
    unfold State.minuteEvent
    exact .of_fields (by simp)
  have events : Kept { s with time := s.time.step } (if s.started && s.time.crossesSecond then
      State.secondEvent { s with time := s.time.step } else { s with time := s.time.step }) := .ite (second _) (.refl _)
  have events := events.trans (.ite (c := (s.started && s.time.crossesMinute) = true) (minute _) (.refl _))
  exact leads_next.2 ⟨stepped.1.trans events.toDataKept.safe, stepped.2.trans events.toBankKept⟩

theorem timeSetArgs_range {args : List Byte} {w m ms : Nat} (h : timeSetArgs args = some (w, m, ms)) :
    1 ≤ w ∧ w ≤ 7 ∧ m ≤ 1439 ∧ ms ≤ 59999 := by
  unfold timeSetArgs at h
  split at h
  · simp only [within, Bool.and_eq_true, decide_eq_true_eq, Option.ite_none_right_eq_some, Option.some.injEq,
      Prod.mk.injEq] at h
    omega
  · cases h

theorem timeSet_safe (args : List Byte) (s : State) : DataSafe s (timeSet args s).2 ∧ BankKept s (timeSet args s).2 := by
  unfold timeSet
  split
  · exact ⟨id, (Kept.refl s).toBankKept⟩
  · next w m ms h =>
    obtain ⟨h1, h7, hm, hms⟩ := timeSetArgs_range h
    have rest (u : State) : Kept u (State.ceilingEvent (if s.time.clockSet = true then u else
        u.hand (.conditionDelivery .clockUnset false))) :=
      Kept.trans (.ite (.refl u) (u.hand_kept _)) (State.ceilingEvent_kept _)
    refine ⟨DataSafe.trans ?_ (rest _).toDataKept.safe, BankKept.trans ?_ (rest _).toBankKept⟩
    · exact .of_parts id (fun k => ⟨⟨h1, h7⟩, by simp only; omega, by simp only; omega, k.accumulator, k.drift⟩) id id
    · exact .of_fields (by simp)

theorem driftSet_safe (args : List Byte) (s : State) : DataSafe s (driftSet args s).2 ∧ BankKept s (driftSet args s).2 := by
  unfold driftSet
  split
  · exact ⟨id, (Kept.refl s).toBankKept⟩
  · refine ⟨.of_parts id (fun k => ⟨k.weekday, k.minute, k.ms, by simp, ?_⟩) id id, .of_fields (by simp)⟩
    simp only [clampDrift, driftMax]
    omega

/-! ## The override -/

theorem State.setOverride_safe (s : State) {o : Option Override} (h : ∀ r, o = some r → OverrideFit r) :
    DataSafe s (s.setOverride o) :=
  DataSafe.trans (t := { s with dimming := { s.dimming with override := o } }) (.of_parts id id id fun _ => h)
    (State.recompute_kept _).toDataKept.safe

theorem levelOverrideArgs_range {args : List Byte} {l m : Nat} (h : levelOverrideArgs args = some (l, m)) :
    1 ≤ m ∧ m ≤ 1440 := by
  unfold levelOverrideArgs at h
  split at h
  · simp only [within, Bool.and_eq_true, decide_eq_true_eq, Option.ite_none_right_eq_some, Option.some.injEq,
      Prod.mk.injEq] at h
    omega
  · cases h

theorem levelOverride_safe (args : List Byte) (s : State) :
    DataSafe s (levelOverride args s).2 ∧ BankKept s (levelOverride args s).2 := by
  unfold levelOverride
  split
  · exact ⟨id, (Kept.refl s).toBankKept⟩
  · next l m h =>
    obtain ⟨h1, h2⟩ := levelOverrideArgs_range h
    exact ⟨s.setOverride_safe fun r e => Option.some.inj e ▸ ⟨Nat.min_le_right .., h1, h2⟩, s.setOverride_bankKept _⟩

theorem overrideEnd_safe (args : List Byte) (s : State) :
    DataSafe s (overrideEnd args s).2 ∧ BankKept s (overrideEnd args s).2 := by
  unfold overrideEnd
  dsimp only
  split
  · split
    · exact ⟨s.setOverride_safe (by simp), s.setOverride_bankKept _⟩
    · exact ⟨id, (Kept.refl s).toBankKept⟩
  · exact ⟨id, (Kept.refl s).toBankKept⟩

theorem execOverrideMinute_safe (s : State) : Leads (execOverrideMinute s) fun t => DataSafe s t ∧ BankKept s t := by
  have taken := s.take_kept .overrideMinute
  unfold execOverrideMinute
  dsimp only
  refine leads_next.2 ?_
  split
  · exact ⟨taken.toDataKept.safe, taken.toBankKept⟩
  · next o h =>
    split
    · exact ⟨taken.toDataKept.safe.trans (State.setOverride_safe _ (by simp)),
        taken.toBankKept.trans (State.setOverride_bankKept ..)⟩
    · refine ⟨.of_parts id id id fun k r e => ?_, .of_fields (by simp)⟩
      obtain ⟨hl, -, hm⟩ := k o h
      obtain rfl := Option.some.inj e
      exact ⟨hl, by simp only; omega, by simp only; omega⟩

theorem execOverrideExpiry_safe (s : State) : Leads (execOverrideExpiry s) fun t => DataSafe s t ∧ BankKept s t := by
  unfold execOverrideExpiry
  refine leads_next.2 ?_
  split
  · exact ⟨s.setOverride_safe (by simp), s.setOverride_bankKept _⟩
  · exact ⟨id, (Kept.refl s).toBankKept⟩

/-! ## The trims -/

theorem nudge_range (up : Bool) {t : Int} (h : -16 ≤ t ∧ t ≤ 15) : -16 ≤ nudge up t ∧ nudge up t ≤ 15 := by
  unfold nudge
  split <;> omega

theorem trimOf_range {l : List Int} (h : TrimsFit l) (m : Nat) (c : Colour) : -16 ≤ trimOf l m c ∧ trimOf l m c ≤ 15 := by
  unfold trimOf
  rw [List.getD_eq_getElem?_getD]
  cases e : l[3 * m + c.index]? with
  | none => simp
  | some t => exact h.2 t (List.mem_of_getElem? e)

theorem nudgeTrims_fit (m : Nat) (colours : List Colour) (up : Bool) :
    ∀ l : List Int, TrimsFit l → TrimsFit (nudgeTrims l m colours up) := by
  induction colours with
  | nil => exact fun _ h => h
  | cons c cs ih =>
    intro l h
    refine ih _ ⟨by simpa using h.1, fun t ht => ?_⟩
    rcases List.mem_or_eq_of_mem_set ht with ht | rfl
    · exact h.2 t ht
    · exact nudge_range up (trimOf_range h m c)

theorem zeroRemovedTrims_fit {l : List Int} (h : TrimsFit l) (old new : Nat) : TrimsFit (zeroRemovedTrims l old new) := by
  obtain ⟨len, range⟩ := h
  unfold zeroRemovedTrims
  split
  · exact ⟨len, range⟩
  · refine ⟨by simp only [List.length_append, List.length_take, List.length_replicate]; omega, fun t ht => ?_⟩
    rcases List.mem_append.1 ht with ht | ht
    · exact range t (List.mem_of_mem_take ht)
    · simp [List.eq_of_mem_replicate ht]

theorem zeroTrims_fit : TrimsFit zeroTrims :=
  ⟨List.length_replicate .., fun t ht => by simp [List.eq_of_mem_replicate ht]⟩

theorem Flash.loadTrims_fit (f : Flash) : TrimsFit f.loadTrims := by
  unfold Flash.loadTrims Flash.trimResult
  split
  · next h =>
    have good : f.trims.good = true := by
      by_contra hg
      simp [hg] at h
    simp only [FlashTrims.good, Bool.and_eq_true, beq_iff_eq, List.all_eq_true, decide_eq_true_eq] at good
    exact ⟨good.1.2, good.2⟩
  · exact zeroTrims_fit

theorem trimNudge_safe (args : List Byte) (s : State) :
    DataSafe s (trimNudge args s).2 ∧ BankKept s (trimNudge args s).2 := by
  unfold trimNudge
  split
  · exact ⟨id, (Kept.refl s).toBankKept⟩
  · split
    · exact ⟨id, (Kept.refl s).toBankKept⟩
    · exact ⟨.of_parts id id (nudgeTrims_fit _ _ _ _) id, .of_fields (by simp)⟩

end Sys2Proof.Machine
end

section
/-! SUPPORT. The banks and the Drive Port in their forms and ranges, the law of the ceiling lock, and the operations that
change them. -/

namespace Sys2Proof.Machine

/-! ## The invariant of the banks, part by part -/

/-- The record of a table: a valid active bank, marks not doubled, a shadow that fits its state, the lock and the SAVE. -/
def TableFit (x : Table) (r : TableRec) (lock : Bool) (save : Option SaveRun) : Prop :=
  validate x r.active = none ∧ r.active.length = x.size ∧ r.bad.Nodup ∧
    (∀ b e, r.shadow = .posted b e → validate x b = none ∧ b.length = x.size ∧ save = none) ∧
    (∀ b d, r.shadow = .editing b d → b.length = x.size ∧ d.Nodup ∧ ∀ i ∈ d, i < x.size) ∧
    (lock = true → x.lockable = true → r.shadow = .clean)

/-- Every table's record fits. -/
def TablesFit (s : State) : Prop := ∀ x, TableFit x (s.table x) s.tables.lock s.agent.save

/-- A drive geometry that a valid LAYOUT gives (R24, R99). -/
structure GeometryFit (g : DriveGeometry) : Prop where
  cols : 1 ≤ g.cols ∧ g.cols ≤ 8
  modules : 1 ≤ g.modules ∧ g.modules ≤ 32
  moduleWidth : g.moduleWidth ∈ [16, 32, 64]
  moduleHeight : g.moduleHeight ∈ [16, 32, 64]
  group : g.group ∈ [1, 2, 4, 8, 16]
  strings : 1 ≤ g.strings ∧ g.strings ≤ 16

/-- No pass, no sweep and no poll has begun. -/
structure DriveIdle (d : Drive) : Prop where
  position : d.position = 0
  startLine : d.startLine = 0
  sweepPointer : d.sweepPointer = 0
  inFlight : d.inFlight = none
  unemitted : d.unemitted = none

/-- The pass, the sweep pointer and the poll in flight lie inside the drive geometry, and nothing has begun before the
start. -/
structure DriveFit (d : Drive) (started : Bool) : Prop where
  geometry : GeometryFit d.geometry
  position : d.position < d.geometry.modules
  startLine : d.startLine < d.geometry.group
  sweepPointer : d.sweepPointer < d.geometry.modules
  inFlight : ∀ p, d.inFlight = some p → p.module < d.geometry.modules
  unemitted : ∀ e, d.unemitted = some e → e.module = d.position
  waiting : started = false → DriveIdle d

theorem bankInvariant_iff (s : State) : BankInvariant s ↔ TablesFit s ∧ DriveFit s.drive s.started := by
  constructor
  · rintro ⟨ht, hc, hc', hm, hm', hw, hh, hg, hs, hs', hp, hl, hsw, hi, hu, hst⟩
    refine ⟨ht, ⟨⟨hc, hc'⟩, ⟨hm, hm'⟩, hw, hh, hg, hs, hs'⟩, hp, hl, hsw, hi, hu, fun h => ?_⟩
    obtain ⟨h1, h2, h3, h4, h5⟩ := hst h
    exact ⟨h1, h2, h3, h4, h5⟩
  · rintro ⟨ht, ⟨⟨hc, hc'⟩, ⟨hm, hm'⟩, hw, hh, hg, hs, hs'⟩, hp, hl, hsw, hi, hu, hst⟩
    refine ⟨ht, hc, hc', hm, hm', hw, hh, hg, hs, hs', hp, hl, hsw, hi, hu, fun h => ?_⟩
    obtain ⟨h1, h2, h3, h4, h5⟩ := hst h
    exact ⟨h1, h2, h3, h4, h5⟩

/-- The law of R176: the lock stays set, and the active banks under it do not change. -/
def LockLaw (s t : State) : Prop :=
  s.tables.lock = true → t.tables.lock = true ∧ ∀ x, Table.lockable x = true → (t.table x).active = (s.table x).active

/-- The step from `s` to `t` keeps the invariant of the banks and the law of the lock. -/
def BankSafe (s t : State) : Prop := BankInvariant s → BankInvariant t ∧ LockLaw s t

theorem BankSafe.refl (s : State) : BankSafe s s := fun h => ⟨h, fun l => ⟨l, fun _ _ => rfl⟩⟩

theorem BankSafe.trans {s t u : State} (h : BankSafe s t) (k : BankSafe t u) : BankSafe s u := by
  intro i
  obtain ⟨it, lt⟩ := h i
  obtain ⟨iu, lu⟩ := k it
  refine ⟨iu, fun l => ?_⟩
  obtain ⟨lockT, activeT⟩ := lt l
  obtain ⟨lockU, activeU⟩ := lu lockT
  exact ⟨lockU, fun x hx => (activeU x hx).trans (activeT x hx)⟩

/-- A step is safe where it keeps the tables' part, with the lock's law, and the Drive Port's. -/
theorem BankSafe.of_parts {s t : State} (tables : TablesFit s → TablesFit t ∧ LockLaw s t)
    (drive : DriveFit s.drive s.started → DriveFit t.drive t.started) : BankSafe s t := by
  intro i
  obtain ⟨ht, hd⟩ := (bankInvariant_iff s).1 i
  exact ⟨(bankInvariant_iff t).2 ⟨(tables ht).1, drive hd⟩, (tables ht).2⟩

/-- The tables' part where the tables are kept. -/
theorem TablesKept.fit {s t : State} (h : TablesKept s t) (fit : TablesFit s) : TablesFit t ∧ LockLaw s t := by
  refine ⟨fun x => ?_, fun l => ⟨h.lock ▸ l, fun x _ => h.active x⟩⟩
  obtain ⟨valid, len, bad, posted, editing, clean⟩ := fit x
  unfold TableFit
  rw [h.active x, h.shadow x, h.lock]
  refine ⟨valid, len, h.bad x bad, fun b e hb => ?_, editing, clean⟩
  obtain ⟨hv, hl, hs⟩ := posted b e hb
  exact ⟨hv, hl, h.save hs⟩

theorem BankKept.safe {s t : State} (h : BankKept s t) : BankSafe s t :=
  .of_parts h.toTablesKept.fit fun d => by rwa [h.drive, h.started]

/-! ## Writes of one table's record -/

/-- A table record is replaced by one that fits, an active bank under the lock being kept. -/
theorem State.setTable_bankSafe {s : State} {t : Table} {r : TableRec}
    (h : TablesFit s → TableFit t r s.tables.lock s.agent.save ∧
      (s.tables.lock = true → t.lockable = true → r.active = (s.table t).active)) : BankSafe s (s.setTable t r) := by
  refine .of_parts (fun fit => ?_) id
  obtain ⟨fitR, law⟩ := h fit
  refine ⟨fun x => ?_, fun l => ⟨l, fun x hx => ?_⟩⟩
  · by_cases e : x = t
    · subst e
      simpa using fitR
    · simpa [e] using fit x
  · by_cases e : x = t
    · subst e
      simpa using law l hx
    · simp [e]

/-- A shadow gives up its contents. -/
theorem State.abandonShadow_bankSafe (s : State) (t : Table) : BankSafe s (s.abandonShadow t) := by
  refine State.setTable_bankSafe fun fit => ?_
  obtain ⟨valid, len, bad, -, -, -⟩ := fit t
  exact ⟨⟨valid, len, bad, by simp, by simp, by simp⟩, fun _ _ => rfl⟩

/-! ## Reads of a shadow -/

/-- A read of a shadow entry inside the table keeps the banks in their form: one found lost damages the shadow, and a post
is withdrawn (R168). -/
theorem State.readShadow_bankSafe (s : State) {t : Table} {i : Nat} (hi : i < t.size) :
    BankSafe s (s.readShadow t i).2 := by
  have consulted := (s.consult_kept t .shadow i).toBankKept.safe
  have table : (s.consult t .shadow i).2.table t = s.table t := by simp
  have corrected := consulted.trans (State.noteCorrected_kept _ t .shadow i).toBankKept.safe
  unfold State.readShadow
  dsimp only
  split
  · exact (s.readActive_kept t i).toBankKept.safe
  · next b d h =>
    split
    · exact .refl s
    · next hd =>
      split
      · exact consulted
      · exact corrected
      · refine consulted.trans (State.setTable_bankSafe fun fit => ?_)
        obtain ⟨valid, len, bad, -, editing, clean⟩ := table ▸ fit t
        obtain ⟨blen, nodup, inside⟩ := editing b d h
        refine ⟨⟨valid, len, bad, by simp [h, Shadow.damaged], fun b' d' e => ?_, fun l hl => ?_⟩, fun _ _ => by rw [table]⟩
        · simp only [h, Shadow.damaged, Shadow.editing.injEq] at e
          obtain ⟨rfl, rfl⟩ := e
          refine ⟨blen, List.nodup_append.2 ⟨nodup, by simp, ?_⟩, fun j hj => ?_⟩
          · simpa using fun a ha (e : a = i) => hd (e ▸ ha)
          · rcases List.mem_append.1 hj with hj | hj
            · exact inside j hj
            · simpa [List.mem_singleton.1 hj] using hi
        · simpa [h] using clean l hl
  · next b e h =>
    split
    · exact consulted
    · exact corrected
    · refine consulted.trans (State.setTable_bankSafe fun fit => ?_)
      obtain ⟨valid, len, bad, posted, -, clean⟩ := table ▸ fit t
      obtain ⟨-, blen, -⟩ := posted b e h
      refine ⟨⟨valid, len, bad, by simp [h, Shadow.damaged], fun b' d' e' => ?_, fun l hl => ?_⟩, fun _ _ => by rw [table]⟩
      · simp only [h, Shadow.damaged, Shadow.editing.injEq] at e'
        obtain ⟨rfl, rfl⟩ := e'
        exact ⟨blen, by simp, by simpa using hi⟩
      · simpa [h] using clean l hl

theorem State.readShadow_dataKept (s : State) (t : Table) (i : Nat) : DataKept s (s.readShadow t i).2 := by
  have consulted := (s.consult_kept t .shadow i).toDataKept
  have corrected := consulted.trans (State.noteCorrected_kept _ t .shadow i).toDataKept
  unfold State.readShadow
  dsimp only
  split
  · exact (s.readActive_kept t i).toDataKept
  · split
    · exact (Kept.refl s).toDataKept
    · split
      · exact consulted
      · exact corrected
      · exact consulted.trans (.of_fields (by simp))
  · split
    · exact consulted
    · exact corrected
    · exact consulted.trans (.of_fields (by simp))

/-- The step keeps the stored data and the banks in their forms and ranges, with the law of the lock. -/
def Safe (s t : State) : Prop := DataSafe s t ∧ BankSafe s t

theorem Safe.trans {s t u : State} (h : Safe s t) (k : Safe t u) : Safe s u := ⟨h.1.trans k.1, h.2.trans k.2⟩

theorem Safe.refl (s : State) : Safe s s := ⟨id, .refl s⟩

theorem Kept.safe {s t : State} (h : Kept s t) : Safe s t := ⟨h.toDataKept.safe, h.toBankKept.safe⟩

theorem State.readShadow_safe (s : State) {t : Table} {i : Nat} (hi : i < t.size) : Safe s (s.readShadow t i).2 :=
  ⟨(s.readShadow_dataKept t i).safe, s.readShadow_bankSafe hi⟩

theorem State.readShadows_safe {t : Table} (l : List Nat) :
    ∀ s : State, (∀ i ∈ l, i < t.size) → Safe s (s.readShadows t l).2 := by
  induction l with
  | nil => exact fun s _ => .refl s
  | cons i is ih =>
    exact fun s h => (s.readShadow_safe (h i (by simp))).trans (ih _ fun j hj => h j (by simp [hj]))

/-! ## TABLE-READ -/

theorem tableRead_safe (args : List Byte) (s : State) : Safe s (tableRead args s).2 := by
  unfold tableRead
  split
  · exact .refl s
  · next t b first count _ =>
    split
    · exact .refl s
    · next h =>
      simp only [Table.beyond, decide_eq_true_eq, Nat.not_lt] at h
      cases b with
      | active => exact (State.readResults_kept t _ s).safe
      | shadow =>
        refine State.readShadows_safe _ s fun i hi => ?_
        obtain ⟨j, hj, rfl⟩ := List.mem_map.1 hi
        rw [List.mem_range] at hj
        omega

/-! ## TABLE-WRITE -/

theorem State.readEntries_length (t : Table) (l : List Nat) : ∀ s : State, (s.readEntries t l).1.length = l.length := by
  induction l with
  | nil => exact fun _ => rfl
  | cons i is ih => exact fun s => congrArg Nat.succ (ih _)

/-- The lost indices rise and lie in the list's range. -/
theorem lostIndices_fit (l : List (Option Nat)) :
    ∀ k, (lostIndices k l).Nodup ∧ ∀ i ∈ lostIndices k l, k ≤ i ∧ i < k + l.length := by
  induction l with
  | nil => exact fun k => ⟨.nil, by simp [lostIndices]⟩
  | cons v vs ih =>
    intro k
    obtain ⟨nodup, range⟩ := ih (k + 1)
    have range' : ∀ i ∈ lostIndices (k + 1) vs, k + 1 ≤ i ∧ i < k + (v :: vs).length := fun i hi => by
      have := range i hi
      simp only [List.length_cons]
      omega
    cases v with
    | some _ => exact ⟨nodup, fun i hi => ⟨by have := range' i hi; omega, (range' i hi).2⟩⟩
    | none =>
      refine ⟨List.nodup_cons.2 ⟨fun h => by have := range' k h; omega, nodup⟩, fun i hi => ?_⟩
      rcases List.mem_cons.1 hi with rfl | hi
      · simp
      · have := range' i hi
        omega

/-- The copy that opens a shadow fits, where its table is not under the lock (R170, R176). -/
theorem State.openShadow_safe {s : State} {t : Table} (h : (t.lockable && s.tables.lock) = false) :
    Safe s (s.openShadow t) := by
  have read := State.readEntries_kept t (List.range t.size) s
  have len := State.readEntries_length t (List.range t.size) s
  unfold State.openShadow
  split
  · refine read.safe.trans ⟨.of_parts id id id id, State.setTable_bankSafe fun fit => ?_⟩
    obtain ⟨valid, alen, bad, -, -, -⟩ := fit t
    refine ⟨⟨valid, alen, bad, by simp, fun b d e => ?_, fun l hl => ?_⟩, fun _ _ => rfl⟩
    · simp only [Shadow.editing.injEq] at e
      obtain ⟨rfl, rfl⟩ := e
      obtain ⟨nodup, range⟩ := lostIndices_fit (s.readEntries t (List.range t.size)).1 0
      rw [List.length_range] at len
      refine ⟨by simpa using len, nodup, fun i hi => ?_⟩
      have := range i hi
      omega
    · rw [read.lock] at l
      simp [hl, l] at h
  · exact .refl s

theorem storeValues_length {bank values : List Word} {first : Nat} (h : first + values.length ≤ bank.length) :
    (storeValues bank first values).length = bank.length := by
  simp only [storeValues, List.length_append, List.length_take, List.length_drop]
  omega

/-- Values stored inside the table leave a shadow that fits (R170). -/
theorem State.storeShadow_safe (s : State) {t : Table} {first : Nat} {values : List Word}
    (h : first + values.length ≤ t.size) : Safe s (s.storeShadow t first values) := by
  unfold State.storeShadow
  split
  · next b d hs =>
    refine ⟨.of_parts id id id id, State.setTable_bankSafe fun fit => ?_⟩
    obtain ⟨valid, alen, bad, -, editing, clean⟩ := fit t
    obtain ⟨blen, nodup, inside⟩ := editing b d hs
    refine ⟨⟨valid, alen, bad, by simp, fun b' d' e => ?_, fun l hl => ?_⟩, fun _ _ => rfl⟩
    · simp only [Shadow.editing.injEq] at e
      obtain ⟨rfl, rfl⟩ := e
      exact ⟨by rw [storeValues_length (by omega), blen], nodup.filter _, fun i hi => inside i (List.mem_of_mem_filter hi)⟩
    · simpa [hs] using clean l hl
  · exact .refl s

theorem tableWrite_safe (args : List Byte) (s : State) : Safe s (tableWrite args s).2 := by
  unfold tableWrite
  split
  · exact .refl s
  · split
    · exact .refl s
    · next h =>
      simp only [Table.beyond, decide_eq_true_eq, Nat.not_lt] at h
      split
      · exact .refl s
      · next hl =>
        split
        · exact .refl s
        · exact (State.openShadow_safe (by simpa using hl)).trans (State.storeShadow_safe _ h)

/-! ## TABLE-COMMIT -/

/-- Stage 1 of validation reads inside the table; it yields a value for each index, and neither the lock nor a SAVE is
touched. -/
theorem State.stageOne_safe {t : Table} (l : List Nat) : ∀ s : State, (∀ i ∈ l, i < t.size) →
    Safe s (s.stageOne t l).2 ∧ (s.stageOne t l).2.tables.lock = s.tables.lock ∧
      (s.stageOne t l).2.agent.save = s.agent.save ∧ ∀ vs, (s.stageOne t l).1 = .values vs → vs.length = l.length := by
  induction l with
  | nil => exact fun s _ => ⟨.refl s, rfl, rfl, fun vs e => by cases e; rfl⟩
  | cons i is ih =>
    intro s h
    have read := s.readShadow_safe (h i (by simp))
    obtain ⟨rest, lock, save, len⟩ := ih (s.readShadow t i).2 fun j hj => h j (by simp [hj])
    unfold State.stageOne
    dsimp only
    split
    · exact ⟨read, by simp, by simp, by simp⟩
    · refine ⟨read.trans rest, by simpa using lock, by simpa using save, fun vs e => ?_⟩
      cases hs : ((s.readShadow t i).2.stageOne t is).1 with
      | damaged j => simp [hs, StageOne.push] at e
      | values ws =>
        simp only [hs, StageOne.push, StageOne.values.injEq] at e
        simp [← e, len ws hs]

/-- A bank that is posted is valid; no SAVE is in flight and its table is not under the lock (R172, R174, R176, R186). -/
theorem State.validateShadow_safe {s : State} {t : Table} (hs : s.agent.save = none)
    (hl : (t.lockable && s.tables.lock) = false) (e : Word) : Safe s (s.validateShadow t e).2 := by
  obtain ⟨read, lock, save, len⟩ := State.stageOne_safe (List.range t.size) s fun i hi => List.mem_range.1 hi
  unfold State.validateShadow
  dsimp only
  split
  · exact read
  · next vs hv =>
    split
    · exact read
    · next valid =>
      refine read.trans ⟨.of_parts id id id id, State.setTable_bankSafe fun fit => ?_⟩
      obtain ⟨activeValid, alen, bad, -, -, -⟩ := fit t
      refine ⟨⟨activeValid, alen, bad, fun b e' eq => ?_, by simp, fun l hlock => ?_⟩, fun _ _ => rfl⟩
      · simp only [Shadow.posted.injEq] at eq
        obtain ⟨rfl, rfl⟩ := eq
        exact ⟨valid, by simpa using len vs hv, save.trans hs⟩
      · rw [lock] at l
        simp [hlock, l] at hl

theorem tableCommit_safe (args : List Byte) (s : State) : Safe s (tableCommit args s).2 := by
  unfold tableCommit
  split
  · exact .refl s
  · split
    · exact .refl s
    · next hl =>
      split
      · exact .refl s
      · next hs =>
        split
        · exact .refl s
        · exact .refl s
        · exact State.validateShadow_safe (by simpa [State.saving] using hs) (by simpa using hl) _

/-! ## TABLE-ABANDON and CEILING-LOCK -/

theorem State.abandonShadow_safe (s : State) (t : Table) : Safe s (s.abandonShadow t) :=
  ⟨.of_parts id id id id, s.abandonShadow_bankSafe t⟩

theorem tableAbandon_safe (args : List Byte) (s : State) : Safe s (tableAbandon args s).2 := by
  unfold tableAbandon
  split
  · exact .refl s
  · exact s.abandonShadow_safe _

theorem State.abandonShadow_table (s : State) (t x : Table) :
    (s.abandonShadow t).table x = if x = t then { s.table t with shadow := .clean } else s.table x := by
  simp [State.abandonShadow]

/-- Shadows given up one after another. -/
theorem abandonShadows_safe (l : List Table) : ∀ s : State, Safe s (l.foldl State.abandonShadow s) ∧
    ∀ x, (x ∈ l ∨ (s.table x).shadow = .clean) → ((l.foldl State.abandonShadow s).table x).shadow = .clean := by
  induction l with
  | nil => exact fun s => ⟨.refl s, by simp⟩
  | cons t ts ih =>
    intro s
    obtain ⟨safe, clean⟩ := ih (s.abandonShadow t)
    refine ⟨(s.abandonShadow_safe t).trans safe, fun x hx => clean x ?_⟩
    rw [State.abandonShadow_table]
    by_cases e : x = t
    · simp [e]
    · simpa [e] using hx

/-- The ceiling lock may become set while the shadows under it are CLEAN (R176, R177). -/
theorem State.setLock_bankSafe {s : State} {b : Bool} (hb : s.tables.lock = true → b = true)
    (h : ∀ x, Table.lockable x = true → (s.table x).shadow = .clean) :
    BankSafe s { s with tables := { s.tables with lock := b } } := by
  refine .of_parts (fun fit => ⟨fun x => ?_, fun l => ⟨hb l, fun _ _ => rfl⟩⟩) id
  obtain ⟨valid, len, bad, posted, editing, -⟩ := fit x
  exact ⟨valid, len, bad, posted, editing, fun _ hx => h x hx⟩

theorem ceilingLock_safe (args : List Byte) (s : State) : Safe s (ceilingLock args s).2 := by
  unfold ceilingLock
  split
  · split
    · exact .refl s
    · obtain ⟨safe, clean⟩ := abandonShadows_safe s.lockedShadows s
      refine safe.trans ⟨.of_parts id id id id, State.setLock_bankSafe (fun _ => rfl) fun x hx => clean x ?_⟩
      by_cases e : (s.table x).shadow = .clean
      · exact .inr e
      · refine .inl (List.mem_filter.2 ⟨by cases x <;> simp_all [Table.lockable], ?_⟩)
        cases h : (s.table x).shadow <;> simp_all [Shadow.name]
  · exact .refl s

/-! ## SAVE -/

/-- A SAVE that begins finds no table POSTED (R186). -/
theorem State.beginSave_safe {s : State} (h : s.anyPosted = false) (replyTag : Option Word) :
    Safe s (s.beginSave replyTag) := by
  refine ⟨.of_parts id id id id, .of_parts (fun fit => ⟨fun x => ?_, fun l => ⟨l, fun _ _ => rfl⟩⟩) id⟩
  obtain ⟨valid, len, bad, -, editing, clean⟩ := fit x
  refine ⟨valid, len, bad, fun b e hb => ?_, editing, clean⟩
  have none_posted : (s.table x).shadow.isPosted = false := by
    simp only [State.anyPosted, List.any_eq_false] at h
    simpa using h x (by cases x <;> decide)
  have hb : (s.table x).shadow = .posted b e := hb
  simp [hb, Shadow.isPosted] at none_posted

theorem execSave_safe (head : MgmtHead) (args : List Byte) (s : State) : Leads (execSave head args s) (Safe s) := by
  have arrived := (s.arriveMgmt_kept head 0x0F args).safe
  unfold execSave
  refine leads_next.2 ?_
  split
  · split
    · split
      · exact arrived.trans (State.reply_kept ..).safe
      · next h => exact arrived.trans (State.beginSave_safe (by simp_all) _)
    · exact arrived.trans (State.reply_kept ..).safe
  · exact arrived

end Sys2Proof.Machine
end

section
/-! SUPPORT. What a valid LAYOUT bank gives the Drive Port, and the operations of the Drive Port, the swaps, the resets and
start-up that keep the banks and the Drive Port in their forms. -/

namespace Sys2Proof.Machine

/-! ## A valid LAYOUT (R24, R99) -/

/-- Every entry of a list without a failing one passes the check. -/
theorem ok_of_firstFailing_none {ok : Nat → Word → Bool} (l : List Word) :
    ∀ k, firstFailing ok k l = none → ∀ i v, l[i]? = some v → ok (k + i) v = true := by
  induction l with
  | nil => simp
  | cons w ws ih =>
    intro k h i v hv
    simp only [firstFailing] at h
    split at h
    · next hw =>
      cases i with
      | zero => simpa using (Option.some.inj hv) ▸ hw
      | succ i =>
        have := ih (k + 1) h i v (by simpa using hv)
        rwa [Nat.add_assoc, Nat.add_comm 1 i] at this
    · cases h

/-- Each entry of a valid LAYOUT lies in the range of Table 2-1. -/
theorem layoutInRange_of_valid {b : List Word} (h : validate .layout b = none) (len : b.length = Table.layout.size)
    {i : Nat} (hi : i < 11) : layoutInRange i (b.getD i 0) = true := by
  have first : firstFailing layoutInRange 0 b = none := by
    simp only [validate, validateLayout] at h
    split at h
    · cases h
    · assumption
  have := ok_of_firstFailing_none b 0 first i (b.getD i 0)
    (by rw [List.getD_eq_getElem?_getD, List.getElem?_eq_getElem (by rw [len]; exact hi)]; rfl)
  simpa using this

theorem geometryFit_builtIn : GeometryFit .builtIn := by
  constructor <;> simp [DriveGeometry.builtIn]

/-- The geometry that the entries of a valid LAYOUT give. -/
theorem geometryFit_of_valid {b : List Word} (h : validate .layout b = none) (len : b.length = Table.layout.size) :
    GeometryFit ⟨entry b 5 * entry b 4, entry b 4, entry b 6, entry b 7, entry b 8, entry b 9 != 0, entry b 10⟩ := by
  have range {i : Nat} (hi : i < 11) := layoutInRange_of_valid h len hi
  have h4 := range (i := 4) (by decide)
  have h5 := range (i := 5) (by decide)
  have h6 := range (i := 6) (by decide)
  have h7 := range (i := 7) (by decide)
  have h8 := range (i := 8) (by decide)
  have h10 := range (i := 10) (by decide)
  simp only [layoutInRange, within, Bool.and_eq_true, Bool.or_eq_true, decide_eq_true_eq, beq_iff_eq] at h4 h5 h6 h7 h8 h10
  refine ⟨h4, ⟨Nat.mul_pos h5.1 h4.1, ?_⟩, ?_, ?_, ?_, h10⟩
  · calc entry b 5 * entry b 4 ≤ 4 * 8 := Nat.mul_le_mul h5.2 h4.2
      _ = 32 := rfl
  · simpa [entry, or_assoc] using h6
  · simpa [entry, or_assoc] using h7
  · simpa [entry, or_assoc] using h8

/-- A read yields nothing, or the entry that the bank holds. -/
theorem State.readEntry_value (s : State) (t : Table) (i : Nat) :
    (s.readEntry t i).1 = none ∨ (s.readEntry t i).1 = some (entry (s.table t).active i) := by
  unfold State.readEntry State.readActive
  dsimp only
  split
  · exact .inl rfl
  · split <;> simp [ReadResult.value, entry]

/-- The geometry that reads of a valid LAYOUT give: the one of its entries, or the built-in default's (R99). -/
theorem State.takeGeometry_geometry {s : State} (h : TablesFit s) : GeometryFit s.takeGeometry.drive.geometry := by
  obtain ⟨valid, len, -⟩ := h .layout
  have value : ∀ u : State, (u.table .layout).active = (s.table .layout).active → ∀ i,
      (u.readEntry .layout i).1 = none ∨ (u.readEntry .layout i).1 = some (entry (s.table .layout).active i) :=
    fun u e i => e ▸ u.readEntry_value .layout i
  have reads : ∀ (l : List Nat) (u : State), (u.table .layout).active = (s.table .layout).active →
      List.Forall₂ (fun i v => v = none ∨ v = some (entry (s.table .layout).active i)) l (u.readEntries .layout l).1 := by
    intro l
    induction l with
    | nil => exact fun _ _ => .nil
    | cons i is ih => exact fun u e => .cons (value u e i) (ih _ (by simpa using e))
  have read := reads ((List.range 7).map (· + 4)) s rfl
  unfold State.takeGeometry
  dsimp only
  generalize (s.readEntries .layout ((List.range 7).map (· + 4))).1 = vs at read
  unfold driveGeometryOf
  split
  · simp only [List.range, List.range.loop, List.map_cons, List.map_nil, List.forall₂_cons, reduceCtorEq, false_or,
      Option.some.injEq] at read
    obtain ⟨rfl, rfl, rfl, rfl, rfl, rfl, rfl, -⟩ := read
    exact geometryFit_of_valid valid len
  · exact geometryFit_builtIn

/-! ## The Drive Port -/

/-- A Drive Port that has begun nothing fits any geometry. -/
theorem DriveIdle.fit {d : Drive} (h : DriveIdle d) (g : GeometryFit d.geometry) (started : Bool) : DriveFit d started := by
  have group : 0 < d.geometry.group := by
    have := g.group
    simp only [List.mem_cons, List.not_mem_nil, or_false] at this
    omega
  refine ⟨g, by rw [h.position]; exact g.modules.1, by rw [h.startLine]; exact group,
    by rw [h.sweepPointer]; exact g.modules.1, by simp [h.inFlight], by simp [h.unemitted], fun _ => h⟩

theorem DriveFit.group_pos {d : Drive} {b : Bool} (h : DriveFit d b) : 0 < d.geometry.group :=
  Nat.zero_lt_of_lt h.startLine

/-- A step that leaves the tables, and the Drive Port in its form once the part has started. -/
theorem BankSafe.of_drive {s t : State} (kept : TablesKept s t) (started : t.started = s.started)
    (drive : DriveFit s.drive s.started → DriveFit t.drive s.started) : BankSafe s t :=
  .of_parts kept.fit fun d => started ▸ drive d

theorem State.takeGeometry_dataKept (s : State) : DataKept s s.takeGeometry := by
  unfold State.takeGeometry
  exact (State.readEntries_kept .layout ((List.range 7).map (· + 4)) s).toDataKept.trans (.of_fields (by simp))

theorem State.takeGeometry_tablesKept (s : State) : TablesKept s s.takeGeometry := by
  unfold State.takeGeometry
  exact (State.readEntries_kept .layout ((List.range 7).map (· + 4)) s).toTablesKept.trans (.of_fields (by simp))

/-- The geometry is taken anew (R99): all else at the Drive Port stays. -/
theorem State.takeGeometry_drive (s : State) :
    s.takeGeometry.drive = { s.drive with geometry := s.takeGeometry.drive.geometry } := by
  unfold State.takeGeometry
  simp

@[simp] theorem State.takeGeometry_started (s : State) : s.takeGeometry.started = s.started := by
  simp [State.takeGeometry]

/-- The geometry is taken anew while nothing has begun. -/
theorem State.takeGeometry_safe {s : State} (h : DriveIdle s.drive) : Safe s s.takeGeometry := by
  refine ⟨s.takeGeometry_dataKept.safe, fun i => ?_⟩
  obtain ⟨tables, -⟩ := (bankInvariant_iff s).1 i
  obtain ⟨fit, law⟩ := s.takeGeometry_tablesKept.fit tables
  refine ⟨(bankInvariant_iff _).2 ⟨fit, DriveIdle.fit ?_ (State.takeGeometry_geometry tables) _⟩, law⟩
  rw [s.takeGeometry_drive]
  exact ⟨h.position, h.startLine, h.sweepPointer, h.inFlight, h.unemitted⟩

/-- Where a LAYOUT swap leaves the Drive Port fits the geometry taken (R103). -/
theorem Drive.layoutSwap_fit {d : Drive} (g : GeometryFit d.geometry) (hu : d.unemitted = none) :
    DriveFit d.layoutSwap true := by
  have group : 0 < d.geometry.group := by
    have := g.group
    simp only [List.mem_cons, List.not_mem_nil, or_false] at this
    omega
  refine ⟨g, g.modules.1, group, ?_, fun p hp => ?_, by simp [Drive.layoutSwap, hu], by simp⟩
  · have := g.modules.1
    simp only [Drive.layoutSwap]
    split <;> omega
  · exact of_decide_eq_true (Option.filter_eq_some_iff.1 hp).2

theorem State.driveLayoutSwap_safe {s : State} (h : s.started = true) : Safe s s.driveLayoutSwap := by
  have kept : TablesKept s s.driveLayoutSwap := by
    unfold State.driveLayoutSwap
    exact s.takeGeometry_tablesKept.trans (.of_fields (by simp))
  have data : DataKept s s.driveLayoutSwap := by
    unfold State.driveLayoutSwap
    exact s.takeGeometry_dataKept.trans (.of_fields (by simp))
  have started : s.driveLayoutSwap.started = true := by simpa [State.driveLayoutSwap] using h
  refine ⟨data.safe, fun i => ?_⟩
  obtain ⟨tables, -⟩ := (bankInvariant_iff s).1 i
  obtain ⟨fit, law⟩ := kept.fit tables
  refine ⟨(bankInvariant_iff _).2 ⟨fit, ?_⟩, law⟩
  have drive : s.driveLayoutSwap.drive = Drive.layoutSwap { s.takeGeometry.drive with unemitted := none } := by
    simp [State.driveLayoutSwap]
  have geometry := State.takeGeometry_geometry tables
  rw [started, drive]
  generalize s.takeGeometry.drive = d at geometry ⊢
  exact Drive.layoutSwap_fit (d := { d with unemitted := none }) geometry rfl

theorem Drive.nextModule_fit {d : Drive} (h : DriveFit d true) : DriveFit { d.nextModule with unemitted := none } true := by
  unfold Drive.nextModule
  split
  · exact ⟨h.geometry, ‹_›, h.startLine, h.sweepPointer, h.inFlight, by simp, by simp⟩
  · exact ⟨h.geometry, h.geometry.modules.1, Nat.mod_lt _ h.group_pos, h.sweepPointer, h.inFlight, by simp, by simp⟩

theorem State.wordsEmitted_safe {s : State} (h : s.started = true) :
    Safe s s.wordsEmitted ∧ s.wordsEmitted.started = true := by
  unfold State.wordsEmitted
  split
  · exact ⟨.refl s, h⟩
  · refine ⟨⟨DataKept.safe (.of_fields (by simp)), .of_drive (.of_fields (by simp)) (by simp) fun d => ?_⟩, by simpa using h⟩
    rw [h] at d ⊢
    exact Drive.nextModule_fit d

theorem State.computeWords_safe {s : State} (h : s.started = true) : Safe s s.computeWords := by
  have kept := s.computeModule_kept s.drive.position
  unfold State.computeWords
  dsimp only
  generalize s.computeModule s.drive.position = r at kept
  refine kept.safe.trans ⟨.of_parts id id id id, .of_drive (.of_fields (by simp)) (by simp) fun d => ?_⟩
  have started : r.2.started = true := kept.started.trans h
  refine ⟨d.geometry, d.position, d.startLine, d.sweepPointer, d.inFlight, fun e he => ?_, fun hs => ?_⟩
  · obtain rfl := Option.some.inj he
    simp [kept.drive]
  · simp [started] at hs

theorem execModuleComputation_safe (s : State) : Leads (execModuleComputation s) (Safe s) := by
  refine leads_next.2 ?_
  split
  · next started =>
    obtain ⟨safe, started'⟩ := State.wordsEmitted_safe started
    exact safe.trans (State.computeWords_safe started')
  · exact .refl s

/-! ## The diagnostic sweep -/

/-- A poll in flight that becomes absent. -/
theorem State.pollAbsent_safe (s : State) : Safe s { s with drive := { s.drive with inFlight := none } } := by
  refine ⟨.of_parts id id id id, .of_drive (.of_fields (by simp)) (by simp) fun d => ?_⟩
  exact ⟨d.geometry, d.position, d.startLine, d.sweepPointer, by simp, d.unemitted, fun hs =>
    ⟨(d.waiting hs).position, (d.waiting hs).startLine, (d.waiting hs).sweepPointer, rfl, (d.waiting hs).unemitted⟩⟩

theorem State.sweepSilence_safe (s : State) : Safe s s.sweepSilence := by
  unfold State.sweepSilence
  split
  · exact .refl s
  · exact s.pollAbsent_safe.trans (State.hand_kept ..).safe

@[simp] theorem State.sweepSilence_started (s : State) : s.sweepSilence.started = s.started := by
  unfold State.sweepSilence
  split <;> rfl

theorem State.sweepSend_safe {s : State} (h : s.started = true) : Safe s s.sweepSend := by
  unfold State.sweepSend
  refine Safe.trans ?_ (State.emit_kept ..).safe
  refine ⟨.of_parts id id id id, .of_drive (.of_fields (by simp)) (by simp) fun d => ?_⟩
  refine ⟨d.geometry, d.position, d.startLine, Nat.mod_lt _ d.geometry.modules.1, fun p hp => ?_, d.unemitted, ?_⟩
  · obtain rfl := Option.some.inj hp
    exact d.sweepPointer
  · simp [h]

theorem State.sweepTick_safe {s : State} (h : s.started = true) : Safe s s.sweepTick :=
  s.sweepSilence_safe.trans (State.sweepSend_safe (by simpa using h))

/-- The count of the sweep changes. -/
theorem State.setSweepCount_safe (s : State) (n : Nat) : Safe s { s with drive := { s.drive with sweepCount := n } } := by
  refine ⟨.of_parts id id id id, .of_drive (.of_fields (by simp)) (by simp) fun d => ?_⟩
  exact ⟨d.geometry, d.position, d.startLine, d.sweepPointer, d.inFlight, d.unemitted, fun hs =>
    ⟨(d.waiting hs).position, (d.waiting hs).startLine, (d.waiting hs).sweepPointer, (d.waiting hs).inFlight,
      (d.waiting hs).unemitted⟩⟩

theorem State.sweepCounted_safe {s : State} (h : s.started = true) : Safe s s.sweepCounted := by
  have read := s.readEntry_kept .policy 39
  unfold State.sweepCounted
  dsimp only
  split
  · exact read.safe.trans ((State.setSweepCount_safe _ 0).trans (State.sweepTick_safe (read.started.trans h)))
  · exact read.safe.trans (State.setSweepCount_safe ..)

theorem execSweepCountSync_safe (s : State) : Leads (execSweepCountSync s) (Safe s) := by
  refine leads_next.2 ((s.take_kept .sweepCountSync).safe.trans ?_)
  split
  · exact State.sweepCounted_safe ‹_›
  · exact .refl _

theorem execSweepCountLocalTick_safe (s : State) : Leads (execSweepCountLocalTick s) (Safe s) := by
  refine leads_next.2 ((s.take_kept .sweepCountLocalTick).safe.trans ?_)
  split
  · exact State.sweepCounted_safe ‹_›
  · exact .refl _

theorem execSweepTick_safe (s : State) : Leads (execSweepTick s) (Safe s) := by
  refine leads_next.2 ?_
  split
  · exact State.sweepTick_safe ‹_›
  · exact .refl s

theorem State.overTempEvaluation_kept (s : State) (m : Nat) (t : Option Int) : Kept s (s.overTempEvaluation m t).2 := by
  unfold State.overTempEvaluation
  split
  · exact .refl s
  · exact (s.readActive_kept .policy 36).trans (State.readEntry_kept _ .policy 37)

theorem execPollResult_safe (m : Nat) (number : Byte) (opens shorts : Word) (t : Option Int) (s : State) :
    Leads (execPollResult m number opens shorts t s) (Safe s) := by
  refine leads_next.2 ?_
  split
  · exact .refl s
  · split
    · unfold State.pollMatched
      exact s.pollAbsent_safe.trans ((State.overTempEvaluation_kept _ m (sensorReading t)).trans (State.hand_kept ..)).safe
    · exact .refl s

/-! ## Swaps -/

theorem State.endStoreInvalid_kept (s : State) : Kept s s.endStoreInvalid := by
  have cleared : Kept s { s with agent := { s.agent with storeInvalid := false } } :=
    ⟨⟨⟨fun _ => rfl, fun _ => rfl, fun _ h => h, rfl, id⟩, rfl, rfl⟩, .of_fields ⟨rfl, rfl, rfl, rfl⟩⟩
  unfold State.endStoreInvalid
  split
  · exact cleared.trans (State.hand_kept ..)
  · exact .refl s

theorem State.layoutTold_kept (s : State) : Kept s s.layoutTold := by
  have told : Kept s { s with tables := { s.tables with layoutMissing := false } } :=
    ⟨⟨⟨fun _ => rfl, fun _ => rfl, fun _ h => h, rfl, id⟩, rfl, rfl⟩, .of_fields ⟨rfl, rfl, rfl, rfl⟩⟩
  exact told.trans (State.endStoreInvalid_kept _)

theorem State.endTableEcc_kept (s : State) (t : Table) (marks : List Nat) : Kept s (s.endTableEcc t marks) := by
  unfold State.endTableEcc
  exact .ite (.refl s) (s.hand_kept _)

/-- The blocks that act at a swap keep the invariants, and the part stays started. -/
theorem State.actAtSwap_safe {s : State} (h : s.started = true) (t : Table) :
    Safe s (s.actAtSwap t) ∧ (s.actAtSwap t).started = true := by
  have of_kept {u : State} (k : Kept s u) : Safe s u ∧ u.started = true := ⟨k.safe, k.started.trans h⟩
  cases t with
  | layout =>
    have drive := State.driveLayoutSwap_safe h
    have started : s.driveLayoutSwap.started = true := by simpa [State.driveLayoutSwap] using h
    unfold State.actAtSwap
    dsimp only
    generalize s.driveLayoutSwap = d at drive started
    have captured : Safe d { d with capture := d.capture.layoutSwap } :=
      ⟨.of_capture fun c => ⟨c.display, c.fill, c.incomplete, by simp [Capture.layoutSwap], by simp [Capture.layoutSwap]⟩,
        BankKept.safe (.of_fields (by simp))⟩
    have trimmed (u : State) (old new : Nat) : Safe u { u with trims := zeroRemovedTrims u.trims old new } :=
      ⟨.of_parts id id (zeroRemovedTrims_fit · old new) id, BankKept.safe (.of_fields (by simp))⟩
    have monitored (u : State) := u.faultLayoutSwap_kept
    exact ⟨drive.trans (captured.trans ((trimmed _ _ _).trans (monitored _).safe)), (monitored _).started.trans started⟩
  | ambient => exact of_kept s.recompute_kept
  | schedule => exact of_kept s.ceilingEvent_kept
  | limits => exact of_kept (s.ceilingEvent_kept.trans ((State.recompute_kept _).trans (State.faultLimitsSwap_kept _)))
  | policy => exact of_kept s.faultPolicySwap_kept
  | gamma => exact of_kept (.refl s)
  | calibration => exact of_kept (.refl s)
  | groups => exact of_kept (.refl s)

/-- A posted bank that swaps in is valid, and its table is not under the lock (R172, R174, R176). -/
theorem State.swapTable_safe {s : State} (h : s.started = true) {t : Table} {bank : List Word} {e : Word}
    (hp : (s.table t).shadow = .posted bank e) : Safe s (s.swapTable t bank) ∧ (s.swapTable t bank).started = true := by
  have swapped : Safe s (s.setTable t ((s.table t).swapped bank)) := by
    refine ⟨.of_parts id id id id, State.setTable_bankSafe fun fit => ?_⟩
    obtain ⟨-, -, -, posted, -, clean⟩ := fit t
    obtain ⟨valid, len, -⟩ := posted bank e hp
    refine ⟨⟨valid, len, .nil, by simp [TableRec.swapped], by simp [TableRec.swapped], fun _ _ => rfl⟩, fun l hl => ?_⟩
    simp [hp] at clean
    simp [clean l] at hl
  have told (u : State) : Kept u (if t = .layout then u.layoutTold else u) := .ite u.layoutTold_kept (.refl u)
  have ended (u : State) : Kept u (if s.unconfigured && !u.unconfigured then u.recompute else u) :=
    .ite u.recompute_kept (.refl u)
  have steps := (State.endTableEcc_kept (s.setTable t ((s.table t).swapped bank)) t (s.table t).bad).trans
    ((told _).trans (ended _))
  obtain ⟨acted, started⟩ := State.actAtSwap_safe (steps.started.trans h) t
  exact ⟨swapped.trans (steps.safe.trans acted), started⟩

theorem State.swapIfDue_safe {s : State} (h : s.started = true) (frame : Word) (t : Table) :
    Safe s (s.swapIfDue frame t) ∧ (s.swapIfDue frame t).started = true := by
  unfold State.swapIfDue
  split
  · next hp =>
    split
    · exact State.swapTable_safe h hp
    · exact ⟨.refl s, h⟩
  · exact ⟨.refl s, h⟩

theorem execTableStoreSync_safe (frame : Word) (s : State) : Leads (execTableStoreSync frame s) (Safe s) := by
  have swaps (l : List Table) : ∀ u : State, u.started = true → Safe u (l.foldl (State.swapIfDue frame) u) := by
    induction l with
    | nil => exact fun u _ => .refl u
    | cons t ts ih =>
      intro u hu
      obtain ⟨safe, started⟩ := State.swapIfDue_safe hu frame t
      exact safe.trans (ih _ started)
  refine leads_next.2 ((s.take_kept (.tableStoreSync frame)).safe.trans ?_)
  split
  · exact swaps Table.all _ ‹_›
  · exact .refl _

end Sys2Proof.Machine
end

section
/-! SUPPORT. The resets and the completion of start-up keep the stored data and the banks in their forms and ranges. -/

namespace Sys2Proof.Machine

/-! ## The built-in defaults (R190) -/

theorem validate_gammaDefault : validate .gamma gammaDefault = none := by decide +kernel

theorem defaultBank_valid (x : Table) : validate x (defaultBank x) = none := by
  cases x with
  | gamma => exact validate_gammaDefault
  | groups => rfl
  | _ => decide

theorem defaultBank_length (x : Table) : (defaultBank x).length = x.size := by
  cases x with
  | gamma => simp [defaultBank, gammaDefault, gammaDefaultCurve, Table.size]
  | groups => exact List.length_replicate ..
  | _ => rfl

/-- A record as a start-up leaves it fits where its bank is valid. -/
theorem tableFit_fresh {x : Table} {b : List Word} (valid : validate x b = none) (len : b.length = x.size) (lock : Bool)
    (save : Option SaveRun) : TableFit x (.fresh b) lock save :=
  ⟨valid, len, .nil, by simp [TableRec.fresh], by simp [TableRec.fresh], fun _ _ => rfl⟩

theorem tableFit_default (x : Table) (lock : Bool) (save : Option SaveRun) :
    TableFit x (.fresh (defaultBank x)) lock save :=
  tableFit_fresh (defaultBank_valid x) (defaultBank_length x) lock save

/-- A record whose shadow is given up fits, whatever SAVE is in flight. -/
theorem TableFit.kept {x : Table} {r : TableRec} {lock : Bool} {save : Option SaveRun} (h : TableFit x r lock save)
    (lock' : Bool) (save' : Option SaveRun) : TableFit x r.kept lock' save' := by
  obtain ⟨valid, len, bad, -, -, -⟩ := h
  exact ⟨valid, len, bad, by simp [TableRec.kept], by simp [TableRec.kept], fun _ _ => rfl⟩

theorem driveIdle_reset : DriveIdle .reset := ⟨rfl, rfl, rfl, rfl, rfl⟩

theorem captureFit_reset : CaptureFit .reset := ⟨⟨.nil, by simp [Capture.reset]⟩,
  ⟨.nil, by simp [Capture.reset]⟩, Nat.zero_le _, by simp [Capture.reset], by simp [Capture.reset]⟩

theorem clockFit_reset : ClockFit .reset := ⟨by decide, by decide, by decide, by decide, by decide⟩

/-! ## Power-on reset and pin reset -/

theorem State.powerOn_storedData (s : State) : StoredDataInvariant s.powerOn :=
  (storedDataInvariant_iff _).2 ⟨captureFit_reset, clockFit_reset, zeroTrims_fit,
    by simp [State.powerOn, State.reset, Dimming.reset]⟩

theorem State.powerOn_bankInvariant (s : State) : BankInvariant s.powerOn := by
  refine (bankInvariant_iff _).2 ⟨fun x => ?_, driveIdle_reset.fit geometryFit_builtIn _⟩
  have table : s.powerOn.table x = .fresh (defaultBank x) := by cases x <;> rfl
  rw [table]
  exact tableFit_default x _ _

/-- The records after a pin reset (R177, R180). -/
theorem Tables.pinReset_get (t : Tables) (x : Table) :
    t.pinReset.banks.get x = if t.lock && x.lockable then (t.banks.get x).kept else .fresh (defaultBank x) := by
  unfold Tables.pinReset
  cases t.lock <;> cases x <;> rfl

theorem State.pin_table (s : State) (x : Table) :
    s.pin.table x = if s.tables.lock && x.lockable then (s.table x).kept else .fresh (defaultBank x) :=
  s.tables.pinReset_get x

theorem State.pin_safe (s : State) : Safe s s.pin := by
  refine ⟨.of_parts (fun _ => captureFit_reset) (fun k => ⟨k.weekday, k.minute, k.ms, k.accumulator, k.drift⟩)
    (fun _ => zeroTrims_fit) (fun _ => by simp [State.pin, Dimming.reset]), .of_parts (fun fit => ⟨fun x => ?_, fun l => ?_⟩)
    fun _ => driveIdle_reset.fit geometryFit_builtIn _⟩
  · rw [State.pin_table]
    split
    · exact (fit x).kept _ _
    · exact tableFit_default x _ _
  · refine ⟨l, fun x hx => ?_⟩
    rw [State.pin_table]
    simp [l, hx, TableRec.kept]

/-! ## Loading (R190) -/

theorem State.loadTables_table (s : State) (x : Table) :
    s.loadTables.table x = s.flash.load (s.flash.resultOf s.tables.lock x) x (s.table x) := by
  cases x <;> rfl

/-- Records set one after another change the banks alone. -/
theorem foldl_setTable_frame (r : Table → TableRec) (l : List Table) : ∀ s : State,
    ∃ b, l.foldl (fun q t => q.setTable t (r t)) s = { s with tables := { s.tables with banks := b } } := by
  induction l with
  | nil => exact fun s => ⟨s.tables.banks, rfl⟩
  | cons t ts ih =>
    intro s
    obtain ⟨b, h⟩ := ih (s.setTable t (r t))
    exact ⟨b, h⟩

/-- What the loading of the store changes. -/
theorem State.loadStore_frame (s : State) : ∃ banks missing agent,
    s.loadStore = { s with trims := s.flash.loadTrims, agent := agent
                           tables := { s.tables with banks := banks, layoutMissing := missing } } ∧ agent.save = none := by
  obtain ⟨b, h⟩ := foldl_setTable_frame (fun t => s.flash.load (s.flash.resultOf s.tables.lock t) t (s.table t)) Table.all s
  unfold State.loadStore State.loadTables
  rw [h]
  exact ⟨b, _, _, rfl, rfl⟩

/-- The record that start-up sets for a table fits, with a CLEAN shadow under the lock. -/
theorem Flash.load_fit (f : Flash) {x : Table} {held : TableRec} {lock : Bool} {save : Option SaveRun}
    (h : TableFit x held lock save) : TableFit x (f.load (f.resultOf lock x) x held) lock none ∧
      (x.lockable = true → (f.load (f.resultOf lock x) x held).shadow = .clean) ∧
      (lock = true → x.lockable = true → f.load (f.resultOf lock x) x held = held) := by
  unfold Flash.resultOf
  split
  · next hk =>
    simp only [Bool.and_eq_true] at hk
    obtain ⟨valid, len, bad, posted, editing, clean⟩ := h
    refine ⟨⟨valid, len, bad, fun b e hb => ?_, editing, clean⟩, fun _ => clean hk.1 hk.2, fun _ _ => rfl⟩
    simp [Flash.load, clean hk.1 hk.2] at hb
  · next hk =>
    split
    · next good =>
      simp only [Bool.and_eq_true, FlashTable.goodFor, beq_iff_eq, Option.isNone_iff_eq_none] at good
      obtain ⟨-, ⟨⟨-, len⟩, -⟩, valid⟩ := good
      exact ⟨tableFit_fresh valid len _ _, fun _ => rfl, fun l hx => by simp [l, hx] at hk⟩
    · exact ⟨tableFit_default x _ _, fun _ => rfl, fun l hx => by simp [l, hx] at hk⟩

theorem State.loadStore_table (s : State) (x : Table) :
    s.loadStore.table x = s.flash.load (s.flash.resultOf s.tables.lock x) x (s.table x) := s.loadTables_table x

theorem State.loadStore_safe (s : State) : Safe s s.loadStore := by
  have table := s.loadStore_table
  obtain ⟨banks, missing, agent, e, save⟩ := s.loadStore_frame
  rw [e] at table ⊢
  refine ⟨.of_parts id id (fun _ => s.flash.loadTrims_fit) id, .of_parts (fun fit => ⟨fun x => ?_, fun l => ?_⟩) id⟩
  · rw [table, show agent.save = none from save]
    exact (s.flash.load_fit (fit x)).1
  · refine ⟨l, fun x hx => ?_⟩
    rw [table, (s.flash.load_fit (fit x)).2.2 l hx]

theorem State.decideLock_dataKept (s : State) : DataKept s s.decideLock := by
  unfold State.decideLock
  exact (s.readEntry_kept .limits 10).toDataKept.trans (.of_fields (by simp))

/-- The lock is decided once every shadow under it is CLEAN (R177). -/
theorem State.decideLock_bankSafe {s : State} (h : ∀ x, Table.lockable x = true → (s.table x).shadow = .clean) :
    BankSafe s s.decideLock := by
  have read := s.readEntry_kept .limits 10
  unfold State.decideLock
  refine read.toBankKept.safe.trans (State.setLock_bankSafe (fun l => by rw [l, Bool.true_or]) fun x hx => ?_)
  rw [read.shadow x]
  exact h x hx

/-! ## The blocks begin (R189, R191) -/

theorem State.lightModules_kept (s : State) : Kept s s.lightModules := by
  unfold State.lightModules
  exact .of_fields (by simp)

theorem State.handTableEcc_kept (l : List Table) : ∀ s : State, Kept s (s.handTableEcc l) := by
  induction l with
  | nil => exact Kept.refl
  | cons t ts ih => exact fun s => (s.hand_kept _).trans (ih _)

theorem State.handConditions_kept (s : State) (marked : List Table) : Kept s (s.handConditions marked) := by
  unfold State.handConditions
  have clock : Kept s (if s.time.clockSet then s else s.hand (.conditionDelivery .clockUnset true)) :=
    .ite (.refl s) (s.hand_kept _)
  have marks := clock.trans (State.handTableEcc_kept marked _)
  exact marks.trans (.ite (State.hand_kept ..) (.refl _))

theorem State.beginBlocks_dataKept (s : State) (marked : List Table) : DataKept s (s.beginBlocks marked) := by
  have begun : Kept s (if s.unconfigured then s.beginUnconfigured else s) := .ite s.beginUnconfigured_kept (.refl s)
  unfold State.beginBlocks
  refine DataKept.trans ?_ (State.handConditions_kept _ marked).toDataKept
  refine DataKept.trans ?_ (State.startLocalTick_kept _ _).toDataKept
  refine DataKept.trans ?_ (State.lightModules_kept _).toDataKept
  exact begun.toDataKept.trans ((State.resetCeiling_kept _).toDataKept.trans (State.takeGeometry_dataKept _))

/-- The blocks begin with a Drive Port that has begun nothing. -/
theorem State.beginBlocks_bankSafe {s : State} (h : DriveIdle s.drive) (marked : List Table) :
    BankSafe s (s.beginBlocks marked) ∧ DriveIdle (s.beginBlocks marked).drive := by
  have begun : Kept s (if s.unconfigured then s.beginUnconfigured else s) := .ite s.beginUnconfigured_kept (.refl s)
  have before := (begun.trans (State.resetCeiling_kept _)).toBankKept
  unfold State.beginBlocks
  dsimp only
  generalize (if s.unconfigured then s.beginUnconfigured else s).resetCeiling = u at before
  have idle : DriveIdle u.drive := before.drive ▸ h
  have after := ((State.lightModules_kept u.takeGeometry).trans
    ((State.startLocalTick_kept _ u.takeGeometry.lightModules.now).trans
      (State.handConditions_kept _ marked))).toBankKept
  refine ⟨before.safe.trans ((State.takeGeometry_safe idle).2.trans after.safe), ?_⟩
  rw [after.drive, State.takeGeometry_drive]
  exact ⟨idle.position, idle.startLine, idle.sweepPointer, idle.inFlight, idle.unemitted⟩

theorem State.raisePorts_kept (s : State) : Kept s s.raisePorts := by
  have up : Kept s (if s.link.partnerU && !s.link.upU then s.raiseU else s) := .ite s.raiseU_kept (.refl s)
  unfold State.raisePorts
  exact up.trans (.ite (State.raiseD_kept _) (.refl _))

/-- The part has started, with a Drive Port that has begun nothing. -/
theorem State.setStarted_bankSafe {s : State} (h : DriveIdle s.drive) : BankSafe s { s with started := true } :=
  .of_parts (fun fit => ⟨fit, fun l => ⟨l, fun _ _ => rfl⟩⟩) fun d => h.fit d.geometry true

theorem State.startUp_safe {s : State} (h : s.started = false) : Safe s s.startUp := by
  have loaded := s.loadStore_safe
  constructor
  · have data : DataKept s.loadStore s.startUp := by
      unfold State.startUp
      refine DataKept.trans ?_ (State.raisePorts_kept _).toDataKept
      exact (State.decideLock_dataKept _).trans ((State.beginBlocks_dataKept _ _).trans (.of_fields ⟨rfl, rfl, rfl, rfl⟩))
    exact loaded.1.trans data.safe
  · intro i
    obtain ⟨tables, drive⟩ := (bankInvariant_iff s).1 i
    have clean : ∀ x, Table.lockable x = true → (s.loadStore.table x).shadow = .clean := fun x hx => by
      rw [State.loadStore_table]
      exact (s.flash.load_fit (tables x)).2.1 hx
    have decided := State.decideLock_bankSafe clean
    have idle : DriveIdle s.loadStore.decideLock.drive := by
      obtain ⟨_, _, _, e, -⟩ := s.loadStore_frame
      simpa [State.decideLock, e] using drive.waiting h
    obtain ⟨begun, idle'⟩ := State.beginBlocks_bankSafe idle s.loadStore.markedTables
    exact (loaded.2.trans (decided.trans (begun.trans ((State.setStarted_bankSafe idle').trans
      (State.raisePorts_kept _).toBankKept.safe)))) i

theorem execStartUpComplete_safe (s : State) : Leads (execStartUpComplete s) (Safe s) := by
  refine leads_next.2 ?_
  split
  · exact .refl s
  · exact State.startUp_safe (by simpa using ‹¬ s.started = true›)

/-! ## Soft reset (R189) -/

/-- The state at a soft reset, before the blocks begin. -/
def State.softCleared (s : State) : State :=
  { s with
    link := s.link.softReset
    capture := .reset
    dimming := .reset
    drive := { Drive.reset with geometry := s.drive.geometry }
    stream := .reset
    faults := .cleared s.drive.geometry.modules s.faults.history
    reports := .reset
    tables := { s.tables with banks := s.tables.banks.shadowsClean }
    agent := { s.agent with save := none }
    handed := s.handed.filter (· == Instr.secondEventLink)
    out := s.out ++ s.cutWords }

theorem State.soft_eq (s : State) : s.soft = s.softCleared.beginBlocks s.markedTables := rfl

theorem State.softCleared_table (s : State) (x : Table) : s.softCleared.table x = (s.table x).kept := by
  cases x <;> rfl

theorem State.soft_safe (s : State) : Safe s s.soft := by
  have idle : DriveIdle s.softCleared.drive := ⟨rfl, rfl, rfl, rfl, rfl⟩
  have cleared : Safe s s.softCleared := by
    refine ⟨.of_parts (fun _ => captureFit_reset) id id (fun _ => by simp [State.softCleared, Dimming.reset]),
      .of_parts (fun fit => ⟨fun x => ?_, fun l => ⟨l, fun x _ => ?_⟩⟩) fun d => idle.fit d.geometry _⟩
    · rw [State.softCleared_table]
      exact (fit x).kept _ _
    · rw [State.softCleared_table]
      rfl
  rw [State.soft_eq]
  exact cleared.trans ⟨(State.beginBlocks_dataKept _ _).safe, (State.beginBlocks_bankSafe idle _).1⟩

theorem execSoftReset_safe (head : MgmtHead) (args : List Byte) (s : State) :
    Leads (execSoftReset head args s) (Safe s) := by
  have arrived := (s.arriveMgmt_kept head 0x10 args).safe
  unfold execSoftReset
  refine leads_next.2 ?_
  split
  · split
    · exact arrived.trans ((State.reply_kept ..).safe.trans (State.soft_safe _))
    · exact arrived.trans (State.reply_kept ..).safe
  · exact arrived

end Sys2Proof.Machine
end

section
/-! The invariants of the stored data and of the banks: every command but a power-on reset keeps them with the law of the
lock, and a power-on reset sets a state that meets them. -/

namespace Sys2Proof.Machine

theorem Kept.leads {o : Host.Outcome State Fault Refusal} {s : State} (h : Leads o (Kept s)) : Leads o (Safe s) :=
  fun t e => (h t e).safe

/-- A command that changes the stored data, and keeps the banks. -/
theorem Leads.of_data {o : Host.Outcome State Fault Refusal} {s : State}
    (h : Leads o fun t => DataSafe s t ∧ BankKept s t) : Leads o (Safe s) :=
  fun t e => ⟨(h t e).1, (h t e).2.safe⟩

/-- A request is safe where carrying it out is. -/
theorem State.request_safe {carryOut : State → Answer × State} (h : ∀ u, Safe u (carryOut u).2) (s : State)
    (head : MgmtHead) (code : Byte) (args : List Byte) :
    Leads (.next (s.request head code args carryOut)) (Safe s) :=
  leads_next.2 (State.request_related (R := Safe) Safe.trans Kept.safe h s head code args)

theorem safe_of_data {s t : State} (h : DataSafe s t ∧ BankKept s t) : Safe s t := ⟨h.1, h.2.safe⟩

theorem execFrameCaptureSync_safe (frame content : Word) (s : State) :
    Leads (execFrameCaptureSync frame content s) (Safe s) := by
  refine leads_next.2 ((s.take_kept (.frameCaptureSync frame content)).safe.trans ?_)
  split
  · generalize s.take (.frameCaptureSync frame content) = u
    have closed : Safe u u.closeFrame.2 := safe_of_data ⟨u.closeFrame_safe, u.closeFrame_bankKept⟩
    have dwelt : Safe u.closeFrame.2 { u.closeFrame.2 with capture := u.closeFrame.2.capture.advanceDwell } :=
      safe_of_data ⟨.of_capture Capture.advanceDwell_fit, .of_fields (by simp)⟩
    exact closed.trans (dwelt.trans ((State.hand_kept ..).safe.trans
      (safe_of_data ⟨State.openFrame_safe _ frame content, State.openFrame_bankKept _ frame content⟩)))
  · exact .refl _

theorem execPixelFrame_safe (line column : Word) (samples : List Pixel) (pad : BitVec 4) (s : State) :
    Leads (execPixelFrame line column samples pad s) (Safe s) := by
  refine leads_next.2 ?_
  split
  · exact (s.forward_kept (.pixel line column samples pad)).safe.trans
      (safe_of_data ⟨.of_capture fun c => Capture.pixel_fit c line column samples, .of_fields (by simp)⟩)
  · exact .refl s

/-- Every command but a power-on reset is safe. -/
theorem exec_safe (s : State) (c : Instr) (h : c ≠ .powerOnReset) : Leads (exec c s) (Safe s) := by
  cases c with
  | powerOnReset => exact absurd rfl h
  | pinReset => exact leads_next.2 s.pin_safe
  | startUpComplete => exact execStartUpComplete_safe s
  | linkUp p => exact Kept.leads (execLinkUp_kept p s)
  | linkDown p => exact Kept.leads (execLinkDown_kept p s)
  | frameCheckFailure p => exact Kept.leads (execFrameCheckFailure_kept p s)
  | frameAborted p => exact leads_next.2 (.refl s)
  | syncFrame frame content lux flags => exact Kept.leads (execSyncFrame_kept frame content lux flags s)
  | frameCaptureSync frame content => exact execFrameCaptureSync_safe frame content s
  | dimmingSync lux valid => exact Kept.leads (execDimmingSync_kept lux valid s)
  | tableStoreSync frame => exact execTableStoreSync_safe frame s
  | streamSync => exact Kept.leads (execStreamSync_kept s)
  | sweepCountSync => exact execSweepCountSync_safe s
  | sweepTick => exact execSweepTick_safe s
  | pixelFrame line column samples pad => exact execPixelFrame_safe line column samples pad s
  | enumFrame counter => exact Kept.leads (execEnumFrame_kept counter s)
  | mgmtNotTaken head code args => exact Kept.leads (execMgmtNotTaken_kept head code args s)
  | holdFrame pause => exact Kept.leads (execHoldFrame_kept pause s)
  | forwardedReply body => exact Kept.leads (execForwardedReply_kept body s)
  | forwardedRecord rec => exact Kept.leads (execForwardedRecord_kept rec s)
  | forwardedFrameSent => exact Kept.leads (execForwardedFrameSent_kept s)
  | holdFrameSent => exact Kept.leads (execHoldFrameSent_kept s)
  | replySent => exact Kept.leads (execReplySent_kept s)
  | reportSent => exact Kept.leads (execReportSent_kept s)
  | millisecondStep => exact .of_data (execMillisecondStep_safe s)
  | secondEventLink => exact Kept.leads (execSecondEventLink_kept s)
  | summaryCountAdvance => exact Kept.leads (execSummaryCountAdvance_kept s)
  | minuteEventCeiling => exact Kept.leads (execMinuteEventCeiling_kept s)
  | overrideMinute => exact .of_data (execOverrideMinute_safe s)
  | overrideExpiry => exact .of_data (execOverrideExpiry_safe s)
  | syncTimeoutExpiry => exact Kept.leads (execSyncTimeoutExpiry_kept s)
  | holdExpiry => exact Kept.leads (execHoldExpiry_kept s)
  | localTickExpiry => exact Kept.leads (execLocalTickExpiry_kept s)
  | dimmingLocalTick => exact Kept.leads (execDimmingLocalTick_kept s)
  | sweepCountLocalTick => exact execSweepCountLocalTick_safe s
  | lZeroNotice => exact Kept.leads (execLZeroNotice_kept s)
  | moduleComputation => exact execModuleComputation_safe s
  | pollResult m number opens shorts temperature => exact execPollResult_safe m number opens shorts temperature s
  | faultEvaluationDelivery evaluations => exact Kept.leads (execFaultEvaluationDelivery_kept evaluations s)
  | conditionDelivery condition present => exact Kept.leads (execConditionDelivery_kept condition present s)
  | tableEccDelivery table present => exact Kept.leads (execTableEccDelivery_kept table present s)
  | restoreWindowExpiry => exact Kept.leads (execRestoreWindowExpiry_kept s)
  | localReportDelivery reports => exact Kept.leads (execLocalReportDelivery_kept reports s)
  | holdRefreshExpiry => exact Kept.leads (execHoldRefreshExpiry_kept s)
  | inboundHoldExpiry => exact Kept.leads (execInboundHoldExpiry_kept s)
  | saveWriteSuccess => exact Kept.leads (execSaveWriteSuccess_kept s)
  | saveWriteFailure => exact Kept.leads (execSaveWriteFailure_kept s)
  | unknownRequest head code args => exact State.request_safe (fun u => .refl u) s head code args
  | identify head args => exact State.request_safe (fun u => .refl u) s head _ args
  | statusRead head args => exact State.request_safe (fun u => .refl u) s head _ args
  | tableWrite head args => exact State.request_safe (tableWrite_safe args) s head _ args
  | tableRead head args => exact State.request_safe (tableRead_safe args) s head _ args
  | tableCommit head args => exact State.request_safe (tableCommit_safe args) s head _ args
  | tableAbandon head args => exact State.request_safe (tableAbandon_safe args) s head _ args
  | ceilingLock head args => exact State.request_safe (ceilingLock_safe args) s head _ args
  | timeSet head args => exact State.request_safe (fun u => safe_of_data (timeSet_safe args u)) s head _ args
  | driftSet head args => exact State.request_safe (fun u => safe_of_data (driftSet_safe args u)) s head _ args
  | levelOverride head args => exact State.request_safe (fun u => safe_of_data (levelOverride_safe args u)) s head _ args
  | overrideEnd head args => exact State.request_safe (fun u => safe_of_data (overrideEnd_safe args u)) s head _ args
  | trimNudge head args => exact State.request_safe (fun u => safe_of_data (trimNudge_safe args u)) s head _ args
  | faultRead head args => exact State.request_safe (fun u => (faultRead_kept args u).safe) s head _ args
  | faultClear head args => exact State.request_safe (fun u => (faultClear_kept args u).safe) s head _ args
  | save head args => exact execSave_safe head args s
  | softReset head args => exact execSoftReset_safe head args s

/-- What a step does: a power-on reset, or a command that is safe, or nothing. -/
theorem step_cases {s t : State} (h : step s = .next t) :
    (s.pending.head? = some .powerOnReset ∧ ∃ u : State, t = u.powerOn) ∨ Safe s t := by
  unfold step at h
  split at h
  · cases h
    exact .inr (.refl s)
  · next c rest hp =>
    have popped : Kept s { s with pending := rest } := .of_fields ⟨rfl, rfl, rfl, rfl, rfl, rfl, rfl, rfl⟩
    by_cases hc : c = .powerOnReset
    · subst hc
      cases h
      exact .inl ⟨by simp [hp], _, rfl⟩
    · exact .inr (popped.safe.trans (exec_safe _ c hc t h))

/-- Settles O56: the stored data is kept by each command, part by part, and set by a power-on reset. -/
theorem storedDataInvariantIsKept : Obligations.StoredDataInvariantIsKept := by
  intro s t i h
  rcases step_cases h with ⟨-, u, rfl⟩ | safe
  · exact u.powerOn_storedData
  · exact safe.1 i

/-- Settles O57: the banks and the Drive Port are kept by each command, part by part, with the law of the lock, and set by a
power-on reset. -/
theorem bankInvariantIsKept : Obligations.BankInvariantIsKept := by
  intro s t i h
  rcases step_cases h with ⟨reset, u, rfl⟩ | safe
  · exact ⟨u.powerOn_bankInvariant, fun _ no => absurd reset no⟩
  · obtain ⟨it, law⟩ := safe.2 i
    refine ⟨it, fun lock _ => ?_⟩
    obtain ⟨lockT, active⟩ := law lock
    exact ⟨lockT, active .schedule rfl, active .limits rfl⟩

end Sys2Proof.Machine
end

section
/-! The decision at the close of a frame while the storage shows no error, and what a SYNC does at Frame Capture. -/

namespace Sys2Proof.Machine

/-- A coverage map that misses a pixel of the window is not the whole window. -/
theorem not_complete_of_missing {o : OpenFrame} {a : Nat} (ha : a < o.geometry.width * o.geometry.height)
    (h : a ∉ o.coverage) : o.complete = false := by
  simp only [OpenFrame.complete, Geometry.area, beq_eq_false_iff_ne, ne_eq]
  intro e
  exact h (e ▸ List.mem_range.2 ha)

theorem complete_of_whole {o : OpenFrame} (h : o.coverage = List.range (o.geometry.width * o.geometry.height)) :
    o.complete = true := by
  simpa [OpenFrame.complete, Geometry.area] using h

/-- The decision changes Frame Capture alone, and opens no frame. -/
theorem State.decideComplete_frame {s : State} (h : s.storage = []) (o : OpenFrame) :
    (s.decideComplete o).2 = { s with capture := (s.decideComplete o).2.capture } ∧
      (s.decideComplete o).2.capture.opened = s.capture.opened := by
  unfold State.decideComplete
  dsimp only
  split
  · exact ⟨rfl, rfl⟩
  · unfold State.decideHeld
    rw [State.readEntry_quiet h, State.readEntry_quiet h]
    dsimp only
    repeat' split
    all_goals exact ⟨rfl, rfl⟩

/-- The decision on a complete frame, by the content displayed (Table 2-2). -/
theorem State.decideComplete_decided {s : State} (h : s.storage = []) (o : OpenFrame) :
    let sig := frameSignature o.geometry s.capture.fill
    let r := (s.decideComplete o).1
    let d := (s.decideComplete o).2.capture
    let swapped (x : Displayed) : Capture :=
      { s.capture with displayed := some x, display := s.capture.fill, fill := s.capture.display }
    (s.capture.displayed = none → r = .swap ∧ d = swapped ⟨o.content, sig, o.frame, 0⟩) ∧
    ∀ x, s.capture.displayed = some x →
      (o.content ≠ x.content →
        (s.present .limits 4 = none → r = .stopped ∧ d = s.capture) ∧
        ∀ dwell, s.present .limits 4 = some dwell →
          (x.dwell < dwell → r = .early ∧ d = s.capture) ∧
          (dwell ≤ x.dwell → r = .swap ∧ d = swapped ⟨o.content, sig, o.frame, 0⟩)) ∧
      (o.content = x.content →
        (s.present .limits 5 = none → r = .stopped ∧ d = s.capture) ∧
        ∀ static, s.present .limits 5 = some static →
          (static ≠ 0 ∧ sig ≠ x.signature → r = .motion ∧ d = s.capture) ∧
          (static = 0 ∨ sig = x.signature → r = .swap ∧ d = swapped ⟨o.content, sig, o.frame, x.dwell⟩)) := by
  intro sig
  cases hd : s.capture.displayed with
  | none =>
    have e : s.decideComplete o = (.swap, s.swapSlots ⟨o.content, sig, o.frame, 0⟩) := by
      unfold State.decideComplete
      rw [hd]
    rw [e]
    exact ⟨fun _ => ⟨rfl, rfl⟩, by simp⟩
  | some x =>
    have e : s.decideComplete o = s.decideHeld o sig x := by
      unfold State.decideComplete
      rw [hd]
    rw [e]
    unfold State.decideHeld
    rw [State.readEntry_quiet h, State.readEntry_quiet h]
    refine ⟨by simp, fun x' e => ?_⟩
    obtain rfl := Option.some.inj e
    refine ⟨fun differs => ?_, fun same => ?_⟩
    · rw [if_neg differs]
      refine ⟨fun stopped => by rw [stopped]; exact ⟨rfl, rfl⟩, fun dwell e => ?_⟩
      rw [e]
      dsimp only
      exact ⟨fun early => by rw [if_pos early]; exact ⟨rfl, rfl⟩, fun due => by
        rw [if_neg (Nat.not_lt.2 due)]; exact ⟨rfl, rfl⟩⟩
    · rw [if_pos same]
      refine ⟨fun stopped => by rw [stopped]; exact ⟨rfl, rfl⟩, fun static e => ?_⟩
      rw [e]
      dsimp only
      refine ⟨fun moved => by rw [if_pos moved]; exact ⟨rfl, rfl⟩, fun still => ?_⟩
      have unmoved : ¬ (static ≠ 0 ∧ sig ≠ x.signature) := by tauto
      rw [if_neg unmoved, same]
      exact ⟨rfl, rfl⟩

/-- The close of a frame decides it as Table 2-2 says, leaves no frame open, and changes Frame Capture alone. -/
theorem State.closeFrame_decided {s : State} (h : s.storage = []) :
    FrameDecided s s.closeFrame.1 s.closeFrame.2.capture ∧
      s.closeFrame.2 = { s with capture := s.closeFrame.2.capture } ∧ s.closeFrame.2.capture.opened = none := by
  unfold State.closeFrame FrameDecided
  cases ho : s.capture.opened with
  | none =>
    have e : ({ s.capture with opened := none } : Capture) = s.capture := by rw [← ho]
    exact ⟨⟨fun _ => ⟨rfl, e.symm⟩, by simp⟩, rfl, ho⟩
  | some o =>
    have quiet : ({ s with capture := { s.capture with opened := none } } : State).storage = [] := h
    refine ⟨⟨by simp, fun o' e => ?_⟩, ?_⟩
    · obtain rfl := Option.some.inj e
      refine ⟨fun ⟨a, ha, missing⟩ => ?_, fun whole => ?_⟩
      · simp [not_complete_of_missing ha missing, saturate, counterMax, counted]
      · simp only [complete_of_whole whole, if_true]
        exact State.decideComplete_decided quiet o
    · dsimp only
      split
      · exact State.decideComplete_frame quiet o
      · exact ⟨rfl, rfl⟩

/-- A frame is opened with the geometry of LAYOUT, unless the part is UNCONFIGURED (R28, R40). -/
theorem State.openFrame_quiet {s : State} (h : s.storage = []) (frame content : Word) :
    s.openFrame frame content =
      if s.unconfigured then s
      else
        let l := fun i => entry (s.table .layout).active i
        { s with capture := { s.capture with
            opened := some ⟨frame, content, ⟨l 0, l 1, l 2, l 3, l 4, l 5, l 6, l 7⟩, []⟩ } } := by
  unfold State.openFrame
  split
  · rfl
  · next configured =>
    have unmarked : (s.table .layout).bad = [] := by
      simp only [State.unconfigured, Bool.or_eq_true, not_or] at configured
      simpa using configured.1.1.2
    rw [State.readEntries_quiet h]
    simp [State.present, unmarked, geometryOf, List.range, List.range.loop]

/-- Settles O15: the close is decided by `State.closeFrame_decided`, and the next frame opened by
`State.openFrame_quiet`. -/
theorem frameCaptureSyncDecides : Obligations.FrameCaptureSyncDecides := by
  intro frame content s started quiet
  let u := s.take (.frameCaptureSync frame content)
  obtain ⟨decided, frameOnly, closed⟩ := State.closeFrame_decided (s := u) quiet
  have step : exec (.frameCaptureSync frame content) s = .next
      ((({ u.closeFrame.2 with capture := u.closeFrame.2.capture.advanceDwell }).hand
        (.faultEvaluationDelivery (closeEvaluations u.closeFrame.1))).openFrame frame content) := by
    simp only [exec, execFrameCaptureSync]
    rw [if_pos (show (s.take (.frameCaptureSync frame content)).started = true from started)]
  refine ⟨u.closeFrame.1, u.closeFrame.2.capture, _, decided, step, ?_⟩
  generalize u.closeFrame.1 = r
  rw [frameOnly]
  generalize u.closeFrame.2.capture = d at closed
  rw [State.openFrame_quiet (by exact quiet)]
  split
  · next h => exact ⟨rfl, fun _ => closed, fun k => absurd (k.symm.trans h) (by simp)⟩
  · next h => exact ⟨rfl, fun k => absurd k h, fun _ => rfl⟩

end Sys2Proof.Machine
end

section
/-! SUPPORT. A recomputation of T while the storage shows no error: what it sets, as one function of the state, and that it
is the recomputation of R69 and R70 over the curve of R66. -/

namespace Sys2Proof.Machine

/-! ## The curve (R65 to R67) -/

/-- The lux of breakpoint j of an AMBIENT bank. -/
def luxAt (b : List Word) (j : Nat) : Nat := entry b (2 * j - 1)

/-- The level of breakpoint j of an AMBIENT bank. -/
def levelAt (b : List Word) (j : Nat) : Nat := entry b (2 * j)

/-- The breakpoints i + 1 to i + k of an AMBIENT bank. -/
def pointsFrom (b : List Word) (i k : Nat) : List (Nat × Nat) :=
  (List.range' (i + 1) k).map fun j => (luxAt b j, levelAt b j)

theorem firstFailure_eq_none {cs : List (Bool × Nat)} (h : firstFailure cs = none) : ∀ c ∈ cs, c.1 = true := by
  induction cs with
  | nil => simp
  | cons c cs ih =>
    obtain ⟨ok, i⟩ := c
    simp only [firstFailure] at h
    split at h
    · next hok => simpa [hok] using fun a b hc => ih h (a, b) hc
    · cases h

/-- A valid AMBIENT bank has 2 to 16 breakpoints of rising lux (R65). -/
theorem ambient_valid {b : List Word} (h : validate .ambient b = none) :
    2 ≤ entry b 0 ∧ ∀ j, 1 ≤ j → j < entry b 0 → luxAt b j < luxAt b (j + 1) := by
  simp only [validate, validateAmbient] at h
  split at h
  · next range =>
    simp only [within, Bool.and_eq_true, decide_eq_true_eq] at range
    refine ⟨range.1, fun j h1 hn => ?_⟩
    have check := firstFailure_eq_none h
      (j + 1 < 2 || entry b (2 * (j + 1) - 3) < entry b (2 * (j + 1) - 1), 2 * (j + 1) - 1)
      (List.mem_flatMap.2 ⟨j, List.mem_range.2 hn, by simp [ambientPointChecks]⟩)
    simp only [Bool.or_eq_true, decide_eq_true_eq] at check
    have e : 2 * (j + 1) - 3 = 2 * j - 1 := by omega
    rw [e] at check
    exact check.resolve_left (by omega)
  · cases h

/-- The lux of the breakpoints rises from any of them to any later one. -/
theorem luxAt_lt {b : List Word} (rising : ∀ j, 1 ≤ j → j < entry b 0 → luxAt b j < luxAt b (j + 1)) {i j : Nat}
    (hi : 1 ≤ i) (hij : i < j) (hj : j ≤ entry b 0) : luxAt b i < luxAt b j := by
  induction j, hij using Nat.le_induction with
  | base => exact rising i hi (by omega)
  | succ j hij ih => exact Nat.lt_trans (ih (by omega)) (rising j (by omega) (by omega))

/-- The value on a segment is a number at or above 0, so that taking it as one loses nothing (R66). -/
theorem segmentValue_cast {x0 y0 x1 y1 a : Nat} (h0 : x0 ≤ a) (h1 : a < x1) :
    (segmentValue x0 y0 x1 y1 a : Int) =
      (y0 : Int) + (((y1 : Int) - y0) * ((a : Int) - x0)).tdiv ((x1 : Int) - x0) := by
  refine Int.toNat_of_nonneg ?_
  have width : (0 : Int) < x1 - x0 := by omega
  have bound : -((y0 : Int) * (x1 - x0)) ≤ ((y1 : Int) - y0) * ((a : Int) - x0) := by
    have e : ((y1 : Int) - y0) * ((a : Int) - x0) + (y0 : Int) * (x1 - x0) =
        (y1 : Int) * (a - x0) + (y0 : Int) * (x1 - a) := by ring
    have p1 : (0 : Int) ≤ (y1 : Int) * (a - x0) := Int.mul_nonneg (by omega) (by omega)
    have p2 : (0 : Int) ≤ (y0 : Int) * (x1 - a) := Int.mul_nonneg (by omega) (by omega)
    omega
  have quotient : (-((y0 : Int) * (x1 - x0))).tdiv ((x1 : Int) - x0) ≤
      (((y1 : Int) - y0) * ((a : Int) - x0)).tdiv ((x1 : Int) - x0) := Int.tdiv_le_tdiv width bound
  rw [Int.neg_tdiv, Int.mul_tdiv_cancel _ (by omega)] at quotient
  omega

/-- The curve from breakpoint i at or below the reading on (R66). -/
theorem curveFrom_spec {b : List Word} {a : Nat} (rising : ∀ j, 1 ≤ j → j < entry b 0 → luxAt b j < luxAt b (j + 1))
    (k : Nat) : ∀ i, 1 ≤ i → i + k = entry b 0 → luxAt b i ≤ a →
      (luxAt b (entry b 0) ≤ a → curveFrom a (luxAt b i) (levelAt b i) (pointsFrom b i k) = levelAt b (entry b 0)) ∧
      ∀ j, i ≤ j → j < entry b 0 → luxAt b j ≤ a → a < luxAt b (j + 1) →
        curveFrom a (luxAt b i) (levelAt b i) (pointsFrom b i k) =
          segmentValue (luxAt b j) (levelAt b j) (luxAt b (j + 1)) (levelAt b (j + 1)) a := by
  induction k with
  | zero =>
    intro i h1 hn hi
    obtain rfl : i = entry b 0 := by omega
    exact ⟨fun _ => rfl, fun j hj hjn => by omega⟩
  | succ k ih =>
    intro i h1 hn hi
    have points : pointsFrom b i (k + 1) = (luxAt b (i + 1), levelAt b (i + 1)) :: pointsFrom b (i + 1) k := rfl
    rw [points, curveFrom]
    by_cases ha : a < luxAt b (i + 1)
    · rw [if_pos ha]
      refine ⟨fun hl => ?_, fun j hj hjn hlo hhi => ?_⟩
      · rcases Nat.lt_or_ge (i + 1) (entry b 0) with hlt | hge
        · have := luxAt_lt rising (by omega) hlt (Nat.le_refl _)
          omega
        · have e : i + 1 = entry b 0 := by omega
          rw [e] at ha
          omega
      · rcases Nat.eq_or_lt_of_le hj with rfl | hlt
        · rfl
        · rcases Nat.eq_or_lt_of_le (show i + 1 ≤ j from hlt) with e | hlt'
          · rw [← e] at hlo
            omega
          · have := luxAt_lt rising (by omega) hlt' (Nat.le_of_lt hjn)
            omega
    · rw [if_neg ha]
      obtain ⟨last, inner⟩ := ih (i + 1) (by omega) (by omega) (by omega)
      refine ⟨last, fun j hj hjn hlo hhi => inner j ?_ hjn hlo hhi⟩
      rcases Nat.eq_or_lt_of_le hj with rfl | hlt
      · omega
      · exact hlt

/-- The curve over the breakpoints of a valid bank is the curve of R66. -/
theorem curveValue_spec {b : List Word} (h : validate .ambient b = none) (a : Nat) :
    CurveValue b a (curveValue (pointsFrom b 0 (entry b 0)) a) := by
  obtain ⟨two, rising⟩ := ambient_valid h
  obtain ⟨k, hk⟩ : ∃ k, entry b 0 = k + 1 := ⟨entry b 0 - 1, by omega⟩
  have points : pointsFrom b 0 (entry b 0) = (luxAt b 1, levelAt b 1) :: pointsFrom b 1 k := by rw [hk]; rfl
  rw [points, curveValue]
  by_cases ha : a ≤ luxAt b 1
  · rw [if_pos ha]
    refine ⟨fun _ => rfl, fun hl => ?_, fun j h1 hn hlo hhi => ?_⟩
    · have := luxAt_lt rising (Nat.le_refl 1) (by omega) (Nat.le_refl (entry b 0))
      have hl : luxAt b (entry b 0) ≤ a := hl
      omega
    · rcases Nat.eq_or_lt_of_le h1 with rfl | hlt
      · have e : a = luxAt b 1 := Nat.le_antisymm ha hlo
        subst e
        change (levelAt b 1 : Int) = levelAt b 1 + (_ * ((luxAt b 1 : Int) - luxAt b 1)).tdiv _
        simp
      · have := luxAt_lt rising (Nat.le_refl 1) hlt (by omega)
        have hlo : luxAt b j ≤ a := hlo
        omega
  · rw [if_neg ha]
    obtain ⟨last, inner⟩ := curveFrom_spec (a := a) rising k 1 (Nat.le_refl 1) (by omega) (by omega)
    refine ⟨fun hle => absurd hle ha, last, fun j h1 hn hlo hhi => ?_⟩
    rw [inner j h1 hn hlo hhi]
    exact segmentValue_cast hlo hhi

/-- Reads up to the first bad entry, where no entry is bad. -/
theorem State.readUntilBad_quiet {s : State} (h : s.storage = []) {t : Table} (hb : (s.table t).bad = []) (l : List Nat) :
    s.readUntilBad t l = (some (l.map (entry (s.table t).active)), s) := by
  induction l with
  | nil => rfl
  | cons i is ih => simp [State.readUntilBad, State.readEntry_quiet h, State.present, hb, ih]

theorem breakpoints_map (f : Nat → Nat) (n : Nat) : ∀ i,
    breakpoints ((List.range' (2 * i + 1) (2 * n)).map f) =
      (List.range' (i + 1) n).map fun j => (f (2 * j - 1), f (2 * j)) := by
  induction n with
  | zero => exact fun _ => rfl
  | succ n ih =>
    intro i
    have e : 2 * (n + 1) = 2 * n + 1 + 1 := by omega
    rw [e, List.range'_succ, List.range'_succ, List.range'_succ]
    simp only [List.map_cons, breakpoints]
    rw [show 2 * i + 1 + 1 + 1 = 2 * (i + 1) + 1 from by omega, ih]
    simp only [show 2 * (i + 1) - 1 = 2 * i + 1 from by omega, show 2 * i + 1 + 1 = 2 * (i + 1) from by omega]

/-- The curve computation without a bad entry (R67). -/
theorem State.ambientCurve_quiet {s : State} (h : s.storage = []) (hb : (s.table .ambient).bad = []) :
    s.ambientCurve = (some (curveValue (pointsFrom (s.table .ambient).active 0 (entry (s.table .ambient).active 0))
      s.dimming.lux.toNat), s) := by
  have list : ∀ n, (List.range n).map (· + 1) = List.range' 1 n := fun n => by
    simp [List.range'_eq_map_range, Nat.add_comm]
  simp only [State.ambientCurve, State.readEntry_quiet h, State.present, hb, List.not_mem_nil, if_false, list,
    State.readUntilBad_quiet h hb, Option.map_some]
  rw [breakpoints_map (entry (s.table .ambient).active) _ 0]
  rfl

/-! ## What a recomputation sets -/

/-- The target, the mode and the source that a recomputation sets while the storage shows no error (R69, R70). -/
def State.aim (s : State) : Nat × Mode × Source :=
  if s.forcedDark then (0, .forcedDark, s.selectSource)
  else
    match s.dimming.override with
    | some o => (min o.level s.dimming.ceiling, .override, .override)
    | none =>
      if s.dimming.luxValid && (s.table .ambient).bad.isEmpty then
        (min (curveValue (pointsFrom (s.table .ambient).active 0 (entry (s.table .ambient).active 0)) s.dimming.lux.toNat)
          s.dimming.ceiling, .auto, .auto)
      else (min (entry (s.table .limits).active 2) s.dimming.ceiling, .fallback, .fallback)

/-- The target, the mode and the source are set. -/
def State.setAim (s : State) (a : Nat × Mode × Source) : State :=
  { s with dimming := { s.dimming with target := a.1, mode := a.2.1, source := a.2.2 } }

theorem State.present_limits_of_lit {s : State} (h : s.forcedDark = false) (i : Nat) :
    s.present .limits i = some (entry (s.table .limits).active i) := by
  have : (s.table .limits).bad = [] := by
    simp only [State.forcedDark, State.unconfigured, Bool.or_eq_false_iff] at h
    simpa using h.1.2.1.2
  simp [State.present, this]

/-- A recomputation while the storage shows no error. -/
theorem State.recompute_quiet {s : State} (h : s.storage = []) : s.recompute = s.setAim s.aim := by
  unfold State.recompute State.aim
  by_cases dark : s.forcedDark = true
  · simp [dark, State.darkTarget, State.setAim]
  · have lit : s.forcedDark = false := by simpa using dark
    have fallback : s.fallbackTarget = s.setTarget .fallback (entry (s.table .limits).active 2) := by
      simp [State.fallbackTarget, State.readEntry_quiet h, State.present_limits_of_lit lit]
    simp only [lit, Bool.false_eq_true, if_false]
    cases s.dimming.override with
    | some o => rfl
    | none =>
      by_cases usable : (s.dimming.luxValid && (s.table .ambient).bad.isEmpty) = true
      · have hb : (s.table .ambient).bad = [] := List.isEmpty_iff.1 (Bool.and_eq_true_iff.1 usable).2
        simp only [usable, if_true, State.ambientCurve_quiet h hb]
        rfl
      · simp only [usable, Bool.false_eq_true, if_false, fallback]
        rfl

/-- A recomputation over a valid AMBIENT bank is that of R69 and R70. -/
theorem State.recompute_recomputed {s : State} (h : s.storage = [])
    (valid : validate .ambient (s.table .ambient).active = none) :
    Recomputed s s.recompute := by
  rw [State.recompute_quiet h]
  refine ⟨fun dark => ?_, fun lit => ?_⟩
  · have aim : s.aim = (0, .forcedDark, s.selectSource) := by simp [State.aim, dark]
    rw [aim]
    refine ⟨fun ho => ?_, fun ho hu => ?_, fun ho hu => ?_⟩
    · have source : s.selectSource = .override := by simp [State.selectSource, Option.isSome_iff_ne_none, ho]
      rw [source]
      rfl
    · have source : s.selectSource = .auto := by simp [State.selectSource, ho, hu]
      rw [source]
      rfl
    · have source : s.selectSource = .fallback := by
        simp only [State.selectSource, ho, Option.isSome_none, Bool.false_eq_true, if_false, Bool.and_eq_true,
          List.isEmpty_iff, if_neg hu]
      rw [source]
      rfl
  · refine ⟨fun o ho => ?_, fun ho hu => ?_, fun ho hu f hf => ?_⟩
    · simp [State.aim, lit, ho, State.setAim]
    · refine ⟨_, curveValue_spec valid _, ?_⟩
      simp [State.aim, lit, ho, hu, State.setAim]
    · rw [State.present_limits_of_lit lit] at hf
      obtain rfl := Option.some.inj hf
      have unusable : ¬ (s.dimming.luxValid && (s.table .ambient).bad.isEmpty) = true := by
        simpa [Bool.and_eq_true, List.isEmpty_iff] using hu
      simp [State.aim, lit, ho, unusable, State.setAim]

/-- What a recomputation sets depends on the tables, the stream, CABINET_DARK, the override, the reading and the ceiling. -/
theorem State.aim_congr {s t : State} (tables : t.tables = s.tables) (stream : t.stream = s.stream)
    (dark : t.faults.flags.cabinetDark = s.faults.flags.cabinetDark) (override : t.dimming.override = s.dimming.override)
    (lux : t.dimming.lux = s.dimming.lux) (valid : t.dimming.luxValid = s.dimming.luxValid)
    (ceiling : t.dimming.ceiling = s.dimming.ceiling) : t.aim = s.aim := by
  have table : ∀ x, t.table x = s.table x := fun x => by simp only [State.table, tables]
  have forced : t.forcedDark = s.forcedDark := by
    simp only [State.forcedDark, State.unconfigured, table, tables, stream, dark]
  have source : t.selectSource = s.selectSource := by simp only [State.selectSource, table, override, valid]
  unfold State.aim
  rw [forced, source, override, valid, ceiling, lux, table, table]

end Sys2Proof.Machine
end

section
/-! SUPPORT. The ceiling C while the storage shows no error: its evaluation is that of R93 to R95, and an event of it is that
of R96. -/

namespace Sys2Proof.Machine

/-! ## The least value (R95) -/

/-- The first value of a fold with `min` is the least of the list. -/
theorem foldl_min_spec (a : Nat) (l : List Nat) : l.foldl min a ∈ a :: l ∧ ∀ x ∈ a :: l, l.foldl min a ≤ x :=
  List.min?_eq_some_iff.1 List.min?_cons'

theorem leastOf_spec (l : List Nat) : LeastOrZero (· ∈ l) (leastOf l) := by
  cases l with
  | nil => exact .inr ⟨by simp, rfl⟩
  | cons a l => exact .inl (foldl_min_spec a l)

theorem LeastOrZero.congr {p q : Nat → Prop} (h : ∀ x, p x ↔ q x) {v : Nat} (hp : LeastOrZero p v) : LeastOrZero q v := by
  obtain rfl : p = q := funext fun x => propext (h x)
  exact hp

theorem substituteCeiling_spec (dflt : Option Nat) (es : List ScheduleEntry) :
    LeastOrZero (fun x => dflt = some x ∨ ∃ e ∈ es, e.ceiling = some x) (substituteCeiling dflt es) :=
  LeastOrZero.congr (by simp [eq_comm]) (leastOf_spec _)

/-! ## The candidate with the latest start minute (R93) -/

/-- The start minute of an entry as the comparison takes it. -/
def ScheduleEntry.startOr (e : ScheduleEntry) : Nat := e.start.getD 0

theorem latestCandidate_none {w m : Nat} {es : List ScheduleEntry} (h : ∀ e ∈ es, e.candidate w m = false) :
    ∀ best k, latestCandidate w m best k es = best := by
  induction es with
  | nil => exact fun _ _ => rfl
  | cons e es ih =>
    intro best k
    simp only [latestCandidate, h e (by simp), Bool.false_and, Bool.false_eq_true, if_false]
    exact ih (fun e' he => h e' (by simp [he])) _ _

/-- A best entry later than every candidate to come stays the best. -/
theorem latestCandidate_kept {w m : Nat} {es : List ScheduleEntry} {b : Nat × ScheduleEntry}
    (h : ∀ e ∈ es, e.candidate w m = true → e.startOr < b.2.startOr) :
    ∀ k, latestCandidate w m (some b) k es = some b := by
  induction es with
  | nil => exact fun _ => rfl
  | cons e es ih =>
    intro k
    have step : (e.candidate w m && decide (b.2.start.getD 0 < e.start.getD 0)) = false := by
      cases hc : e.candidate w m with
      | false => rfl
      | true =>
      have : e.start.getD 0 < b.2.start.getD 0 := h e (by simp) hc
      simpa using Nat.le_of_lt this
    simp only [latestCandidate, step, Bool.false_eq_true, if_false]
    exact ih (fun e' he => h e' (by simp [he])) _

theorem best_step {α : Type} {best : Option α} {c d : Bool} {a b : α} (h : (if c && d then some a else best) = some b) :
    best = some b ∨ (c = true ∧ b = a) := by
  cases c <;> cases d <;> simp_all

/-- A candidate later than the best before it and than every other candidate is found. -/
theorem latestCandidate_found {w m : Nat} {es : List ScheduleEntry} {i : Nat} {e : ScheduleEntry} (hi : es[i]? = some e)
    (hc : e.candidate w m = true)
    (latest : ∀ i' e', es[i']? = some e' → e'.candidate w m = true → i' ≠ i → e'.startOr < e.startOr) :
    ∀ best k, (∀ b, best = some b → b.2.startOr < e.startOr) → latestCandidate w m best k es = some (k + i, e) := by
  induction es generalizing i with
  | nil => simp at hi
  | cons x es ih =>
    intro best k hb
    cases i with
    | zero =>
      obtain rfl : x = e := by simpa using hi
      have step : latestCandidate w m best k (x :: es) = latestCandidate w m (some (k, x)) (k + 1) es := by
        cases best with
        | none => simp [latestCandidate, hc]
        | some b =>
          have : b.2.start.getD 0 < x.start.getD 0 := hb b rfl
          simp [latestCandidate, hc, this]
      rw [step, latestCandidate_kept]
      · simp
      · intro e' he hc'
        obtain ⟨i', hi'⟩ := List.mem_iff_getElem?.1 he
        exact latest (i' + 1) e' (by simpa using hi') hc' (by simp)
    | succ i =>
      simp only [latestCandidate]
      rw [ih (i := i) (by simpa using hi) (fun i' e' h' hc' hne => latest (i' + 1) e' (by simpa using h') hc' (by omega))]
      · congr 2
        omega
      · intro b h
        rcases best_step h with h | ⟨better, rfl⟩
        · exact hb b h
        · exact latest 0 x (by simp) better (by simp)

/-! ## The evaluation (R93 to R95) -/

/-- Entry j of SCHEDULE as the bank and its bad marks stand. -/
def State.scheduleEntry (s : State) (j : Nat) : ScheduleEntry :=
  ⟨s.present .schedule (2 + 3 * j), s.present .schedule (3 + 3 * j), s.present .schedule (4 + 3 * j)⟩

theorem scheduleEntries_map (f : Nat → Option Nat) (n : Nat) : ∀ i,
    scheduleEntries ((List.range' (2 + 3 * i) (3 * n)).map f) =
      (List.range' i n).map fun j => ⟨f (2 + 3 * j), f (3 + 3 * j), f (4 + 3 * j)⟩ := by
  induction n with
  | zero => exact fun _ => rfl
  | succ n ih =>
    intro i
    rw [show 3 * (n + 1) = 3 * n + 1 + 1 + 1 from by omega, List.range'_succ, List.range'_succ, List.range'_succ,
      List.range'_succ]
    simp only [List.map_cons, scheduleEntries]
    rw [show 2 + 3 * i + 1 + 1 + 1 = 2 + 3 * (i + 1) from by omega, ih]
    simp only [show 2 + 3 * i + 1 = 3 + 3 * i from by omega, show 3 + 3 * i + 1 = 4 + 3 * i from by omega]

/-- The ceiling and its source as the clock, LIMITS and SCHEDULE stand. -/
def State.ceilingNow (s : State) : Nat × CeilingSource :=
  if s.time.clockSet then
    match s.present .schedule 0 with
    | none => ((s.present .limits 3).getD 0, .unreadable)
    | some n => ceilingOf s.time.weekday s.time.minute (s.present .schedule 1) ((List.range n).map s.scheduleEntry)
  else
    match s.present .limits 3 with
    | some u => (u, .unset)
    | none => (0, .unreadable)

theorem State.scheduledCeiling_quiet {s : State} (h : s.storage = []) (set : s.time.clockSet = true) :
    s.scheduledCeiling = (s.ceilingNow, s) := by
  simp only [State.scheduledCeiling, State.ceilingNow, State.readEntry_quiet h, set, if_true, State.readUnsetCeiling]
  cases s.present .schedule 0 with
  | none => rfl
  | some n =>
    have list : (List.range (1 + 3 * n)).map (· + 1) = 1 :: List.range' 2 (3 * n) := by
      rw [Nat.add_comm, List.range_succ_eq_map]
      simp [List.range'_eq_map_range, Nat.add_comm, Nat.add_left_comm]
    have entries := scheduleEntries_map (s.present .schedule) n 0
    simp only [State.readEntries_quiet h, list, List.map_cons, List.headD_cons, List.tail_cons]
    rw [entries, List.range_eq_range']
    rfl

theorem State.unsetCeiling_quiet {s : State} (h : s.storage = []) (unset : s.time.clockSet = false) :
    s.unsetCeiling = (s.ceilingNow, s) := by
  cases entry : s.present .limits 3 with
  | none => simp [State.unsetCeiling, State.readUnsetCeiling, State.readEntry_quiet h, State.ceilingNow, unset, entry]
  | some u => simp [State.unsetCeiling, State.readUnsetCeiling, State.readEntry_quiet h, State.ceilingNow, unset, entry]

/-- An evaluation of C while the storage shows no error. -/
theorem State.evaluateCeiling_quiet {s : State} (h : s.storage = []) :
    s.evaluateCeiling = { s with time := { s.time with ceiling := s.ceilingNow.1, source := s.ceilingNow.2 } } := by
  unfold State.evaluateCeiling
  cases set : s.time.clockSet with
  | true => simp only [if_true, State.scheduledCeiling_quiet h set]
  | false => simp only [Bool.false_eq_true, if_false, State.unsetCeiling_quiet h set]

theorem State.scheduleEntry_candidate (s : State) (j : Nat) :
    (s.scheduleEntry j).candidate s.time.weekday s.time.minute = true ↔
      ∃ m, s.present .schedule (2 + 3 * j) = some m ∧ m ≤ s.time.minute ∧
        ∃ d, s.present .schedule (3 + 3 * j) = some d ∧ d.testBit (s.time.weekday - 1) = true := by
  unfold ScheduleEntry.candidate State.scheduleEntry
  cases s.present .schedule (2 + 3 * j) <;> cases s.present .schedule (3 + 3 * j) <;> simp [and_comm]

/-- The ceiling that the candidate or the default gives, before a bad entry makes it the lesser (R93). -/
def State.placedCeiling (s : State) (n least : Nat) : Nat × CeilingSource :=
  match latestCandidate s.time.weekday s.time.minute none 0 ((List.range n).map s.scheduleEntry) with
  | some (j, e) => (e.ceiling.getD least, .entry j)
  | none => ((s.present .schedule 1).getD least, .default)

theorem State.placedCeiling_found {s : State} {n least j m : Nat} (hj : j < n)
    (hm : s.present .schedule (2 + 3 * j) = some m) (hc : (s.scheduleEntry j).candidate s.time.weekday s.time.minute = true)
    (latest : ∀ k m', k < n → (s.scheduleEntry k).candidate s.time.weekday s.time.minute = true →
      s.present .schedule (2 + 3 * k) = some m' → k ≠ j → m' < m) :
    s.placedCeiling n least = ((s.present .schedule (4 + 3 * j)).getD least, .entry j) := by
  have found : latestCandidate s.time.weekday s.time.minute none 0 ((List.range n).map s.scheduleEntry) =
      some (0 + j, s.scheduleEntry j) := by
    refine latestCandidate_found (by simp [hj]) hc (fun k e hk hck hne => ?_) none 0 (by simp)
    rw [List.getElem?_map, Option.map_eq_some_iff] at hk
    obtain ⟨a, ha, rfl⟩ := hk
    obtain ⟨hlt, heq⟩ := List.getElem?_eq_some_iff.1 ha
    obtain rfl : k = a := by simpa using heq
    have hkn : k < n := by simpa using hlt
    obtain ⟨m', hm', -⟩ := (s.scheduleEntry_candidate k).1 hck
    simpa [ScheduleEntry.startOr, State.scheduleEntry, hm, hm'] using latest k m' hkn hck hm' hne
  unfold State.placedCeiling
  rw [found, Nat.zero_add]
  rfl

theorem State.placedCeiling_default {s : State} {n : Nat}
    (h : ∀ j, j < n → (s.scheduleEntry j).candidate s.time.weekday s.time.minute = false) (least : Nat) :
    s.placedCeiling n least = ((s.present .schedule 1).getD least, .default) := by
  unfold State.placedCeiling
  rw [latestCandidate_none]
  simpa using h

theorem State.ceilingNow_scheduled {s : State} (set : s.time.clockSet = true) {n least : Nat}
    (hn : s.present .schedule 0 = some n)
    (hl : substituteCeiling (s.present .schedule 1) ((List.range n).map s.scheduleEntry) = least) :
    s.ceilingNow =
      (if ((List.range n).map s.scheduleEntry).any ScheduleEntry.unplaced then min (s.placedCeiling n least).1 least
        else (s.placedCeiling n least).1,
      (s.placedCeiling n least).2) := by
  simp only [State.ceilingNow, set, if_true, hn, ← hl]
  rfl

/-- The evaluation is that of R93 to R95. -/
theorem State.ceilingNow_evaluated (s : State) : CeilingEvaluated s s.ceilingNow.1 s.ceilingNow.2 := by
  refine ⟨fun unset => ⟨fun u hu => ?_, fun hu => ?_⟩, fun set => ⟨fun h0 => ?_, fun n hn => ?_⟩⟩
  · simp [State.ceilingNow, unset, hu]
  · simp [State.ceilingNow, unset, hu]
  · simp [State.ceilingNow, set, h0]
  · generalize hl : substituteCeiling (s.present .schedule 1) ((List.range n).map s.scheduleEntry) = least
    have now := State.ceilingNow_scheduled set hn hl
    have unplaced : ((List.range n).map s.scheduleEntry).any ScheduleEntry.unplaced = true ↔
        ∃ j, j < n ∧ (s.present .schedule (2 + 3 * j) = none ∨ s.present .schedule (3 + 3 * j) = none) := by
      simp [ScheduleEntry.unplaced, State.scheduleEntry]
    rw [now]
    refine ⟨least, (s.placedCeiling n least).1, ?_, fun j m hc latest => ?_, fun hnone => ?_, fun bad => ?_, fun good => ?_⟩
    · rw [← hl]
      exact (substituteCeiling_spec _ _).congr (by simp [State.scheduleEntry])
    · obtain ⟨hj, hm, hle, day⟩ := hc
      rw [State.placedCeiling_found hj hm ((s.scheduleEntry_candidate j).2 ⟨m, hm, hle, day⟩) fun k m' hk hck hm' hne => ?_]
      · exact ⟨rfl, rfl⟩
      · obtain ⟨m'', hm'', hle', day'⟩ := (s.scheduleEntry_candidate k).1 hck
        obtain rfl : m' = m'' := by simpa [hm'] using hm''
        exact latest k m' ⟨hk, hm', hle', day'⟩ hne
    · rw [State.placedCeiling_default fun j hj => Bool.eq_false_iff.2 fun hc => ?_]
      · exact ⟨rfl, rfl⟩
      · obtain ⟨m, hm, hle, day⟩ := (s.scheduleEntry_candidate j).1 hc
        exact hnone j m ⟨hj, hm, hle, day⟩
    · exact if_pos (unplaced.2 bad)
    · refine if_neg fun h => ?_
      obtain ⟨j, hj, bad⟩ := unplaced.1 h
      exact bad.elim (good j hj).1 (good j hj).2

/-! ## The event (R75, R96) -/

theorem State.lowerLevel_lowered (s : State) (l : Nat) : Lowered s l (s.lowerLevel l) := by
  unfold Lowered State.lowerLevel
  dsimp only
  split
  · rfl
  · simp

/-- A change of C that reaches the controller is that of R75. -/
theorem State.ceilingChange_taken {s : State} (h : s.storage = [])
    (valid : validate .ambient (s.table .ambient).active = none) (c : Nat) : CeilingTaken s c (s.ceilingChange c) := by
  unfold State.ceilingChange State.clampLevel
  refine ⟨fun above => ?_, fun below => ?_⟩
  · rw [if_pos above]
    refine ⟨_, State.lowerLevel_lowered _ c, ?_⟩
    have lowered := State.lowerLevel_lowered { s with dimming := { s.dimming with ceiling := c } } c
    rw [lowered]
    exact State.recompute_recomputed h valid
  · rw [if_neg (Nat.not_lt.2 below)]
    exact State.recompute_recomputed h valid

/-- An evaluation of C as an event is that of R96. -/
theorem State.ceilingEvent_spec {s : State} (h : s.storage = [])
    (valid : validate .ambient (s.table .ambient).active = none) : CeilingEvent s s.ceilingEvent := by
  refine ⟨_, _, s.ceilingNow_evaluated, ?_, ?_⟩
  · intro same
    simp only [State.ceilingEvent, State.evaluateCeiling_quiet h, if_pos same]
  · intro change
    simp only [State.ceilingEvent, State.evaluateCeiling_quiet h, if_neg change]
    exact State.ceilingChange_taken
      (s := { s with time := { s.time with ceiling := s.ceilingNow.1, source := s.ceilingNow.2 } }) h valid _

end Sys2Proof.Machine
end

section
/-! SUPPORT. The state of a module derived anew while the storage shows no error (R138, R139), and what the deriving of one
module leaves of the others. -/

namespace Sys2Proof.Machine

/-! ## The actions of a module's records -/

/-- The action and the derate value of a record's kind as POLICY and its bad marks stand (R127). -/
def State.actionOf (s : State) (r : FaultRecord) : Action :=
  ⟨s.presentOrDefault .policy (27 + r.kind.code), s.presentOrDefault .policy (31 + r.kind.code)⟩

/-- The actions of the records that act on a module. -/
def State.actionsOf (s : State) (m : Nat) : List Action := (s.faults.acting m).map s.actionOf

theorem State.readActions_quiet {s : State} (h : s.storage = []) (l : List FaultRecord) :
    s.readActions l = (l.map s.actionOf, s) := by
  induction l with
  | nil => rfl
  | cons r rs ih =>
    rw [State.readActions, State.readOrDefault_quiet h, State.readOrDefault_quiet h, ih]
    rfl

/-- The Fault Monitor with the state of one module derived from the actions of its records. -/
def Faults.derived (f : Faults) (as : List Action) (m : Nat) : Faults :=
  { f with
    restoreQueue := restoreQueueOf f.restoreQueue m (f.isBlanked m) (blanks as)
    modules := f.modules.set m
      (moduleStatusOf as ((restoreQueueOf f.restoreQueue m (f.isBlanked m) (blanks as)).contains m)) }

theorem State.deriveModule_quiet {s : State} (h : s.storage = []) (m : Nat) :
    s.deriveModule m = { s with faults := s.faults.derived (s.actionsOf m) m } := by
  rw [State.deriveModule, State.readActions_quiet h]
  rfl

theorem RecordState.acts_iff (x : RecordState) : x.acts = true ↔ x ≠ .suspect := by
  cases x <;> simp [RecordState.acts]

theorem Faults.mem_acting {f : Faults} {m : Nat} {r : FaultRecord} : r ∈ f.acting m ↔ r ∈ f.records ∧ ActsOn r m := by
  simp [Faults.acting, ActsOn, RecordState.acts_iff]

theorem State.blanks_actionsOf {s : State} {m : Nat} : blanks (s.actionsOf m) = true ↔
    ∃ r ∈ s.faults.records, ActsOn r m ∧ s.presentOrDefault .policy (27 + r.kind.code) = 2 := by
  simp [blanks, State.actionsOf, State.actionOf, Faults.mem_acting, and_assoc]

theorem State.mem_derates_actionsOf {s : State} {m d : Nat} : d ∈ derates (s.actionsOf m) ↔
    ∃ r ∈ s.faults.records, ActsOn r m ∧ s.presentOrDefault .policy (27 + r.kind.code) = 1 ∧
      s.presentOrDefault .policy (31 + r.kind.code) = d := by
  simp [derates, State.actionsOf, State.actionOf, Faults.mem_acting, and_assoc]

theorem mem_restoreQueueOf {queue : List Nat} {m x : Nat} {was blank : Bool} :
    x ∈ restoreQueueOf queue m was blank ↔
      (x ≠ m ∧ x ∈ queue) ∨ (x = m ∧ blank = false ∧ (m ∈ queue ∨ was = true)) := by
  cases blank with
  | true => simp [restoreQueueOf, and_comm]
  | false =>
    by_cases own : x = m
    · subst own
      by_cases waits : x ∈ queue
      · simp [restoreQueueOf, waits]
      · cases was with
        | true => simp [restoreQueueOf, waits]
        | false => simp [restoreQueueOf, waits]
    · cases was with
      | true => by_cases waits : m ∈ queue <;> simp [restoreQueueOf, own, waits]
      | false => simp [restoreQueueOf, own]

/-- A derived status is the one of R138. -/
theorem State.moduleStatusOf_derived {s : State} {m : Nat} {waiting : Bool}
    (hw : blanks (s.actionsOf m) = false → (waiting = true ↔ m ∈ s.faults.restoreQueue)) :
    ModuleDerived s m (moduleStatusOf (s.actionsOf m) waiting) := by
  refine ⟨fun h2 => ?_, fun h2 hq => ?_, fun h2 hq h1 => ?_, fun h2 hq h1 => ?_⟩
  · simp [moduleStatusOf, s.blanks_actionsOf.2 h2]
  all_goals
    have nb : blanks (s.actionsOf m) = false := Bool.eq_false_iff.2 fun h => h2 (s.blanks_actionsOf.1 h)
  · simp [moduleStatusOf, nb, (hw nb).2 hq]
  · have notWaiting : waiting = false := Bool.eq_false_iff.2 fun h => hq ((hw nb).1 h)
    obtain ⟨r, hr, acts, one⟩ := h1
    have mem : s.presentOrDefault .policy (31 + r.kind.code) ∈ derates (s.actionsOf m) :=
      s.mem_derates_actionsOf.2 ⟨r, hr, acts, one, rfl⟩
    match hd : derates (s.actionsOf m) with
    | [] => simp [hd] at mem
    | d :: ds =>
      have status : moduleStatusOf (s.actionsOf m) waiting = ⟨.derated, ds.foldl min d⟩ := by
        simp [moduleStatusOf, nb, notWaiting, hd]
      obtain ⟨least, le⟩ := foldl_min_spec d ds
      rw [status]
      refine ⟨rfl, ?_, fun q hq acts one => ?_⟩
      · rw [← hd] at least
        obtain ⟨q, hq, acts, one, e⟩ := s.mem_derates_actionsOf.1 least
        exact ⟨q, hq, acts, one, e.symm⟩
      · refine le _ ?_
        rw [← hd]
        exact s.mem_derates_actionsOf.2 ⟨q, hq, acts, one, rfl⟩
  · have notWaiting : waiting = false := Bool.eq_false_iff.2 fun h => hq ((hw nb).1 h)
    have none : derates (s.actionsOf m) = [] := by
      refine List.eq_nil_iff_forall_not_mem.2 fun d hd => h1 ?_
      obtain ⟨r, hr, acts, one, -⟩ := s.mem_derates_actionsOf.1 hd
      exact ⟨r, hr, acts, one⟩
    simp [moduleStatusOf, nb, notWaiting, none, ModuleStatus.lit]

/-- The state of a module depends on POLICY, the records that act on it, and its waiting in the restore queue. -/
theorem ModuleDerived.congr {s t : State} {m : Nat} {x : ModuleStatus} (h : ModuleDerived s m x)
    (policy : ∀ i, t.presentOrDefault .policy i = s.presentOrDefault .policy i)
    (acting : ∀ r, r ∈ t.faults.records ∧ ActsOn r m ↔ r ∈ s.faults.records ∧ ActsOn r m)
    (queue : m ∈ t.faults.restoreQueue ↔ m ∈ s.faults.restoreQueue) : ModuleDerived t m x := by
  have acts : ∀ p : FaultRecord → Prop, (∃ r ∈ t.faults.records, ActsOn r m ∧ p r) ↔
      ∃ r ∈ s.faults.records, ActsOn r m ∧ p r := by
    intro p
    simp only [← and_assoc, acting]
  have all : ∀ p : FaultRecord → Prop, (∀ r ∈ t.faults.records, ActsOn r m → p r) ↔
      ∀ r ∈ s.faults.records, ActsOn r m → p r := by
    intro p
    simp only [← and_imp, acting]
  unfold ModuleDerived at h ⊢
  simp only [policy, acts, all, queue]
  exact h

/-! ## Deriving one module -/

/-- Every module that exists has the state that R138 gives it. -/
def AllDerived (s : State) : Prop := ∀ m x, s.faults.modules[m]? = some x → ModuleDerived s m x

theorem State.deriveModule_self {s : State} (h : s.storage = []) {m : Nat} {x : ModuleStatus}
    (hx : (s.deriveModule m).faults.modules[m]? = some x) : ModuleDerived (s.deriveModule m) m x := by
  rw [State.deriveModule_quiet h] at hx ⊢
  obtain ⟨_, rfl⟩ : m < s.faults.modules.length ∧ _ = x := by
    simpa [Faults.derived, List.getElem?_set, Option.ite_none_right_eq_some] using hx
  refine State.moduleStatusOf_derived (s := { s with faults := s.faults.derived (s.actionsOf m) m }) fun _ => ?_
  simp [Faults.derived]

theorem State.deriveModule_other {s : State} (h : s.storage = []) {m k : Nat} (ne : k ≠ m) :
    (s.deriveModule m).faults.modules[k]? = s.faults.modules[k]? ∧
      (k ∈ (s.deriveModule m).faults.restoreQueue ↔ k ∈ s.faults.restoreQueue) := by
  rw [State.deriveModule_quiet h]
  constructor
  · exact List.getElem?_set_ne (Ne.symm ne)
  · simp [Faults.derived, mem_restoreQueueOf, ne]

theorem State.deriveModule_records {s : State} (h : s.storage = []) (m : Nat) :
    (s.deriveModule m).faults.records = s.faults.records := by
  rw [State.deriveModule_quiet h]
  rfl

/-- Deriving a module leaves the Fault Monitor's other fields. -/
theorem State.deriveModule_fields {s : State} (h : s.storage = []) (m : Nat) :
    (s.deriveModule m).faults.flags = s.faults.flags ∧ (s.deriveModule m).faults.flaps = s.faults.flaps ∧
    (s.deriveModule m).faults.affected = s.faults.affected ∧
    (s.deriveModule m).faults.modules.length = s.faults.modules.length ∧
    (s.deriveModule m).faults.history = s.faults.history ∧
    (s.deriveModule m).faults.lostDetections = s.faults.lostDetections := by
  simp [State.deriveModule_quiet h, Faults.derived]

theorem State.deriveModule_only {s : State} (h : s.storage = []) (m : Nat) :
    s.deriveModule m = { s with faults := (s.deriveModule m).faults } := by
  rw [State.deriveModule_quiet h]

theorem State.deriveModule_kept_derived {s : State} (h : s.storage = []) {m k : Nat} (ne : k ≠ m) {x : ModuleStatus}
    (hk : ModuleDerived s k x) : ModuleDerived (s.deriveModule m) k x := by
  refine hk.congr (fun i => ?_) (fun r => ?_) (State.deriveModule_other h ne).2
  · rw [State.deriveModule_quiet h]
    rfl
  · rw [State.deriveModule_records h]

/-- Deriving a module gives it its state, and the modules that had theirs keep it. -/
theorem State.deriveModule_derived {s : State} (h : s.storage = []) {m : Nat}
    (rest : ∀ k x, k ≠ m → s.faults.modules[k]? = some x → ModuleDerived s k x) : AllDerived (s.deriveModule m) := by
  intro k x hx
  by_cases e : k = m
  · subst e
    exact State.deriveModule_self h hx
  · rw [(State.deriveModule_other h e).1] at hx
    exact State.deriveModule_kept_derived h e (rest k x e hx)

theorem State.deriveModules_records (l : List Nat) : ∀ {s : State}, s.storage = [] →
    (s.deriveModules l).faults.records = s.faults.records ∧
    (s.deriveModules l).faults.lostDetections = s.faults.lostDetections ∧
    (s.deriveModules l).faults.history = s.faults.history := by
  induction l with
  | nil => exact fun _ => ⟨rfl, rfl, rfl⟩
  | cons m ms ih =>
    intro s h
    have quiet : (s.deriveModule m).storage = [] := by rw [State.deriveModule_quiet h]; exact h
    obtain ⟨records, lost, history⟩ := ih quiet
    exact ⟨records.trans (State.deriveModule_records h m), lost.trans (State.deriveModule_fields h m).2.2.2.2.2,
      history.trans (State.deriveModule_fields h m).2.2.2.2.1⟩

/-- Deriving every module that has not its state gives all of them theirs. -/
theorem State.deriveModules_derived (l : List Nat) : ∀ {s : State}, s.storage = [] →
    (∀ k x, k ∉ l → s.faults.modules[k]? = some x → ModuleDerived s k x) → AllDerived (s.deriveModules l) := by
  induction l with
  | nil => exact fun _ rest k x hx => rest k x (by simp) hx
  | cons m ms ih =>
    intro s h rest
    have quiet : (s.deriveModule m).storage = [] := by rw [State.deriveModule_quiet h]; exact h
    refine ih quiet fun k x hk hx => ?_
    by_cases e : k = m
    · subst e
      exact State.deriveModule_self h hx
    · rw [(State.deriveModule_other h e).1] at hx
      exact State.deriveModule_kept_derived h e (rest k x (by simp [e, hk]) hx)

end Sys2Proof.Machine
end

section
/-! SUPPORT. What the evaluations of CABINET_DARK, the admissions and the recordings of an event of the Fault Monitor do
while the storage shows no error, whatever the fault table holds: one relation, reflexive and transitive, that each of their
operations keeps. -/

namespace Sys2Proof.Machine

/-! ## Slots -/

/-- The records have slots of their own, 0 to 63 (R129). -/
def Faults.SlotsFit (f : Faults) : Prop := f.records.Pairwise (fun a b => a.slot ≠ b.slot) ∧ ∀ r ∈ f.records, r.slot < 64

theorem Faults.SlotsFit.of_tableWf {f : Faults} (h : f.tableWf) : f.SlotsFit := ⟨h.1.imp And.left, h.2⟩

theorem Faults.SlotsFit.eq_of_slot {f : Faults} (h : f.SlotsFit) {q r : FaultRecord} (hq : q ∈ f.records)
    (hr : r ∈ f.records) (e : q.slot = r.slot) : q = r :=
  List.inj_on_of_nodup_map (f := FaultRecord.slot) (List.pairwise_map.2 h.1) hq hr e

/-- With slots of their own, the removal of a record removes it and no other. -/
theorem Faults.SlotsFit.mem_remove {f : Faults} (h : f.SlotsFit) {q r : FaultRecord} (hr : r ∈ f.records) :
    q ∈ (f.remove r.slot).records ↔ q ∈ f.records ∧ q ≠ r := by
  simp only [Faults.remove, List.mem_filter, bne_iff_ne, ne_eq]
  exact ⟨fun ⟨hq, ne⟩ => ⟨hq, fun e => ne (e ▸ rfl)⟩, fun ⟨hq, ne⟩ => ⟨hq, fun e => ne (h.eq_of_slot hq hr e)⟩⟩

theorem Faults.SlotsFit.remove {f : Faults} (h : f.SlotsFit) (n : Nat) : (f.remove n).SlotsFit :=
  ⟨h.1.filter _, fun r hr => h.2 r (List.mem_filter.1 hr).1⟩

theorem Faults.freeSlot_some {f : Faults} {n : Nat} (h : f.freeSlot = some n) : LowestFree f n := by
  obtain ⟨free, i, hi, rfl, below⟩ := List.find?_eq_some_iff_getElem.1 h
  simp only [tableSlots, List.length_range] at hi
  simp only [List.getElem_range, Bool.not_eq_true', List.any_eq_false, beq_iff_eq] at free below ⊢
  refine ⟨hi, free, fun k hk => ?_⟩
  simpa using below k hk

theorem Faults.freeSlot_none {f : Faults} (h : f.freeSlot = none) : f.full := by
  intro n hn
  simpa using List.find?_eq_none.1 h n (List.mem_range.2 hn)

theorem LowestFree.not_full {f : Faults} {n : Nat} (h : LowestFree f n) : ¬ f.full := fun full => by
  obtain ⟨r, hr, e⟩ := full n h.1
  exact h.2.1 r hr e

theorem Faults.SlotsFit.place {f : Faults} (h : f.SlotsFit) {n : Nat} (free : LowestFree f n) (r : FaultRecord) :
    ({ f with records := f.records ++ [{ r with slot := n }] } : Faults).SlotsFit := by
  refine ⟨List.pairwise_append.2 ⟨h.1, List.pairwise_singleton .., ?_⟩, ?_⟩
  · simpa using free.2.1
  · intro q hq
    rcases List.mem_append.1 hq with hq | hq
    · exact h.2 q hq
    · obtain rfl := List.mem_singleton.1 hq
      exact free.1

/-! ## The relation -/

/-- The target, the mode and the source are those of a recomputation of T made now. -/
def State.Aimed (s : State) : Prop := (s.dimming.target, s.dimming.mode, s.dimming.source) = s.aim

/-- What the operations of an event after its transitions leave of a work under way. -/
structure Work.Moves (w w' : Work) : Prop where
  only : OnlyFaults w.st w'.st
  reports : w.reports <+: w'.reports
  handed : ∃ n, w'.st.handed = w.st.handed ++ List.replicate n .lZeroNotice ∧
    (w'.st.dimming.level = w.st.dimming.level ∨ (w'.st.dimming.level = 0 ∧ (w.st.dimming.level ≠ 0 → 0 < n)))
  dimming : w'.st.dimming = { w.st.dimming with
    level := w'.st.dimming.level, target := w'.st.dimming.target
    mode := w'.st.dimming.mode, source := w'.st.dimming.source }
  started : w.st.faults.flags.cabinetDark = false → w'.st.faults.flags.cabinetDark = true → w'.st.dimming.level = 0
  told : (w'.st.dimming = w.st.dimming ∧ w'.st.faults.flags.cabinetDark = w.st.faults.flags.cabinetDark) ∨ w'.st.Aimed
  flags : w'.st.faults.flags = { w.st.faults.flags with cabinetDark := w'.st.faults.flags.cabinetDark }
  flaps : w'.st.faults.flaps = w.st.faults.flaps
  affected : w'.st.faults.affected = w.st.faults.affected
  modules : w'.st.faults.modules.length = w.st.faults.modules.length
  history : w.st.faults.history <+: w'.st.faults.history
  fit : w.st.faults.SlotsFit → w'.st.faults.SlotsFit ∧
    (∀ r ∈ w.st.faults.records, r.kind ≠ .cabinetDark → r.state = .active ∨ r.state = .latched →
      r ∈ w'.st.faults.records) ∧
    (∀ r ∈ w'.st.faults.records, r ∈ w.st.faults.records ∨ (r.scope = none ∧ r.kind.debounced = false))
  derived : w.st.faults.SlotsFit → AllDerived w.st → AllDerived w'.st

theorem OnlyFaults.trans {s t u : State} (h : OnlyFaults s t) (k : OnlyFaults t u) : OnlyFaults s u := by
  unfold OnlyFaults at *
  rw [k, h]

theorem OnlyFaults.tables {s t : State} (h : OnlyFaults s t) : t.tables = s.tables := by rw [h]

theorem OnlyFaults.stream {s t : State} (h : OnlyFaults s t) : t.stream = s.stream := by rw [h]

theorem OnlyFaults.storage {s t : State} (h : OnlyFaults s t) : t.storage = s.storage := by rw [h]

/-- What a recomputation sets stays through changes of the Fault Monitor that leave CABINET_DARK and the controller. -/
theorem State.Aimed.of_same {s t : State} (h : s.Aimed) (only : OnlyFaults s t) (dimming : t.dimming = s.dimming)
    (dark : t.faults.flags.cabinetDark = s.faults.flags.cabinetDark) : t.Aimed := by
  unfold State.Aimed at *
  rw [dimming, h]
  exact (State.aim_congr only.tables only.stream dark (by rw [dimming]) (by rw [dimming]) (by rw [dimming])
    (by rw [dimming])).symm

theorem Work.Moves.refl (w : Work) : w.Moves w where
  only := rfl
  reports := List.prefix_refl _
  handed := ⟨0, by simp⟩
  dimming := rfl
  started h k := by rw [h] at k; cases k
  told := .inl ⟨rfl, rfl⟩
  flags := rfl
  flaps := rfl
  affected := rfl
  modules := rfl
  history := List.prefix_refl _
  fit h := ⟨h, fun _ hr _ _ => hr, fun _ => .inl⟩
  derived _ h := h

theorem Work.Moves.trans {u v w : Work} (h : u.Moves v) (k : v.Moves w) : u.Moves w where
  only := h.only.trans k.only
  reports := h.reports.trans k.reports
  handed := by
    obtain ⟨n, hn, hl⟩ := h.handed
    obtain ⟨m, hm, kl⟩ := k.handed
    refine ⟨n + m, by rw [hm, hn, List.append_assoc, List.replicate_append_replicate], ?_⟩
    omega
  dimming := by rw [k.dimming, h.dimming]
  started off on := by
    cases hv : v.st.faults.flags.cabinetDark with
    | false => exact k.started hv on
    | true =>
      have zero := h.started off hv
      obtain ⟨_, -, level⟩ := k.handed
      omega
  told := by
    rcases k.told with ⟨dimming, dark⟩ | aimed
    · rcases h.told with ⟨dimming', dark'⟩ | aimed
      · exact .inl ⟨dimming.trans dimming', dark.trans dark'⟩
      · exact .inr (aimed.of_same k.only dimming dark)
    · exact .inr aimed
  flags := by rw [k.flags, h.flags]
  flaps := k.flaps.trans h.flaps
  affected := k.affected.trans h.affected
  modules := k.modules.trans h.modules
  history := h.history.trans k.history
  fit fit := by
    obtain ⟨fit, keep, fresh⟩ := h.fit fit
    obtain ⟨fit', keep', fresh'⟩ := k.fit fit
    refine ⟨fit', fun r hr hk hs => keep' r (keep r hr hk hs) hk hs, fun r hr => ?_⟩
    rcases fresh' r hr with hr | new
    · exact fresh r hr
    · exact .inr new
  derived fit all := k.derived (h.fit fit).1 (h.derived fit all)

/-- What an operation that changes the Fault Monitor alone, and none of its condition flags, leaves of a work under way. -/
structure Work.Steps (w w' : Work) : Prop where
  st : w'.st = { w.st with faults := w'.st.faults }
  reports : w.reports <+: w'.reports
  flags : w'.st.faults.flags = w.st.faults.flags
  flaps : w'.st.faults.flaps = w.st.faults.flaps
  affected : w'.st.faults.affected = w.st.faults.affected
  modules : w'.st.faults.modules.length = w.st.faults.modules.length
  history : w.st.faults.history <+: w'.st.faults.history
  fit : w.st.faults.SlotsFit → w'.st.faults.SlotsFit ∧
    (∀ r ∈ w.st.faults.records, r.kind ≠ .cabinetDark → r.state = .active ∨ r.state = .latched →
      r ∈ w'.st.faults.records) ∧
    (∀ r ∈ w'.st.faults.records, r ∈ w.st.faults.records ∨ (r.scope = none ∧ r.kind.debounced = false))
  derived : w.st.faults.SlotsFit → AllDerived w.st → AllDerived w'.st

theorem Work.Steps.refl (w : Work) : w.Steps w :=
  ⟨rfl, List.prefix_refl _, rfl, rfl, rfl, rfl, List.prefix_refl _, fun fit => ⟨fit, fun _ hr _ _ => hr, fun _ => .inl⟩,
    fun _ all => all⟩

theorem Work.Steps.dimming {w w' : Work} (h : w.Steps w') : w'.st.dimming = w.st.dimming := by rw [h.st]

theorem Work.Steps.handed {w w' : Work} (h : w.Steps w') : w'.st.handed = w.st.handed := by rw [h.st]

theorem Work.Steps.storage {w w' : Work} (h : w.Steps w') : w'.st.storage = w.st.storage := by rw [h.st]

theorem Work.Steps.trans {u v w : Work} (h : u.Steps v) (k : v.Steps w) : u.Steps w where
  st := by rw [k.st, h.st]
  reports := h.reports.trans k.reports
  flags := k.flags.trans h.flags
  flaps := k.flaps.trans h.flaps
  affected := k.affected.trans h.affected
  modules := k.modules.trans h.modules
  history := h.history.trans k.history
  fit fit := by
    obtain ⟨fit, keep, fresh⟩ := h.fit fit
    obtain ⟨fit', keep', fresh'⟩ := k.fit fit
    refine ⟨fit', fun r hr hk hs => keep' r (keep r hr hk hs) hk hs, fun r hr => ?_⟩
    rcases fresh' r hr with hr | new
    · exact fresh r hr
    · exact .inr new
  derived fit all := k.derived (h.fit fit).1 (h.derived fit all)

theorem Work.Steps.moves {w w' : Work} (h : w.Steps w') : w.Moves w' where
  only := by unfold OnlyFaults; rw [h.dimming, h.handed]; exact h.st
  reports := h.reports
  handed := ⟨0, by simp [h.dimming, h.handed]⟩
  dimming := by rw [h.dimming]
  started off on := by rw [h.flags, off] at on; cases on
  told := .inl ⟨h.dimming, by rw [h.flags]⟩
  flags := by rw [h.flags]
  flaps := h.flaps
  affected := h.affected
  modules := h.modules
  history := h.history
  fit := h.fit
  derived := h.derived

/-- A step that changes no state. -/
theorem Work.Steps.of_st {w w' : Work} (st : w'.st = w.st) (reports : w.reports <+: w'.reports) : w.Steps w' where
  st := by rw [st]
  reports := reports
  flags := by rw [st]
  flaps := by rw [st]
  affected := by rw [st]
  modules := by rw [st]
  history := by rw [st]
  fit fit := by rw [st]; exact ⟨fit, fun _ hr _ _ => hr, fun _ => .inl⟩
  derived _ all := by rw [st]; exact all

/-! ## The operations -/

section

variable {w : Work}

theorem Work.say_steps (r : Report) : w.Steps (w.say r) := .of_st rfl (List.prefix_append ..)

theorem Work.sayRecord_steps (k : ReportKind) (r : FaultRecord) : w.Steps (w.sayRecord k r) := w.say_steps _

/-- The modules keep their states where the records that act on modules, the queue and the modules stay. -/
theorem AllDerived.of_same {s t : State} (h : AllDerived s) (policy : t.table .policy = s.table .policy)
    (acting : ∀ r m, r ∈ t.faults.records ∧ ActsOn r m ↔ r ∈ s.faults.records ∧ ActsOn r m)
    (queue : t.faults.restoreQueue = s.faults.restoreQueue) (modules : t.faults.modules = s.faults.modules) :
    AllDerived t := by
  intro m x hx
  rw [modules] at hx
  refine (h m x hx).congr (fun i => ?_) (fun r => acting r m) (by rw [queue])
  unfold State.presentOrDefault State.present
  rw [policy]

theorem Work.deriveModule_steps (quiet : w.st.storage = []) (m : Nat) : w.Steps { w with st := w.st.deriveModule m } := by
  have records := State.deriveModule_records quiet m
  obtain ⟨flags, flaps, affected, modules, history, -⟩ := State.deriveModule_fields quiet m
  refine .mk (State.deriveModule_only quiet m) (List.prefix_refl _)
    flags flaps affected modules (history ▸ List.prefix_refl _) (fun fit => ?_) (fun _ all => ?_)
  · refine ⟨?_, ?_, ?_⟩ <;> simp only [Faults.SlotsFit, records]
    · exact fit
    · exact fun _ hr _ _ => hr
    · exact fun _ => .inl
  · exact State.deriveModule_derived quiet fun k x _ hx => all k x hx

theorem Work.deriveModules_steps (l : List Nat) : ∀ {w : Work}, w.st.storage = [] →
    w.Steps { w with st := w.st.deriveModules l } := by
  induction l with
  | nil => exact fun _ => .refl _
  | cons m ms ih =>
    intro w quiet
    have first := Work.deriveModule_steps quiet m
    exact first.trans (ih (w := { w with st := w.st.deriveModule m }) (first.storage.trans quiet))

/-- A record leaves the table, its module's state not yet derived. -/
def Work.drop (w : Work) (r : FaultRecord) : Work := { w.setFaults (w.faults.remove r.slot) with freed := true }

theorem Work.drop_faults (w : Work) (r : FaultRecord) : (w.drop r).st.faults = w.st.faults.remove r.slot := rfl

theorem Work.sayRecord_st (w : Work) (k : ReportKind) (r : FaultRecord) : (w.sayRecord k r).st = w.st := rfl

theorem Work.free_acting {r : FaultRecord} (h : r.state.acts = true) : w.free r = (w.drop r).deriveScope r.scope := by
  rw [Work.free, if_pos h]
  rfl

theorem Work.free_suspect {r : FaultRecord} (h : r.state.acts = false) : w.free r = w.drop r := by
  rw [Work.free, h]
  rfl

theorem Faults.SlotsFit.mem_drop (fit : w.st.faults.SlotsFit) {q r : FaultRecord} (hr : r ∈ w.st.faults.records) :
    q ∈ (w.drop r).st.faults.records ↔ q ∈ w.st.faults.records ∧ q ≠ r := fit.mem_remove hr

/-- The records left after one that can be evicted, or CABINET_DARK's, is gone. -/
theorem Faults.SlotsFit.drop {r : FaultRecord} (hr : r ∈ w.st.faults.records)
    (goes : r.kind = .cabinetDark ∨ r.state = .clearing ∨ r.state = .suspect) {f : Faults}
    (records : f.records = (w.drop r).st.faults.records) (fit : w.st.faults.SlotsFit) : f.SlotsFit ∧
      (∀ q ∈ w.st.faults.records, q.kind ≠ .cabinetDark → q.state = .active ∨ q.state = .latched → q ∈ f.records) ∧
      (∀ q ∈ f.records, q ∈ w.st.faults.records ∨ (q.scope = none ∧ q.kind.debounced = false)) := by
  have left : f.SlotsFit := by
    unfold Faults.SlotsFit
    rw [records]
    exact Faults.SlotsFit.remove fit _
  refine ⟨left, fun q hq hk hs => ?_, fun q hq => ?_⟩
  · rw [records, fit.mem_drop hr]
    refine ⟨hq, ?_⟩
    rintro rfl
    rcases goes with h | h | h
    · exact hk h
    · simp [h] at hs
    · simp [h] at hs
  · rw [records, fit.mem_drop hr] at hq
    exact .inl hq.1

/-- The records that act on a module stay where one goes that does not act on it. -/
theorem Faults.SlotsFit.drop_acting (fit : w.st.faults.SlotsFit) {r : FaultRecord} (hr : r ∈ w.st.faults.records) {k : Nat}
    (no : ¬ ActsOn r k) (q : FaultRecord) :
    q ∈ (w.drop r).st.faults.records ∧ ActsOn q k ↔ q ∈ w.st.faults.records ∧ ActsOn q k := by
  rw [fit.mem_drop hr]
  exact ⟨fun h => ⟨h.1.1, h.2⟩, fun h => ⟨⟨h.1, fun e => no (e ▸ h.2)⟩, h.2⟩⟩

/-- The work after a record is freed: its module, if it acted on one, is derived anew. -/
theorem Work.free_cases (w : Work) (r : FaultRecord) :
    ((∀ k, ¬ ActsOn r k) ∧ w.free r = w.drop r) ∨
      ∃ m, r.scope = some m ∧ w.free r = { w.drop r with st := (w.drop r).st.deriveModule m } := by
  cases acts : r.state.acts with
  | false =>
    refine .inl ⟨fun k h => ?_, Work.free_suspect acts⟩
    exact Bool.false_ne_true (acts.symm.trans ((RecordState.acts_iff _).2 h.2))
  | true =>
    cases scope : r.scope with
    | none => exact .inl ⟨fun k h => by simp [ActsOn, scope] at h, by rw [Work.free_acting acts, scope]; rfl⟩
    | some m => exact .inr ⟨m, rfl, by rw [Work.free_acting acts, scope]; rfl⟩

/-- A record whose state can be evicted, or CABINET_DARK's, is freed. -/
theorem Work.free_steps (quiet : w.st.storage = []) {r : FaultRecord} (hr : r ∈ w.st.faults.records)
    (goes : r.kind = .cabinetDark ∨ r.state = .clearing ∨ r.state = .suspect) : w.Steps (w.free r) := by
  rcases w.free_cases r with ⟨no, free⟩ | ⟨m, scope, free⟩
  · rw [free]
    exact .mk rfl (List.prefix_refl _) rfl rfl rfl rfl (List.prefix_refl _) (Faults.SlotsFit.drop hr goes rfl)
      fun fit all => all.of_same rfl (fun q k => fit.drop_acting hr (no k) q) rfl rfl
  · rw [free]
    have quiet' : (w.drop r).st.storage = [] := quiet
    obtain ⟨flags, flaps, affected, modules, history, -⟩ := State.deriveModule_fields quiet' m
    refine .mk (State.deriveModule_only quiet' m) (List.prefix_refl _)
      flags flaps affected modules (history ▸ List.prefix_refl _)
      (Faults.SlotsFit.drop hr goes (State.deriveModule_records quiet' m)) (fun fit all => ?_)
    refine State.deriveModule_derived quiet' fun k x ne hx => (all k x hx).congr (fun _ => rfl) (fun q => ?_) Iff.rfl
    exact fit.drop_acting hr (fun h => ne (by simpa [scope] using h.1.symm)) q

theorem Work.place_steps {r : FaultRecord} (scope : r.scope = none) (kind : r.kind.debounced = false) :
    w.Steps (w.place r).2 := by
  unfold Work.place
  split
  · next n hn =>
    have free := Faults.freeSlot_some hn
    refine .mk rfl (List.prefix_refl _) rfl rfl rfl rfl (List.prefix_refl _) (fun fit => ⟨fit.place free r, ?_, ?_⟩)
      fun _ all => all.of_same rfl (fun q k => ?_) rfl rfl
    · exact fun q hq _ _ => List.mem_append_left _ hq
    · intro q hq
      rcases List.mem_append.1 hq with hq | hq
      · exact .inl hq
      · obtain rfl := List.mem_singleton.1 hq
        exact .inr ⟨scope, kind⟩
    · simp only [Work.setFaults, List.mem_append, List.mem_singleton, or_and_right]
      refine or_iff_left ?_
      rintro ⟨rfl, h⟩
      simp [ActsOn, scope] at h
  · exact .refl w

theorem Work.makeRoom_steps (quiet : w.st.storage = []) : w.Steps w.makeRoom := by
  unfold Work.makeRoom
  split
  · exact .refl w
  · split
    · next r hr =>
      have clearing : r.state = .clearing := by simpa using List.find?_some hr
      exact (w.sayRecord_steps .cleared r).trans
        (Work.free_steps (w := w.sayRecord .cleared r) quiet (List.mem_of_find?_eq_some hr) (.inr (.inl clearing)))
    · split
      · next r hr =>
        have suspect : r.state = .suspect := by simpa using List.find?_some hr
        exact Work.free_steps quiet (List.mem_of_find?_eq_some hr) (.inr (.inr suspect))
      · exact .mk rfl (List.prefix_refl _) rfl rfl rfl rfl (List.prefix_refl _)
          (fun fit => ⟨fit, fun _ hr _ _ => hr, fun _ => .inl⟩) fun _ all => all.of_same rfl (fun _ _ => Iff.rfl) rfl rfl

theorem Work.create_steps (quiet : w.st.storage = []) {r : FaultRecord} (scope : r.scope = none)
    (kind : r.kind.debounced = false) : w.Steps (w.create r).2 :=
  (Work.makeRoom_steps quiet).trans (Work.place_steps scope kind)

theorem Work.raise_steps (quiet : w.st.storage = []) {k : FaultKind} (kind : k.debounced = false) (d : Detail) :
    w.Steps (w.raise k d) := by
  have created : w.Steps (w.create (Sys2Proof.Machine.conditionRecord k d w.st.stamp)).2 :=
    Work.create_steps quiet rfl kind
  unfold Work.raise
  dsimp only
  split
  · exact created.trans (Work.sayRecord_steps _ _)
  · exact created

theorem Faults.recordOf_some {f : Faults} {scope : Option Nat} {k : FaultKind} {r : FaultRecord}
    (h : f.recordOf scope k = some r) : Holds f scope k r := by
  have pair : r.scope = scope ∧ r.kind = k := by simpa using List.find?_some h
  exact ⟨List.mem_of_find?_eq_some h, pair.1, pair.2⟩

theorem Faults.recordOf_none {f : Faults} {scope : Option Nat} {k : FaultKind} (h : f.recordOf scope k = none) :
    HoldsNone f scope k := by
  intro r hr
  simpa using List.find?_eq_none.1 h r hr

/-- CABINET_DARK's record, if there is one, is freed with its CLEARED report. -/
theorem Work.clearDark_steps (quiet : w.st.storage = []) : w.Steps (w.clear .cabinetDark) := by
  unfold Work.clear
  split
  · next r hr =>
    obtain ⟨mem, -, kind⟩ := Faults.recordOf_some hr
    exact (w.sayRecord_steps .cleared r).trans (Work.free_steps (w := w.sayRecord .cleared r) quiet mem (.inl kind))
  · exact .refl w

/-- The condition CABINET_DARK starts or ends, its record left as it is. -/
def Work.turnDark (w : Work) (b : Bool) : Work := (w.setFlag .cabinetDark b).tellDimming .cabinetDark b

theorem State.darkAtOnce_eq (s : State) : s.darkAtOnce = { s with
    dimming := { s.dimming with level := 0, target := 0, mode := .forcedDark, source := s.selectSource }
    handed := s.handed ++ List.replicate (if s.dimming.level = 0 then 0 else 1) .lZeroNotice } := by
  unfold State.darkAtOnce State.lowerLevel
  by_cases h : s.dimming.level = 0
  · simp [h, State.darkTarget, State.selectSource, State.table]
  · simp [h, State.darkTarget, State.selectSource, State.hand, State.table]

theorem Work.turnDark_on : (w.turnDark true).st = State.darkAtOnce { w.st with
    faults := { w.st.faults with flags := { w.st.faults.flags with cabinetDark := true } } } := rfl

theorem Work.turnDark_off (quiet : w.st.storage = []) : (w.turnDark false).st =
    let s := { w.st with faults := { w.st.faults with flags := { w.st.faults.flags with cabinetDark := false } } }
    s.setAim s.aim :=
  State.recompute_quiet (s := { w.st with
    faults := { w.st.faults with flags := { w.st.faults.flags with cabinetDark := false } } }) quiet

theorem Work.turnDark_reports (b : Bool) : (w.turnDark b).reports = w.reports := rfl

theorem Work.turnDark_faults (quiet : w.st.storage = []) (b : Bool) : (w.turnDark b).st.faults =
    { w.st.faults with flags := { w.st.faults.flags with cabinetDark := b } } := by
  cases b with
  | true => rw [Work.turnDark_on, State.darkAtOnce_eq]
  | false => rw [Work.turnDark_off quiet]; rfl

theorem Work.turnDark_only (quiet : w.st.storage = []) (b : Bool) : OnlyFaults w.st (w.turnDark b).st := by
  cases b with
  | true => rw [Work.turnDark_on, State.darkAtOnce_eq]; rfl
  | false => rw [Work.turnDark_off quiet]; rfl

/-- The change of CABINET_DARK sets what a recomputation would: 0 where it starts. -/
theorem Work.turnDark_aimed (quiet : w.st.storage = []) (b : Bool) : (w.turnDark b).st.Aimed := by
  cases b with
  | true =>
    rw [Work.turnDark_on, State.darkAtOnce_eq]
    simp [State.Aimed, State.aim, State.forcedDark, State.selectSource, State.table]
  | false =>
    rw [Work.turnDark_off quiet]
    exact State.aim_congr rfl rfl rfl rfl rfl rfl rfl

theorem Work.turnDark_moves (quiet : w.st.storage = []) (b : Bool) : w.Moves (w.turnDark b) := by
  have only := Work.turnDark_only quiet b
  have faults := Work.turnDark_faults quiet b
  have tables := only.tables
  exact {
    only
    reports := by rw [Work.turnDark_reports]
    handed := by
      cases b with
      | true =>
        rw [Work.turnDark_on, State.darkAtOnce_eq]
        exact ⟨_, rfl, .inr ⟨rfl, fun h => by simp [h]⟩⟩
      | false =>
        rw [Work.turnDark_off quiet]
        exact ⟨0, (List.append_nil _).symm, .inl rfl⟩
    dimming := by
      cases b with
      | true => rw [Work.turnDark_on, State.darkAtOnce_eq]
      | false => rw [Work.turnDark_off quiet]; rfl
    started := fun _ on => by
      rw [faults] at on
      subst on
      rw [Work.turnDark_on, State.darkAtOnce_eq]
    told := .inr (Work.turnDark_aimed quiet b)
    flags := by rw [faults]
    flaps := by rw [faults]
    affected := by rw [faults]
    modules := by rw [faults]
    history := by rw [faults]
    fit := fun fit => by
      rw [faults]
      exact ⟨fit, fun _ hr _ _ => hr, fun _ => .inl⟩
    derived := fun _ all => all.of_same (by rw [State.table, tables]; rfl) (fun r m => by rw [faults])
      (by rw [faults]) (by rw [faults]) }

/-- An evaluation of CABINET_DARK while the storage shows no error (R142). -/
theorem Work.evaluateDark_cases (quiet : w.st.storage = []) :
    (w.evaluateDark = w ∧ w.st.faults.flags.cabinetDark = decide (w.st.darkAt ≤ w.st.faults.blankedCount)) ∨
    (w.st.faults.flags.cabinetDark = false ∧ w.st.darkAt ≤ w.st.faults.blankedCount ∧
      w.evaluateDark = (w.turnDark true).raise .cabinetDark .absent) ∨
    (w.st.faults.flags.cabinetDark = true ∧ w.st.faults.blankedCount < w.st.darkAt ∧
      w.evaluateDark = (w.turnDark false).clear .cabinetDark) := by
  have evaluated : w.evaluateDark = if w.st.darkAt ≤ w.st.faults.blankedCount then
      if w.st.faults.flags.cabinetDark then w else w.condition .cabinetDark true
      else w.condition .cabinetDark false := by
    unfold Work.evaluateDark
    rw [State.readOrDefault_quiet quiet]
    rfl
  rw [evaluated]
  have flag : w.faults.flags.get .cabinetDark = w.st.faults.flags.cabinetDark := rfl
  by_cases reached : w.st.darkAt ≤ w.st.faults.blankedCount
  · cases dark : w.st.faults.flags.cabinetDark with
    | true => simp [reached]
    | false =>
      have start : w.condition .cabinetDark true = (w.turnDark true).raise .cabinetDark .absent := by
        unfold Work.condition
        rw [flag, dark]
        rfl
      simp [reached, start]
  · have below : w.st.faults.blankedCount < w.st.darkAt := Nat.lt_of_not_le reached
    cases dark : w.st.faults.flags.cabinetDark with
    | true =>
      have stop : w.condition .cabinetDark false = (w.turnDark false).clear .cabinetDark := by
        unfold Work.condition
        rw [flag, dark]
        rfl
      simp [reached, below, stop]
    | false =>
      have same : w.condition .cabinetDark false = w := by
        unfold Work.condition
        rw [flag, dark]
      simp [reached, same]

theorem Work.evaluateDark_moves (quiet : w.st.storage = []) : w.Moves w.evaluateDark := by
  rcases Work.evaluateDark_cases quiet with ⟨same, -⟩ | ⟨-, -, start⟩ | ⟨-, -, stop⟩
  · rw [same]
    exact .refl w
  · have turned := Work.turnDark_moves quiet true
    rw [start]
    exact turned.trans (Work.raise_steps (turned.only.storage.trans quiet) rfl _).moves
  · have turned := Work.turnDark_moves quiet false
    rw [stop]
    exact turned.trans (Work.clearDark_steps (turned.only.storage.trans quiet)).moves

/-- One admission, before its evaluation of CABINET_DARK (R140). -/
def Work.admitOne (w : Work) (m : Nat) : Work :=
  let f := w.faults
  let w := w.setFaults { f with restoreQueue := f.restoreQueue.tail, history := f.history ++ [w.st.now] }
  ({ w with st := w.st.deriveModule m }).say ⟨.restored, none, some m, .absent⟩

theorem Work.admit_steps (quiet : w.st.storage = []) {m : Nat} {ms : List Nat} (queue : w.st.faults.restoreQueue = m :: ms) :
    w.Steps (w.admitOne m) := by
  have quiet' : (w.setFaults { w.faults with
    restoreQueue := w.faults.restoreQueue.tail, history := w.faults.history ++ [w.st.now] }).st.storage = [] := quiet
  obtain ⟨flags, flaps, affected, modules, history, -⟩ := State.deriveModule_fields quiet' m
  have records := State.deriveModule_records quiet' m
  refine .trans (.mk (w' := { w with st := (w.admitOne m).st }) (State.deriveModule_only quiet' m) (List.prefix_refl _)
    flags flaps affected modules ?_ (fun fit => ?_) (fun fit all => ?_)) (.of_st rfl (List.prefix_append ..))
  · exact history ▸ List.prefix_append ..
  · exact ⟨by unfold Faults.SlotsFit at fit ⊢; rw [show (w.admitOne m).st.faults.records = _ from records]; exact fit,
      fun q hq _ _ => records ▸ hq, fun q hq => .inl (records ▸ hq)⟩
  · refine State.deriveModule_derived quiet' fun k x ne hx => (all k x hx).congr (fun _ => rfl) (fun q => Iff.rfl) ?_
    simp [Work.setFaults, Work.faults, queue, ne]

theorem Work.recordCondition_steps {k : FaultKind} (kind : k.debounced = false) : w.Steps (w.recordCondition k) := by
  unfold Work.recordCondition
  split
  · next d _ _ =>
    have placed : w.Steps (w.place (Sys2Proof.Machine.conditionRecord k d w.st.stamp)).2 := Work.place_steps rfl kind
    dsimp only
    split
    · exact placed.trans (Work.sayRecord_steps _ _)
    · exact placed
  · exact .refl w

theorem Work.recordConditions_steps : w.Steps w.recordConditions := by
  unfold Work.recordConditions
  split
  · have folded : ∀ ks : List FaultKind, (∀ k ∈ ks, k.debounced = false) → ∀ w : Work,
        w.Steps (ks.foldl Work.recordCondition w) := by
      intro ks
      induction ks with
      | nil => exact fun _ w => .refl w
      | cons k ks ih =>
        exact fun kinds w => (Work.recordCondition_steps (kinds k (by simp))).trans
          (ih (fun k' hk => kinds k' (by simp [hk])) _)
    exact (folded conditionKinds (by decide) w).trans (.of_st rfl (List.prefix_refl _))
  · exact .refl w

end

/-! ## What follows the transitions of an event -/

/-- A work is reached from another by evaluations of CABINET_DARK, admissions, recordings of conditions and derivings. -/
inductive Work.Follows (w : Work) : Work → Prop
  | refl : w.Follows w
  | dark {v : Work} : w.Follows v → w.Follows v.evaluateDark
  | admitOne {v : Work} {m : Nat} {ms : List Nat} : w.Follows v → v.st.faults.restoreQueue = m :: ms →
      w.Follows (v.admitOne m)
  | record {v : Work} : w.Follows v → w.Follows v.recordConditions
  | derive {v : Work} (m : Nat) : w.Follows v → w.Follows { v with st := v.st.deriveModule m }

theorem Work.Follows.moves {w v : Work} (quiet : w.st.storage = []) (h : w.Follows v) : w.Moves v := by
  induction h with
  | refl => exact .refl w
  | dark _ ih => exact ih.trans (Work.evaluateDark_moves (ih.only.storage.trans quiet))
  | admitOne _ queue ih => exact ih.trans (Work.admit_steps (ih.only.storage.trans quiet) queue).moves
  | record _ ih => exact ih.trans Work.recordConditions_steps.moves
  | derive m _ ih => exact ih.trans (Work.deriveModule_steps (ih.only.storage.trans quiet) m).moves

theorem Work.Follows.deriveModules {w : Work} (l : List Nat) : ∀ {v : Work}, w.Follows v →
    w.Follows { v with st := v.st.deriveModules l } := by
  induction l with
  | nil => exact fun h => h
  | cons m ms ih => exact fun h => ih (h.derive m)

theorem Work.Follows.admitAll {w : Work} (n : Nat) : ∀ {v : Work}, w.Follows v → w.Follows (v.admitAll n) := by
  induction n with
  | zero => exact fun h => h
  | succ n ih =>
    intro v h
    unfold Work.admitAll
    split
    · next queue =>
      split
      · exact ih (.dark (h.admitOne queue))
      · exact h
    · exact h

theorem Work.Follows.settle {w v : Work} (h : w.Follows v) (before : Nat) : w.Follows (v.settle before) := by
  unfold Work.settle
  refine .record (.admitAll _ ?_)
  split
  · exact h.admitAll _
  · exact .dark (h.admitAll _)

end Sys2Proof.Machine
end

section
/-! SUPPORT. The end of an event of the Fault Monitor: what stands at the Dimming Controller after it (R76, R77, R142), and
what an event is in which no module is admitted (R140). -/

namespace Sys2Proof.Machine

/-! ## One event -/

/-- The state at the end of an event: its reports are handed over as one delivery (R149). -/
def Work.closed (w : Work) : State := w.st.reported w.st.faults w.reports

theorem State.faultEvent_eq (s : State) (f : Work → Work) : s.faultEvent f = (f ⟨s, [], false⟩).closed := by
  unfold State.faultEvent Work.closed State.reported
  dsimp only
  split
  · simp
  · rfl

section

variable {w w' : Work}

@[simp] theorem Work.closed_faults : w.closed.faults = w.st.faults := rfl

@[simp] theorem Work.closed_dimming : w.closed.dimming = w.st.dimming := rfl

theorem Work.closed_only {s : State} (h : OnlyFaults s w.st) : OnlyFaults s w.closed := by
  unfold OnlyFaults Work.closed State.reported at *
  rw [h]

/-- The notices and the reports of an event are handed over at its end. -/
theorem Work.Moves.reportsGiven (h : w.Moves w') (some : w'.reports ≠ []) : ReportsGiven w.st w'.reports w'.closed := by
  obtain ⟨n, handed, -⟩ := h.handed
  refine ⟨List.replicate n .lZeroNotice, fun c hc => (List.mem_replicate.1 hc).2, ?_⟩
  simp [Work.closed, State.reported, handed, some]

theorem Work.Moves.handed_prefix (h : w.Moves w') : w.st.handed <+: w'.closed.handed := by
  obtain ⟨n, handed, -⟩ := h.handed
  simp [Work.closed, State.reported, handed]

/-- Two states that are one to the Dimming Controller and to what is handed over. -/
def SameDimming (s t : State) : Prop :=
  t.tables = s.tables ∧ t.stream = s.stream ∧ t.dimming = s.dimming ∧ t.handed = s.handed ∧
    t.faults.flags = s.faults.flags ∧ t.storage = s.storage

/-- Where an event changes CABINET_DARK, the Dimming Controller is as a recomputation leaves it, but for L. -/
theorem Work.Moves.darkTold (h : w.Moves w') {s : State} (same : SameDimming s w.st) (quiet : s.storage = [])
    (valid : validate .ambient (s.table .ambient).active = none) : DarkTold s w'.closed := by
  obtain ⟨tables, stream, dimming, handed₀, flags, -⟩ := same
  obtain ⟨n, handed, level⟩ := h.handed
  rw [dimming] at level
  rw [handed₀] at handed
  intro change
  refine ⟨?_, fun _ => ?_, fun on => ?_⟩
  · have aimed : w'.st.Aimed := h.told.resolve_left fun same => change (same.2.trans (congrArg _ flags))
    refine ⟨_, State.recompute_recomputed (s := { s with faults := w'.st.faults }) quiet valid, ?_⟩
    have aim : State.aim { s with faults := w'.st.faults } = w'.st.aim :=
      State.aim_congr (tables.symm.trans h.only.tables.symm) (stream.symm.trans h.only.stream.symm) rfl
        (by rw [h.dimming, dimming]) (by rw [h.dimming, dimming]) (by rw [h.dimming, dimming]) (by rw [h.dimming, dimming])
    rw [State.recompute_quiet (s := { s with faults := w'.st.faults }) quiet, aim, ← aimed]
    simp only [Work.closed_dimming, State.setAim]
    rw [h.dimming, dimming]
  · exact level.imp_right And.left
  · have off : w.st.faults.flags.cabinetDark = false := by
      rw [flags]
      exact Bool.eq_false_iff.2 fun h => change (on.trans h.symm)
    refine ⟨h.started off on, fun lit => ?_⟩
    have zero := h.started off on
    have notices : 0 < n := by
      rcases level with same | ⟨-, given⟩
      · exact absurd (same.symm.trans zero) lit
      · exact given lit
    simp only [Work.closed, State.reported, handed, List.count_append, List.count_replicate_self]
    omega

/-! ## The evaluation of CABINET_DARK -/

/-- An evaluation leaves CABINET_DARK as the blanked count that it finds has it (R142). -/
theorem Work.evaluateDark_flag (quiet : w.st.storage = []) :
    w.evaluateDark.st.faults.flags.cabinetDark = decide (w.st.darkAt ≤ w.st.faults.blankedCount) := by
  rcases Work.evaluateDark_cases quiet with ⟨same, dark⟩ | ⟨-, reached, start⟩ | ⟨-, below, stop⟩
  · rw [same, dark]
  · have quiet' := (Work.turnDark_moves quiet true).only.storage.trans quiet
    rw [start, (Work.raise_steps quiet' rfl _).flags, Work.turnDark_faults quiet]
    simpa using reached
  · have quiet' := (Work.turnDark_moves quiet false).only.storage.trans quiet
    rw [stop, (Work.clearDark_steps quiet').flags, Work.turnDark_faults quiet]
    simpa using below

/-- An evaluation that leaves CABINET_DARK as it was changes nothing. -/
theorem Work.evaluateDark_same (quiet : w.st.storage = [])
    (same : w.evaluateDark.st.faults.flags.cabinetDark = w.st.faults.flags.cabinetDark) : w.evaluateDark = w := by
  rw [Work.evaluateDark_flag quiet] at same
  rcases Work.evaluateDark_cases quiet with ⟨same, -⟩ | ⟨off, reached, -⟩ | ⟨on, below, -⟩
  · exact same
  · simp [off, reached] at same
  · simp [on, Nat.not_le.2 below] at same

/-! ## The records of conditions -/

/-- The recording of conditions adds records of conditions, and changes nothing else of the state. -/
def Work.Records (w w' : Work) : Prop :=
  ∃ extra : List FaultRecord, (∀ r ∈ extra, r.scope = none ∧ r.kind.debounced = false) ∧
    w'.st = { w.st with faults := { w.st.faults with records := w.st.faults.records ++ extra } }

theorem Work.Records.refl (w : Work) : w.Records w := ⟨[], by simp, by simp⟩

theorem Work.Records.trans {u v w : Work} (h : u.Records v) (k : v.Records w) : u.Records w := by
  obtain ⟨a, ha, hv⟩ := h
  obtain ⟨b, hb, hw⟩ := k
  refine ⟨a ++ b, fun r hr => (List.mem_append.1 hr).elim (ha r) (hb r), ?_⟩
  rw [hw, hv, ← List.append_assoc]

theorem Work.recordCondition_records {k : FaultKind} (kind : k.debounced = false) : w.Records (w.recordCondition k) := by
  unfold Work.recordCondition
  split
  · next d _ _ =>
    unfold Work.place
    split
    · next n _ =>
      exact ⟨[{ Sys2Proof.Machine.conditionRecord k d w.st.stamp with slot := n }],
        by simpa using ⟨rfl, kind⟩, rfl⟩
    · exact .refl w
  · exact .refl w

theorem Work.recordConditions_records (w : Work) : w.Records w.recordConditions := by
  have folded : ∀ ks : List FaultKind, (∀ k ∈ ks, k.debounced = false) → ∀ w : Work,
      w.Records (ks.foldl Work.recordCondition w) := by
    intro ks
    induction ks with
    | nil => exact fun _ w => .refl w
    | cons k ks ih =>
      exact fun kinds w => (Work.recordCondition_records (kinds k (by simp))).trans
        (ih (fun k' hk => kinds k' (by simp [hk])) _)
  unfold Work.recordConditions
  split
  · exact folded conditionKinds (by decide) w
  · exact .refl w

/-! ## Events without an admission -/

theorem Work.admit_history (quiet : w.st.storage = []) (m : Nat) :
    (w.admitOne m).st.faults.history = w.st.faults.history ++ [w.st.now] :=
  (State.deriveModule_fields (s := (w.setFaults { w.faults with
    restoreQueue := w.faults.restoreQueue.tail, history := w.faults.history ++ [w.st.now] }).st) quiet m).2.2.2.2.1

/-- A check of admission that admits a module. -/
theorem Work.admitAll_cases (w : Work) (n : Nat) : w.admitAll n = w ∨ ∃ m ms k, w.st.faults.restoreQueue = m :: ms ∧
    w.st.faults.history.length < historyMax ∧ w.admitAll n = ((w.admitOne m).evaluateDark).admitAll k := by
  cases n with
  | zero => exact .inl rfl
  | succ n =>
    rw [Work.admitAll]
    split
    · next m ms queue =>
      split
      · next room => exact .inr ⟨m, ms, n, queue, room, rfl⟩
      · exact .inl rfl
    · exact .inl rfl

/-- Where the check of admission leaves the history, it admits none. -/
theorem Work.admitAll_of_history (quiet : w.st.storage = []) {n : Nat}
    (same : (w.admitAll n).st.faults.history = w.st.faults.history) : w.admitAll n = w := by
  rcases w.admitAll_cases n with none | ⟨m, ms, k, queue, -, admits⟩
  · exact none
  · have admitted := Work.admit_steps quiet queue
    have rest : (w.admitOne m).Moves (w.admitAll n) := by
      rw [admits]
      exact Work.Follows.moves (admitted.storage.trans quiet) (.admitAll k (.dark .refl))
    have le := rest.history.length_le
    rw [same, Work.admit_history quiet, List.length_append] at le
    simp at le

/-- Where the end of an event leaves the history, it admits no module. -/
theorem Work.settle_of_history (quiet : w.st.storage = []) {before : Nat}
    (same : (w.settle before).st.faults.history = w.st.faults.history) :
    w.settle before =
      (if w.st.faults.blankedCount = before then w else w.evaluateDark).recordConditions := by
  have first := Work.Follows.admitAll (w := w) historyMax .refl
  have firstMoves := first.moves quiet
  generalize hd : (if w.st.faults.blankedCount = before then w.admitAll historyMax
    else (w.admitAll historyMax).evaluateDark) = d
  have second : (w.admitAll historyMax).Moves d := by
    rw [← hd]
    split
    · exact .refl _
    · exact Work.evaluateDark_moves (firstMoves.only.storage.trans quiet)
  have quietD := second.only.storage.trans (firstMoves.only.storage.trans quiet)
  have third := (Work.Follows.admitAll (w := d) historyMax .refl).moves quietD
  have settled : w.settle before = (d.admitAll historyMax).recordConditions := by
    rw [← hd]
    rfl
  obtain ⟨_, -, recorded⟩ := (d.admitAll historyMax).recordConditions_records
  have whole : (d.admitAll historyMax).st.faults.history = w.st.faults.history := by
    rw [← same, settled, recorded]
  have sameFirst : (w.admitAll historyMax).st.faults.history = w.st.faults.history :=
    (firstMoves.history.eq_of_length_le (by
      rw [← whole]
      exact (second.history.trans third.history).length_le)).symm
  have sameD : d.st.faults.history = w.st.faults.history :=
    ((firstMoves.trans second).history.eq_of_length_le (whole ▸ third.history.length_le)).symm
  rw [settled, Work.admitAll_of_history quietD (whole.trans sameD.symm), ← hd, Work.admitAll_of_history quiet sameFirst]

/-- After its transitions an event leaves the Dimming Controller, where CABINET_DARK stands as before and no module is
admitted. -/
theorem Work.settle_dimming (quiet : w.st.storage = []) {before : Nat}
    (dark : (w.settle before).st.faults.flags.cabinetDark = w.st.faults.flags.cabinetDark)
    (history : (w.settle before).st.faults.history = w.st.faults.history) :
    (w.settle before).st.dimming = w.st.dimming := by
  rw [Work.settle_of_history quiet history] at dark ⊢
  obtain ⟨_, -, recorded⟩ := Work.recordConditions_records
    (if w.st.faults.blankedCount = before then w else w.evaluateDark)
  rw [recorded] at dark ⊢
  split at dark
  · next e => simp [e]
  · next e =>
    have same := Work.evaluateDark_same quiet dark
    simp [e, same]

end

end Sys2Proof.Machine
end

section
/-! SUPPORT. Events in which CABINET_DARK finds room for its record, so that no record is evicted: every other record stays,
and CABINET_DARK stands as the blanked count has it (R129, R135, R142). -/

namespace Sys2Proof.Machine

/-- Every condition that is present has its record (R135). -/
def Faults.Recorded (f : Faults) : Prop :=
  ∀ k ∈ conditionKinds, ∀ d, f.presentCondition k = some d → ¬ HoldsNone f none k

theorem Faults.presentCondition_congr {f g : Faults} {k : FaultKind} (other : k ≠ .cabinetDark)
    (flags : g.flags = { f.flags with cabinetDark := g.flags.cabinetDark }) (affected : g.affected = f.affected) :
    g.presentCondition k = f.presentCondition k := by
  have stream : g.flags.streamLost = f.flags.streamLost := by rw [flags]
  have clock : g.flags.clockUnset = f.flags.clockUnset := by rw [flags]
  have store : g.flags.storeInvalid = f.flags.storeInvalid := by rw [flags]
  cases k <;> simp [Faults.presentCondition, stream, clock, store, affected] at other ⊢

/-- The conditions have their records where the records of the others stay and CABINET_DARK has its own. -/
theorem Faults.Recorded.of_kept {f g : Faults} (h : f.Recorded)
    (flags : g.flags = { f.flags with cabinetDark := g.flags.cabinetDark }) (affected : g.affected = f.affected)
    (kept : ∀ r ∈ f.records, r.kind ≠ .cabinetDark → r.scope = none → r ∈ g.records)
    (dark : g.flags.cabinetDark = true → ¬ HoldsNone g none .cabinetDark) : g.Recorded := by
  intro k hk d present
  by_cases other : k = .cabinetDark
  · subst other
    exact dark (by simpa [Faults.presentCondition] using (Option.ite_none_right_eq_some.1 present).1)
  · rw [Faults.presentCondition_congr other flags affected] at present
    refine fun none => h k hk d present fun r hr pair => ?_
    exact none r (kept r hr (pair.2 ▸ other) pair.1) pair

/-- What an operation that evicts no record leaves: the count of lost detections, every record but CABINET_DARK's, and the
records of the conditions. -/
structure Work.Spares (w w' : Work) : Prop where
  lost : w'.st.faults.lostDetections = w.st.faults.lostDetections
  records : w.st.faults.SlotsFit → ∀ r ∈ w.st.faults.records, r.kind ≠ .cabinetDark → r ∈ w'.st.faults.records
  recorded : w.st.faults.SlotsFit → w.st.faults.Recorded → w'.st.faults.Recorded

theorem Work.Spares.refl (w : Work) : w.Spares w := ⟨rfl, fun _ _ hr _ => hr, fun _ h => h⟩

theorem Work.Spares.trans {u v w : Work} (h : u.Spares v) (fit : u.st.faults.SlotsFit → v.st.faults.SlotsFit)
    (k : v.Spares w) : u.Spares w :=
  ⟨k.lost.trans h.lost, fun f r hr hk => k.records (fit f) r (h.records f r hr hk) hk,
    fun f h' => k.recorded (fit f) (h.recorded f h')⟩

/-- A slot is free for the record of CABINET_DARK, the condition holds, or the blanked count is below its threshold. -/
def State.Room (s : State) : Prop :=
  (∃ n, LowestFree s.faults n) ∨ s.faults.flags.cabinetDark = true ∨ s.faults.blankedCount < s.darkAt

section

variable {w : Work}

theorem Faults.freeSlot_of_lowestFree {f : Faults} {n : Nat} (h : LowestFree f n) : ∃ k, f.freeSlot = some k := by
  cases free : f.freeSlot with
  | none => exact absurd (Faults.freeSlot_none free) h.not_full
  | some k => exact ⟨k, rfl⟩

/-- A condition that starts while a slot is free takes the lowest. -/
theorem Work.raise_free {n : Nat} (free : w.st.faults.freeSlot = some n) (k : FaultKind) (d : Detail) :
    w.raise k d = { w with
      st := { w.st with faults := { w.st.faults with
        records := w.st.faults.records ++ [{ Sys2Proof.Machine.conditionRecord k d w.st.stamp with slot := n }] } }
      reports := w.reports ++ [⟨.raised, some k, none, d⟩] } := by
  have room : w.makeRoom = w := by
    unfold Work.makeRoom
    rw [show w.faults.freeSlot = some n from free]
  have placed : ∀ r, w.place r = (some { r with slot := n },
      w.setFaults { w.faults with records := w.faults.records ++ [{ r with slot := n }] }) := by
    intro r
    unfold Work.place
    rw [show w.faults.freeSlot = some n from free]
  unfold Work.raise Work.create
  rw [room, placed]
  rfl

/-- The end of a condition: there was no record, or it has left the table with its CLEARED report. -/
theorem Work.clear_cases (w : Work) (k : FaultKind) :
    (HoldsNone w.st.faults none k ∧ w.clear k = w) ∨
      ∃ r, Holds w.st.faults none k r ∧ w.clear k = (w.sayRecord .cleared r).drop r := by
  unfold Work.clear
  split
  · next r found =>
    have holds := Faults.recordOf_some found
    refine .inr ⟨r, holds, ?_⟩
    rcases (w.sayRecord .cleared r).free_cases r with ⟨-, drop⟩ | ⟨m, scope, -⟩
    · exact drop
    · rw [holds.2.1] at scope
      cases scope
  · next none => exact .inl ⟨Faults.recordOf_none none, rfl⟩

/-- What an evaluation of CABINET_DARK does that has room for its record. -/
structure Work.Spared (w w' : Work) : Prop extends w.Spares w' where
  modules : w'.st.faults.modules = w.st.faults.modules
  queue : w'.st.faults.restoreQueue = w.st.faults.restoreQueue
  history : w'.st.faults.history = w.st.faults.history

theorem Work.evaluateDark_spared (quiet : w.st.storage = []) (room : w.st.Room) : w.Spared w.evaluateDark := by
  have moves := Work.evaluateDark_moves quiet
  rcases Work.evaluateDark_cases quiet with ⟨same, -⟩ | ⟨off, reached, start⟩ | ⟨-, below, stop⟩
  · rw [same]
    exact { Work.Spares.refl w with modules := rfl, queue := rfl, history := rfl }
  · have faults := Work.turnDark_faults quiet true
    obtain ⟨n, free⟩ : ∃ n, (w.turnDark true).st.faults.freeSlot = some n := by
      rcases room with ⟨n, free⟩ | on | below
      · rw [faults]
        exact Faults.freeSlot_of_lowestFree (f := { w.st.faults with flags := _ }) free
      · rw [off] at on
        cases on
      · omega
    have evaluated := start.trans (Work.raise_free free _ _)
    have records : ∀ r ∈ w.st.faults.records, r ∈ w.evaluateDark.st.faults.records := by
      intro r hr
      simp [evaluated, faults, hr]
    refine { lost := ?_, records := fun _ r hr _ => records r hr, recorded := fun _ recorded => ?_, modules := ?_
             queue := ?_, history := ?_ }
    · simp [evaluated, faults]
    · refine recorded.of_kept moves.flags moves.affected (fun r hr _ _ => records r hr) fun _ none => ?_
      refine none
        { Sys2Proof.Machine.conditionRecord .cabinetDark .absent (w.turnDark true).st.stamp with slot := n } ?_ ⟨rfl, rfl⟩
      simp [evaluated]
    · simp [evaluated, faults]
    · simp [evaluated, faults]
    · simp [evaluated, faults]
  · have faults := Work.turnDark_faults quiet false
    have off : w.evaluateDark.st.faults.flags.cabinetDark = false := by
      rw [Work.evaluateDark_flag quiet]
      simpa using below
    have left : w.evaluateDark.st.faults.lostDetections = w.st.faults.lostDetections ∧
        w.evaluateDark.st.faults.modules = w.st.faults.modules ∧
        w.evaluateDark.st.faults.restoreQueue = w.st.faults.restoreQueue ∧
        w.evaluateDark.st.faults.history = w.st.faults.history ∧
        (w.st.faults.SlotsFit →
          ∀ r ∈ w.st.faults.records, r.kind ≠ .cabinetDark → r ∈ w.evaluateDark.st.faults.records) := by
      rw [stop]
      rcases (w.turnDark false).clear_cases .cabinetDark with ⟨-, none⟩ | ⟨r, holds, cleared⟩
      · rw [none, faults]
        exact ⟨rfl, rfl, rfl, rfl, fun _ r hr _ => hr⟩
      · rw [faults] at holds
        rw [cleared, Work.drop_faults, Work.sayRecord_st, faults]
        exact ⟨rfl, rfl, rfl, rfl, fun fit q hq other =>
          (fit.mem_remove holds.1).2 ⟨hq, fun e => other (e ▸ holds.2.2)⟩⟩
    obtain ⟨lost, modules, queue, history, records⟩ := left
    exact { lost, records, modules, queue, history
            recorded := fun fit recorded => recorded.of_kept moves.flags moves.affected
              (fun r hr other _ => records fit r hr other) fun on => by rw [off] at on; cases on }

/-- CABINET_DARK stands as the blanked count has it (R142). -/
def State.DarkExact (s : State) : Prop := s.faults.flags.cabinetDark = decide (s.darkAt ≤ s.faults.blankedCount)

theorem OnlyFaults.darkAt {s t : State} (h : OnlyFaults s t) : t.darkAt = s.darkAt := by
  rw [h]
  rfl

theorem Work.evaluateDark_exact (quiet : w.st.storage = []) (room : w.st.Room) : w.evaluateDark.st.DarkExact := by
  unfold State.DarkExact
  rw [Work.evaluateDark_flag quiet, (Work.evaluateDark_moves quiet).only.darkAt, Faults.blankedCount, Faults.blankedCount,
    (Work.evaluateDark_spared quiet room).modules]

theorem State.DarkExact.room {s : State} (h : s.DarkExact) : s.Room := by
  by_cases reached : s.darkAt ≤ s.faults.blankedCount
  · exact .inr (.inl (by rw [h]; simpa using reached))
  · exact .inr (.inr (Nat.lt_of_not_le reached))

/-! ## Admissions with room -/

/-- A work in which an admission lowers the blanked count, if it changes it, and CABINET_DARK has room. -/
structure Work.Calm (w : Work) : Prop where
  quiet : w.st.storage = []
  fit : w.st.faults.SlotsFit
  derived : AllDerived w.st
  room : w.st.Room

/-- A step to a work with room that evicts no record. -/
structure Work.Eases (w w' : Work) : Prop where
  moves : w.Moves w'
  spares : w.Spares w'
  room : w'.st.Room

theorem Work.Calm.eases {w w' : Work} (h : w.Calm) (e : w.Eases w') : w'.Calm :=
  ⟨e.moves.only.storage.trans h.quiet, (e.moves.fit h.fit).1, e.moves.derived h.fit h.derived, e.room⟩

theorem Work.Calm.of_st {w w' : Work} (h : w.Calm) (st : w'.st = w.st) : w'.Calm :=
  ⟨st ▸ h.quiet, st ▸ h.fit, st ▸ h.derived, st ▸ h.room⟩

theorem Work.Calm.refl {w : Work} (h : w.Calm) : w.Eases w := ⟨.refl w, .refl w, h.room⟩

theorem Work.Eases.trans {u v w : Work} (h : u.Eases v) (k : v.Eases w) : u.Eases w :=
  ⟨h.moves.trans k.moves, h.spares.trans (fun fit => (h.moves.fit fit).1) k.spares, k.room⟩

theorem Work.Calm.evaluateDark (h : w.Calm) : w.Eases w.evaluateDark :=
  ⟨Work.evaluateDark_moves h.quiet, (Work.evaluateDark_spared h.quiet h.room).toSpares,
    (Work.evaluateDark_exact h.quiet h.room).room⟩

/-- A module that waits in the restore queue is dark by policy (R138, R139). -/
theorem ModuleDerived.isDark_of_waiting {s : State} {m : Nat} {x : ModuleStatus} (h : ModuleDerived s m x)
    (waits : m ∈ s.faults.restoreQueue) : x.isDark = true := by
  obtain ⟨blank, wait, -⟩ := h
  by_cases two : ∃ r ∈ s.faults.records, ActsOn r m ∧ s.presentOrDefault .policy (27 + r.kind.code) = 2
  · simp [ModuleStatus.isDark, blank two]
  · simp [ModuleStatus.isDark, wait two waits]

theorem countP_set_le {α : Type} {p : α → Bool} {l : List α} {m : Nat} (h : ∀ y, l[m]? = some y → p y = true) (x : α) :
    (l.set m x).countP p ≤ l.countP p := by
  by_cases hm : m < l.length
  · have counted : p l[m] = true := h _ (List.getElem?_eq_getElem hm)
    have pos : 0 < l.countP p := List.countP_pos_iff.2 ⟨_, List.getElem_mem hm, counted⟩
    rw [List.countP_set hm, if_pos counted]
    split <;> omega
  · rw [List.set_eq_of_length_le (by omega)]

/-- An admission evicts no record, and does not raise the blanked count. -/
theorem Work.Calm.admitOne (h : w.Calm) {m : Nat} {ms : List Nat} (queue : w.st.faults.restoreQueue = m :: ms) :
    w.Eases (w.admitOne m) := by
  have steps := Work.admit_steps h.quiet queue
  have quiet' : (w.setFaults { w.faults with
    restoreQueue := w.faults.restoreQueue.tail, history := w.faults.history ++ [w.st.now] }).st.storage = [] := h.quiet
  have records : (w.admitOne m).st.faults.records = w.st.faults.records := State.deriveModule_records quiet' m
  have lost : (w.admitOne m).st.faults.lostDetections = w.st.faults.lostDetections :=
    (State.deriveModule_fields quiet' m).2.2.2.2.2
  have count : (w.admitOne m).st.faults.blankedCount ≤ w.st.faults.blankedCount := by
    unfold Faults.blankedCount Work.admitOne Work.say
    dsimp only
    rw [State.deriveModule_quiet quiet']
    exact countP_set_le (fun y hy => (h.derived m y hy).isDark_of_waiting (by simp [queue])) _
  refine ⟨steps.moves, ⟨lost, fun _ r hr _ => records ▸ hr, fun _ recorded => ?_⟩, ?_⟩
  · refine recorded.of_kept steps.moves.flags steps.affected (fun r hr _ _ => records ▸ hr) fun on none => ?_
    rw [steps.flags] at on
    refine recorded .cabinetDark (by decide) .absent (by simp [Faults.presentCondition, on]) ?_
    unfold HoldsNone at *
    rwa [records] at none
  · rcases h.room with ⟨n, free⟩ | on | below
    · refine .inl ⟨n, ?_⟩
      unfold LowestFree at *
      rwa [records]
    · exact .inr (.inl (steps.flags ▸ on))
    · exact .inr (.inr (by rw [steps.moves.only.darkAt]; omega))

theorem Work.Calm.admitAll (n : Nat) : ∀ {w : Work}, w.Calm → w.Eases (w.admitAll n) ∧
    (w.st.DarkExact → (w.admitAll n).st.DarkExact) := by
  induction n with
  | zero => exact fun h => ⟨h.refl, fun exact => exact⟩
  | succ n ih =>
    intro w h
    rw [Work.admitAll]
    split
    · next m ms queue =>
      split
      · have admitted := h.admitOne queue
        have calm := h.eases admitted
        have evaluated := calm.evaluateDark
        obtain ⟨rest, exact⟩ := ih (calm.eases evaluated)
        exact ⟨admitted.trans (evaluated.trans rest), fun _ => exact (Work.evaluateDark_exact calm.quiet calm.room)⟩
      · exact ⟨h.refl, fun exact => exact⟩
    · exact ⟨h.refl, fun exact => exact⟩

/-- Where every condition has its record, the recording of conditions changes nothing. -/
theorem Work.recordConditions_of_recorded (h : w.st.faults.Recorded) : w.recordConditions.st = w.st := by
  have one : ∀ k ∈ conditionKinds, w.recordCondition k = w := by
    intro k hk
    unfold Work.recordCondition
    split
    · next d present none => exact absurd (Faults.recordOf_none none) (h k hk d present)
    · rfl
  have folded : ∀ ks : List FaultKind, (∀ k ∈ ks, k ∈ conditionKinds) → ks.foldl Work.recordCondition w = w := by
    intro ks
    induction ks with
    | nil => exact fun _ => rfl
    | cons k ks ih =>
      intro kinds
      rw [List.foldl_cons, one k (kinds k (by simp))]
      exact ih fun k' hk => kinds k' (by simp [hk])
  unfold Work.recordConditions
  split
  · rw [folded _ fun _ hk => hk]
  · rfl

theorem Work.recordConditions_spares (w : Work) : w.Spares w.recordConditions := by
  obtain ⟨extra, -, st⟩ := w.recordConditions_records
  refine ⟨by rw [st], fun _ r hr _ => by rw [st]; exact List.mem_append_left _ hr, fun _ recorded => ?_⟩
  rw [Work.recordConditions_of_recorded recorded]
  exact recorded

theorem Work.recordConditions_exact (h : w.st.DarkExact) : w.recordConditions.st.DarkExact := by
  obtain ⟨extra, -, st⟩ := w.recordConditions_records
  rw [st]
  exact h

/-- The end of an event with room evicts no record; and where CABINET_DARK stood as the blanked count has it, it still
does. -/
theorem Work.Calm.settle (h : w.Calm) (before : Nat) : w.Spares (w.settle before) ∧
    (w.st.DarkExact → before = w.st.faults.blankedCount → (w.settle before).st.DarkExact) := by
  obtain ⟨first, firstExact⟩ := h.admitAll historyMax
  have calm := h.eases first
  unfold Work.settle
  dsimp only
  split
  · obtain ⟨second, secondExact⟩ := calm.admitAll historyMax
    exact ⟨(first.trans second).spares.trans (fun fit => ((first.trans second).moves.fit fit).1)
        (Work.recordConditions_spares _),
      fun exact _ => Work.recordConditions_exact (secondExact (firstExact exact))⟩
  · next changed =>
    have evaluated := calm.evaluateDark
    obtain ⟨second, -⟩ := (calm.eases evaluated).admitAll historyMax
    have all := first.trans (evaluated.trans second)
    exact ⟨all.spares.trans (fun fit => (all.moves.fit fit).1) (Work.recordConditions_spares _),
      fun _ same => absurd same.symm changed⟩

end

end Sys2Proof.Machine
end

section
/-! SUPPORT. The record of CABINET_DARK through an event of the Fault Monitor (R133, R135, R136, R142), and the conditions
left without a record at its end (R135). -/

namespace Sys2Proof.Machine

section

variable {w : Work}

/-! ## Room for a record -/

/-- Room is made by the removal of records alone, which is noted. -/
theorem Work.makeRoom_records (quiet : w.st.storage = []) :
    (∀ q ∈ w.makeRoom.st.faults.records, q ∈ w.st.faults.records) ∧
    (w.makeRoom.freed = true ∨ (w.makeRoom.st.faults.records = w.st.faults.records ∧ w.makeRoom.freed = w.freed)) := by
  have freed : ∀ v : Work, v.st = w.st → ∀ r, (∀ q ∈ (v.free r).st.faults.records, q ∈ w.st.faults.records) ∧
      (v.free r).freed = true := by
    intro v hv r
    have dropped : ∀ q ∈ (v.drop r).st.faults.records, q ∈ w.st.faults.records := by
      intro q hq
      rw [Work.drop_faults, hv] at hq
      exact (List.mem_filter.1 hq).1
    rcases v.free_cases r with ⟨-, free⟩ | ⟨m, -, free⟩
    · rw [free]
      exact ⟨dropped, rfl⟩
    · have quiet' : (v.drop r).st.storage = [] := by
        rw [← quiet, ← hv]
        rfl
      rw [free]
      refine ⟨fun q hq => dropped q ?_, rfl⟩
      rwa [← State.deriveModule_records quiet' m]
  unfold Work.makeRoom
  split
  · exact ⟨fun _ hq => hq, .inr ⟨rfl, rfl⟩⟩
  · split
    · next r _ => exact (freed (w.sayRecord .cleared r) rfl r).imp_right .inl
    · split
      · next r _ => exact (freed w rfl r).imp_right .inl
      · exact ⟨fun _ hq => hq, .inr ⟨rfl, rfl⟩⟩

/-- A condition that starts takes the lowest slot that is free once room is made, or finds none. -/
theorem Work.raise_cases (w : Work) (k : FaultKind) (d : Detail) :
    (∃ n, w.makeRoom.st.faults.freeSlot = some n ∧
      (w.raise k d).st.faults = { w.makeRoom.st.faults with records := w.makeRoom.st.faults.records ++
        [{ Sys2Proof.Machine.conditionRecord k d w.st.stamp with slot := n }] } ∧
      (w.raise k d).reports = w.makeRoom.reports ++ [⟨.raised, some k, none, d⟩] ∧
      (w.raise k d).freed = w.makeRoom.freed) ∨
    (w.makeRoom.st.faults.freeSlot = none ∧ w.raise k d = w.makeRoom) := by
  unfold Work.raise Work.create Work.place
  cases free : w.makeRoom.faults.freeSlot with
  | none => exact .inr ⟨free, rfl⟩
  | some n => exact .inl ⟨n, free, rfl, rfl, rfl⟩

/-! ## The record of CABINET_DARK -/

/-- CABINET_DARK has at most one record, and none while the condition does not hold. -/
structure Work.DarkSound (w : Work) : Prop where
  fit : w.st.faults.SlotsFit
  off : w.st.faults.flags.cabinetDark = false → HoldsNone w.st.faults none .cabinetDark
  unique : ∀ q r, Holds w.st.faults none .cabinetDark q → Holds w.st.faults none .cabinetDark r → q = r

/-- CABINET_DARK, while it holds, has had its RAISED report in the event and has its ACTIVE record, unless no slot was free
for it since records were last examined. -/
def Work.DarkSeen (w : Work) : Prop :=
  w.st.faults.flags.cabinetDark = true →
    ((∃ r, Holds w.st.faults none .cabinetDark r ∧ r.state = .active) ∧
      ⟨.raised, some .cabinetDark, none, .absent⟩ ∈ w.reports) ∨
    (HoldsNone w.st.faults none .cabinetDark ∧ (w.freed = true ∨ w.st.faults.full))

/-- What an operation leaves of the record of CABINET_DARK. -/
structure Work.Darkens (w w' : Work) : Prop where
  reports : w.reports <+: w'.reports
  sound : w.DarkSound → w'.DarkSound
  seen : w.DarkSound → w.DarkSeen → w'.DarkSeen
  cleared : w.DarkSound → ∀ r, Holds w.st.faults none .cabinetDark r →
    Holds w'.st.faults none .cabinetDark r ∨ ⟨.cleared, some .cabinetDark, none, r.detail⟩ ∈ w'.reports

theorem Work.Darkens.refl (w : Work) : w.Darkens w := ⟨List.prefix_refl _, fun h => h, fun _ h => h, fun _ _ => .inl⟩

theorem Work.Darkens.trans {u v w : Work} (h : u.Darkens v) (k : v.Darkens w) : u.Darkens w where
  reports := h.reports.trans k.reports
  sound s := k.sound (h.sound s)
  seen s d := k.seen (h.sound s) (h.seen s d)
  cleared s r hr := by
    rcases h.cleared s r hr with held | told
    · exact k.cleared (h.sound s) r held
    · exact .inr (k.reports.mem told)

/-- An operation that leaves the records and the flag. -/
theorem Work.Darkens.of_same {w' : Work} (records : w'.st.faults.records = w.st.faults.records)
    (dark : w'.st.faults.flags.cabinetDark = w.st.faults.flags.cabinetDark) (freed : w'.freed = w.freed)
    (reports : w.reports <+: w'.reports) : w.Darkens w' := by
  have holds : ∀ r, Holds w'.st.faults none .cabinetDark r ↔ Holds w.st.faults none .cabinetDark r := by
    intro r
    unfold Holds
    rw [records]
  have none : HoldsNone w'.st.faults none .cabinetDark ↔ HoldsNone w.st.faults none .cabinetDark := by
    unfold HoldsNone
    rw [records]
  have full : w'.st.faults.full ↔ w.st.faults.full := by
    unfold Faults.full
    rw [records]
  refine ⟨reports, fun s => ⟨?_, ?_, ?_⟩, fun _ seen on => ?_, fun _ r hr => .inl ((holds r).2 hr)⟩
  · unfold Faults.SlotsFit
    rw [records]
    exact s.fit
  · rw [dark, none]
    exact s.off
  · simpa only [holds] using s.unique
  · rw [dark] at on
    rcases seen on with ⟨record, raised⟩ | room
    · exact .inl ⟨by simpa only [holds] using record, reports.mem raised⟩
    · rw [none, freed, full]
      exact .inr room

theorem Work.deriveModule_darkens (quiet : w.st.storage = []) (m : Nat) :
    w.Darkens { w with st := w.st.deriveModule m } :=
  .of_same (State.deriveModule_records quiet m) (by rw [(State.deriveModule_fields quiet m).1]) rfl (List.prefix_refl _)

theorem Work.admit_darkens (quiet : w.st.storage = []) {m : Nat} {ms : List Nat}
    (queue : w.st.faults.restoreQueue = m :: ms) : w.Darkens (w.admitOne m) :=
  .of_same (State.deriveModule_records (s := (w.setFaults { w.faults with
      restoreQueue := w.faults.restoreQueue.tail, history := w.faults.history ++ [w.st.now] }).st) quiet m)
    (by rw [(Work.admit_steps quiet queue).flags]) rfl (Work.admit_steps quiet queue).reports

theorem Work.evaluateDark_darkens (quiet : w.st.storage = []) : w.Darkens w.evaluateDark := by
  have moves := Work.evaluateDark_moves quiet
  have flag := Work.evaluateDark_flag quiet
  rcases Work.evaluateDark_cases quiet with ⟨same, -⟩ | ⟨off, reached, start⟩ | ⟨on, below, stop⟩
  · rw [same]
    exact .refl w
  · have faults := Work.turnDark_faults quiet true
    have quiet' := (Work.turnDark_moves quiet true).only.storage.trans quiet
    obtain ⟨left, -⟩ := Work.makeRoom_records quiet'
    have on : w.evaluateDark.st.faults.flags.cabinetDark = true := by simpa [reached] using flag
    have noneLeft (s : w.DarkSound) : HoldsNone (w.turnDark true).makeRoom.st.faults none .cabinetDark := by
      intro q hq
      have hq' := left q hq
      rw [faults] at hq'
      exact s.off off q hq'
    rcases (w.turnDark true).raise_cases .cabinetDark .absent with ⟨n, -, placed, reports, -⟩ | ⟨free, lost⟩
    · rw [← start] at placed reports
      have holds (s : w.DarkSound) : ∀ r, Holds w.evaluateDark.st.faults none .cabinetDark r ↔
          r = { Sys2Proof.Machine.conditionRecord .cabinetDark .absent (w.turnDark true).st.stamp with slot := n } := by
        intro r
        rw [placed]
        refine ⟨fun ⟨hr, pair⟩ => ?_,
          fun e => ⟨List.mem_append_right _ (List.mem_singleton.2 e), by rw [e]; exact ⟨rfl, rfl⟩⟩⟩
        rcases List.mem_append.1 hr with hr | hr
        · exact absurd pair (noneLeft s r hr)
        · exact List.mem_singleton.1 hr
      refine ⟨moves.reports, fun s => ⟨(moves.fit s.fit).1, ?_, ?_⟩, fun s _ _ => .inl ⟨⟨_, (holds s _).2 rfl, rfl⟩, ?_⟩, ?_⟩
      · simp [on]
      · intro q r hq hr
        rw [(holds s q).1 hq, (holds s r).1 hr]
      · simp [reports]
      · exact fun s r hr => absurd hr.2 (s.off off r hr.1)
    · rw [← start] at lost
      have none (s : w.DarkSound) : HoldsNone w.evaluateDark.st.faults none .cabinetDark := lost ▸ noneLeft s
      refine ⟨moves.reports, fun s => ⟨(moves.fit s.fit).1, fun _ => none s, ?_⟩, fun s _ _ => .inr ⟨none s, .inr ?_⟩, ?_⟩
      · exact fun q _ hq => absurd hq.2 (none s q hq.1)
      · rw [lost]
        exact Faults.freeSlot_none free
      · exact fun s r hr => absurd hr.2 (s.off off r hr.1)
  · have faults := Work.turnDark_faults quiet false
    have off : w.evaluateDark.st.faults.flags.cabinetDark = false := by simpa [Nat.not_le.2 below] using flag
    have ended : w.DarkSound → HoldsNone w.evaluateDark.st.faults none .cabinetDark ∧ ∀ r,
        Holds w.st.faults none .cabinetDark r → ⟨.cleared, some .cabinetDark, none, r.detail⟩ ∈ w.evaluateDark.reports := by
      intro s
      rw [stop]
      rcases (w.turnDark false).clear_cases .cabinetDark with ⟨holdsNone, none⟩ | ⟨r, holds, cleared⟩
      · rw [faults] at holdsNone
        rw [none, faults]
        exact ⟨holdsNone, fun r hr => absurd hr.2 (holdsNone r hr.1)⟩
      · rw [faults] at holds
        rw [cleared, Work.drop_faults, Work.sayRecord_st, faults]
        refine ⟨fun q hq pair => ?_, fun q hq => ?_⟩
        · obtain ⟨mem, ne⟩ := (s.fit.mem_remove holds.1).1 hq
          exact ne (s.unique q r ⟨mem, pair⟩ holds)
        · obtain rfl := s.unique q r hq holds
          simp [Work.drop, Work.setFaults, Work.sayRecord, Work.say, holds.2.1, holds.2.2]
    refine ⟨moves.reports, fun s => ⟨(moves.fit s.fit).1, fun _ => (ended s).1, ?_⟩, ?_,
      fun s r hr => .inr ((ended s).2 r hr)⟩
    · exact fun q _ hq => absurd hq.2 ((ended s).1 q hq.1)
    · intro _ _ on
      rw [off] at on
      cases on

/-! ## The recording of conditions -/

/-- One kind at the recording of conditions: its record is placed, or there is nothing to record, or no slot is free. -/
theorem Work.recordCondition_cases (w : Work) (k : FaultKind) :
    (w.recordCondition k = w ∧
      (w.st.faults.presentCondition k = none ∨ ¬ HoldsNone w.st.faults none k ∨ w.st.faults.full)) ∨
    ∃ d n, w.st.faults.presentCondition k = some d ∧ HoldsNone w.st.faults none k ∧ LowestFree w.st.faults n ∧
      w.recordCondition k = { w with
        st := { w.st with faults := { w.st.faults with
          records := w.st.faults.records ++ [{ Sys2Proof.Machine.conditionRecord k d w.st.stamp with slot := n }] } }
        reports := w.reports ++ [⟨.raised, some k, none, d⟩] } := by
  cases present : w.st.faults.presentCondition k with
  | none =>
    refine .inl ⟨?_, .inl rfl⟩
    unfold Work.recordCondition
    rw [show w.faults.presentCondition k = none from present]
  | some d =>
    cases record : w.st.faults.conditionRecord k with
    | some r =>
      refine .inl ⟨?_, .inr (.inl fun lacks => ?_)⟩
      · unfold Work.recordCondition
        rw [show w.faults.presentCondition k = some d from present, show w.faults.conditionRecord k = some r from record]
      · have holds := Faults.recordOf_some record
        exact lacks r holds.1 holds.2
    | none =>
      cases free : w.st.faults.freeSlot with
      | none =>
        refine .inl ⟨?_, .inr (.inr (Faults.freeSlot_none free))⟩
        unfold Work.recordCondition Work.place
        rw [show w.faults.presentCondition k = some d from present, show w.faults.conditionRecord k = none from record,
          show w.faults.freeSlot = none from free]
      | some n =>
        refine .inr ⟨d, n, rfl, Faults.recordOf_none record, Faults.freeSlot_some free, ?_⟩
        unfold Work.recordCondition Work.place
        rw [show w.faults.presentCondition k = some d from present, show w.faults.conditionRecord k = none from record,
          show w.faults.freeSlot = some n from free]
        rfl

theorem Work.recordCondition_freed (w : Work) (k : FaultKind) : (w.recordCondition k).freed = w.freed := by
  rcases w.recordCondition_cases k with ⟨same, -⟩ | ⟨d, n, -, -, -, placed⟩
  · rw [same]
  · rw [placed]

/-- The recording of the other conditions leaves CABINET_DARK's record. -/
theorem Work.recordCondition_other {k : FaultKind} (other : k ≠ .cabinetDark) (kind : k.debounced = false) :
    w.Darkens (w.recordCondition k) := by
  have steps := Work.recordCondition_steps (w := w) kind
  rcases w.recordCondition_cases k with ⟨same, -⟩ | ⟨d, n, -, -, -, placed⟩
  · rw [same]
    exact .refl w
  · have holds : ∀ r, Holds (w.recordCondition k).st.faults none .cabinetDark r ↔
        Holds w.st.faults none .cabinetDark r := by
      intro r
      rw [placed]
      refine ⟨fun ⟨hr, pair⟩ => ?_, fun ⟨hr, pair⟩ => ⟨List.mem_append_left _ hr, pair⟩⟩
      rcases List.mem_append.1 hr with hr | hr
      · exact ⟨hr, pair⟩
      · obtain rfl := List.mem_singleton.1 hr
        exact absurd pair.2 other
    have lacks : HoldsNone (w.recordCondition k).st.faults none .cabinetDark ↔ HoldsNone w.st.faults none .cabinetDark :=
      ⟨fun h r hr pair => h r ((holds r).2 ⟨hr, pair⟩).1 pair, fun h r hr pair => h r ((holds r).1 ⟨hr, pair⟩).1 pair⟩
    refine ⟨steps.reports, fun s => ⟨(steps.fit s.fit).1, ?_, ?_⟩, fun _ seen on => ?_, fun _ r hr => .inl ((holds r).2 hr)⟩
    · rw [steps.flags, lacks]
      exact s.off
    · simpa only [holds] using s.unique
    · rw [steps.flags] at on
      rcases seen on with ⟨record, raised⟩ | ⟨none, room⟩
      · exact .inl ⟨by simpa only [holds] using record, steps.reports.mem raised⟩
      · refine .inr ⟨lacks.2 none, room.imp ?_ ?_⟩
        · rw [Work.recordCondition_freed]
          exact fun h => h
        · intro full m hm
          obtain ⟨r, hr, e⟩ := full m hm
          exact ⟨r, by rw [placed]; exact List.mem_append_left _ hr, e⟩

/-- The recording of CABINET_DARK, and of no kind after it. -/
theorem Work.recordDark_darkens (w : Work) :
    w.Darkens { w.recordCondition .cabinetDark with freed := false } := by
  have steps := Work.recordCondition_steps (w := w) (k := .cabinetDark) rfl
  have whole : (w.recordCondition .cabinetDark).Steps { w.recordCondition .cabinetDark with freed := false } :=
    .of_st rfl (List.prefix_refl _)
  rcases w.recordCondition_cases .cabinetDark with ⟨same, why⟩ | ⟨d, n, present, none, -, placed⟩
  · rw [same]
    refine ⟨List.prefix_refl _, fun s => ⟨s.fit, s.off, s.unique⟩, fun s seen on => ?_, fun _ r hr => .inl hr⟩
    rcases seen on with record | ⟨none, -⟩
    · exact .inl record
    · refine .inr ⟨none, .inr (why.resolve_left ?_ |>.resolve_left fun h => h none)⟩
      simp [Faults.presentCondition, show w.st.faults.flags.cabinetDark = true from on]
  · obtain ⟨on, rfl⟩ : w.st.faults.flags.cabinetDark = true ∧ Detail.absent = d := by
      simpa [Faults.presentCondition] using present
    have holds : ∀ r, Holds (w.recordCondition .cabinetDark).st.faults .none .cabinetDark r ↔
        r = { Sys2Proof.Machine.conditionRecord .cabinetDark .absent w.st.stamp with slot := n } := by
      intro r
      rw [placed]
      refine ⟨fun ⟨hr, pair⟩ => ?_,
        fun e => ⟨List.mem_append_right _ (List.mem_singleton.2 e), by rw [e]; exact ⟨rfl, rfl⟩⟩⟩
      rcases List.mem_append.1 hr with hr | hr
      · exact absurd pair (none r hr)
      · exact List.mem_singleton.1 hr
    refine ⟨steps.reports, fun s => ⟨(steps.fit s.fit).1, fun off => ?_, ?_⟩,
      fun s _ _ => .inl ⟨⟨_, (holds _).2 rfl, rfl⟩, by simp [placed]⟩, fun _ r hr => absurd hr.2 (none r hr.1)⟩
    · have off : (w.recordCondition .cabinetDark).st.faults.flags.cabinetDark = false := off
      rw [steps.flags, on] at off
      cases off
    · intro q r hq hr
      rw [(holds q).1 hq, (holds r).1 hr]

theorem Work.recordConditions_darkens (w : Work) : w.Darkens w.recordConditions := by
  have others : ∀ ks : List FaultKind, (∀ k ∈ ks, k ≠ .cabinetDark ∧ k.debounced = false) → ∀ w : Work,
      w.Darkens (ks.foldl Work.recordCondition w) := by
    intro ks
    induction ks with
    | nil => exact fun _ w => .refl w
    | cons k ks ih =>
      exact fun kinds w => (Work.recordCondition_other (kinds k (by simp)).1 (kinds k (by simp)).2).trans
        (ih (fun k' hk => kinds k' (by simp [hk])) _)
  unfold Work.recordConditions
  split
  · exact (others [.streamLost, .tableEcc, .clockUnset, .storeInvalid] (by decide) w).trans (Work.recordDark_darkens _)
  · exact .refl w

theorem Work.Follows.darkens {v : Work} (quiet : w.st.storage = []) (h : w.Follows v) : w.Darkens v := by
  induction h with
  | refl => exact .refl w
  | dark h ih => exact ih.trans (Work.evaluateDark_darkens ((h.moves quiet).only.storage.trans quiet))
  | admitOne h queue ih => exact ih.trans (Work.admit_darkens ((h.moves quiet).only.storage.trans quiet) queue)
  | record _ ih => exact ih.trans (Work.recordConditions_darkens _)
  | derive m h ih => exact ih.trans (Work.deriveModule_darkens ((h.moves quiet).only.storage.trans quiet) m)

/-! ## Conditions without a record -/

/-- No condition that is present lacks its record while a slot is free, but for what a freed record has not yet brought. -/
def Work.Examined (w : Work) : Prop :=
  w.freed = true ∨ ∀ k ∈ conditionKinds, w.st.faults.presentCondition k ≠ none → HoldsNone w.st.faults none k →
    w.st.faults.full

theorem Work.Examined.of_same {w' : Work} (h : w.Examined) (records : w'.st.faults.records = w.st.faults.records)
    (flags : w'.st.faults.flags = w.st.faults.flags) (affected : w'.st.faults.affected = w.st.faults.affected)
    (freed : w'.freed = w.freed) : w'.Examined := by
  have present : ∀ k, w'.st.faults.presentCondition k = w.st.faults.presentCondition k := by
    intro k
    cases k <;> simp [Faults.presentCondition, flags, affected]
  unfold Work.Examined HoldsNone Faults.full at *
  simp only [records, freed, present]
  exact h

theorem Work.Examined.of_flag {w' : Work} (h : w.Examined) (records : w'.st.faults.records = w.st.faults.records)
    (flags : w'.st.faults.flags = { w.st.faults.flags with cabinetDark := w'.st.faults.flags.cabinetDark })
    (affected : w'.st.faults.affected = w.st.faults.affected) (freed : w'.freed = w.freed)
    (dark : w'.st.faults.flags.cabinetDark = true → ¬ HoldsNone w'.st.faults none .cabinetDark ∨ w'.st.faults.full) :
    w'.Examined := by
  refine h.imp (fun h => freed.trans h) fun h k hk present lacks => ?_
  by_cases other : k = .cabinetDark
  · subst other
    have on : w'.st.faults.flags.cabinetDark = true := by simpa [Faults.presentCondition] using present
    exact (dark on).resolve_left fun held => held lacks
  · rw [Faults.presentCondition_congr other flags affected] at present
    unfold HoldsNone Faults.full at *
    rw [records] at lacks ⊢
    exact h k hk present lacks

theorem Work.evaluateDark_examined (quiet : w.st.storage = []) (h : w.Examined) : w.evaluateDark.Examined := by
  have moves := Work.evaluateDark_moves quiet
  rcases Work.evaluateDark_cases quiet with ⟨same, -⟩ | ⟨-, -, start⟩ | ⟨-, below, stop⟩
  · rwa [same]
  · have faults := Work.turnDark_faults quiet true
    have quiet' := (Work.turnDark_moves quiet true).only.storage.trans quiet
    rcases (w.turnDark true).raise_cases .cabinetDark .absent with ⟨n, free, placed, -, freed⟩ | ⟨free, lost⟩
    · rw [← start] at placed freed
      rcases (Work.makeRoom_records quiet').2 with gone | ⟨left, kept⟩
      · exact .inl (freed.trans gone)
      · refine h.imp (fun h => (freed.trans kept).trans h) fun h k hk present lacks => ?_
        have noRoom : w.st.faults.full → False := by
          intro full
          refine (Faults.freeSlot_some free).not_full fun m hm => ?_
          rw [left, faults]
          exact full m hm
        have held : ∀ r ∈ w.st.faults.records, r ∈ w.evaluateDark.st.faults.records := by
          intro r hr
          rw [placed, left, faults]
          exact List.mem_append_left _ hr
        by_cases other : k = .cabinetDark
        · subst other
          refine absurd ⟨rfl, rfl⟩ (lacks
            { Sys2Proof.Machine.conditionRecord .cabinetDark .absent (w.turnDark true).st.stamp with slot := n } ?_)
          rw [placed]
          exact List.mem_append_right _ (List.mem_singleton.2 rfl)
        · rw [Faults.presentCondition_congr other moves.flags moves.affected] at present
          exact absurd (h k hk present fun r hr => lacks r (held r hr)) noRoom
    · refine .inr fun _ _ _ _ => ?_
      rw [start, lost]
      exact Faults.freeSlot_none free
  · have faults := Work.turnDark_faults quiet false
    rcases (w.turnDark false).clear_cases .cabinetDark with ⟨-, none⟩ | ⟨r, -, cleared⟩
    · refine h.of_flag ?_ moves.flags moves.affected ?_ fun on => ?_
      · rw [stop, none, faults]
      · rw [stop, none]
        rfl
      · rw [Work.evaluateDark_flag quiet] at on
        simp [Nat.not_le.2 below] at on
    · refine .inl ?_
      rw [stop, cleared]
      rfl

/-- The recording of conditions leaves none without a record while a slot is free. -/
theorem Work.recordConditions_examined (h : w.Examined) : ∀ k ∈ conditionKinds,
    w.recordConditions.st.faults.presentCondition k ≠ none → HoldsNone w.recordConditions.st.faults none k →
      w.recordConditions.st.faults.full := by
  have grown : ∀ (w : Work) (k : FaultKind), ∃ extra, (w.recordCondition k).st =
      { w.st with faults := { w.st.faults with records := w.st.faults.records ++ extra } } := by
    intro w k
    rcases w.recordCondition_cases k with ⟨same, -⟩ | ⟨d, n, -, -, -, placed⟩
    · exact ⟨[], by simp [same]⟩
    · exact ⟨_, by rw [placed]⟩
  have folded : ∀ (ks done : List FaultKind) (w : Work),
      (∀ k ∈ done, w.st.faults.presentCondition k ≠ none → HoldsNone w.st.faults none k → w.st.faults.full) →
      ∀ k ∈ done ++ ks, (ks.foldl Work.recordCondition w).st.faults.presentCondition k ≠ none →
        HoldsNone (ks.foldl Work.recordCondition w).st.faults none k → (ks.foldl Work.recordCondition w).st.faults.full := by
    intro ks
    induction ks with
    | nil => simp
    | cons k ks ih =>
      intro done w h
      rw [List.append_cons]
      refine ih (done ++ [k]) _ fun k' hk' present lacks => ?_
      obtain ⟨extra, st⟩ := grown w k
      have full : w.st.faults.full → (w.recordCondition k).st.faults.full := by
        intro full m hm
        obtain ⟨r, hr, e⟩ := full m hm
        exact ⟨r, by rw [st]; exact List.mem_append_left _ hr, e⟩
      have same : (w.recordCondition k).st.faults.presentCondition k' = w.st.faults.presentCondition k' := by rw [st]; rfl
      have lacked : HoldsNone w.st.faults none k' := fun r hr =>
        lacks r (by rw [st]; exact List.mem_append_left _ hr)
      rw [same] at present
      rcases List.mem_append.1 hk' with hk' | hk'
      · exact full (h k' hk' present lacked)
      · obtain rfl := List.mem_singleton.1 hk'
        rcases w.recordCondition_cases k' with ⟨-, why⟩ | ⟨d, n, -, -, -, placed⟩
        · exact full (why.resolve_left present |>.resolve_left fun held => held lacked)
        · refine absurd ⟨rfl, rfl⟩ (lacks { Sys2Proof.Machine.conditionRecord k' d w.st.stamp with slot := n } ?_)
          rw [placed]
          exact List.mem_append_right _ (List.mem_singleton.2 rfl)
  unfold Work.recordConditions
  split
  · exact folded conditionKinds [] w (by simp)
  · next kept => exact h.resolve_left kept

theorem Work.recordConditions_freed (w : Work) : w.recordConditions.freed = false := by
  unfold Work.recordConditions
  split
  · rfl
  · next kept => simpa using kept

theorem Work.Follows.examined {v : Work} (quiet : w.st.storage = []) (examined : w.Examined)
    (h : w.Follows v) : v.Examined := by
  induction h with
  | refl => exact examined
  | dark h ih => exact Work.evaluateDark_examined ((h.moves quiet).only.storage.trans quiet) ih
  | @admitOne v m ms h queue ih =>
    have quiet' := (h.moves quiet).only.storage.trans quiet
    have steps := Work.admit_steps quiet' queue
    exact ih.of_same (State.deriveModule_records (s := (v.setFaults { v.faults with
      restoreQueue := v.faults.restoreQueue.tail, history := v.faults.history ++ [v.st.now] }).st) quiet' m)
      steps.flags steps.affected rfl
  | record _ ih => exact .inr (Work.recordConditions_examined ih)
  | derive m h ih =>
    have quiet' := (h.moves quiet).only.storage.trans quiet
    have steps := Work.deriveModule_steps quiet' m
    exact ih.of_same (State.deriveModule_records quiet' m) steps.flags steps.affected rfl

end

end Sys2Proof.Machine
end

section
/-! SUPPORT. The Fault Monitor at a swap of LIMITS and at a swap of POLICY (R138, R142). -/

namespace Sys2Proof.Machine

theorem State.blankedNow_eq (s : State) : s.blankedNow = s.faults.blankedCount := by
  refine List.countP_congr fun x _ => ?_
  obtain ⟨state, derate⟩ := x
  cases state <;> simp [ModuleStatus.isDark]

/-- An event of the Fault Monitor that has just begun. -/
def Work.begun (s : State) : Work := ⟨s, [], false⟩

/-! ## What every event does -/

section

variable {s : State} {w : Work}

theorem Work.DarkSound.begun (wf : s.faults.tableWf)
    (none : s.faults.flags.cabinetDark = false → HoldsNone s.faults none .cabinetDark) : (Work.begun s).DarkSound := by
  refine ⟨.of_tableWf wf, none, fun q r hq hr => by_contra fun ne => ?_⟩
  have : Std.Symm fun a b : FaultRecord => a.slot ≠ b.slot ∧ ¬ (a.scope = b.scope ∧ a.kind = b.kind) :=
    ⟨fun a b h => ⟨h.1.symm, fun e => h.2 ⟨e.1.symm, e.2.symm⟩⟩⟩
  have apart := wf.1.forall hq.1 hr.1 ne
  exact apart.2 ⟨hq.2.1.trans hr.2.1.symm, hq.2.2.trans hr.2.2.symm⟩

/-- The record of CABINET_DARK after an event that ends with the recording of conditions. -/
theorem Work.Darkens.darkRecorded (darkens : (Work.begun s).Darkens w)
    (given : w.reports ≠ [] → ReportsGiven s w.reports w.closed) (done : w.freed = false)
    (wf : s.faults.tableWf) (none : s.faults.flags.cabinetDark = false → HoldsNone s.faults none .cabinetDark) :
    DarkRecorded s w.closed := by
  have sound := Work.DarkSound.begun wf none
  refine ⟨fun off on => ?_, fun on off => ⟨(darkens.sound sound).off off, fun r hr _ => ?_⟩⟩
  · have unseen : (Work.begun s).DarkSeen := fun on => by
      rw [show s.faults.flags.cabinetDark = true from on] at off
      cases off
    rcases darkens.seen sound unseen on with ⟨record, raised⟩ | ⟨-, room⟩
    · exact .inr ⟨record, _, given (List.ne_nil_of_mem raised), raised⟩
    · exact .inl (room.resolve_left fun freed => by rw [done] at freed; cases freed)
  · rcases darkens.cleared sound r hr with held | told
    · exact absurd held.2 ((darkens.sound sound).off off r held.1)
    · exact ⟨_, given (List.ne_nil_of_mem told), told⟩

theorem Work.settle_freed (w : Work) (before : Nat) : (w.settle before).freed = false := Work.recordConditions_freed _

/-- The records that an event leaves which evicts none. -/
theorem Work.Spares.otherRecords {w w' : Work} (spares : w.Spares w') (moves : w.Moves w') (fit : w.st.faults.SlotsFit) :
    OtherRecordsKept w.st.faults (fun _ => False) w'.st.faults :=
  ⟨fun r hr _ other => spares.records fit r hr other,
    fun r hr => ((moves.fit fit).2.2 r hr).imp (fun h => ⟨h, fun h => h⟩) And.right⟩

theorem State.Room.of_roomForDark (room : s.faults.roomForDark) : s.Room := room.imp_right .inl

/-- No module is admitted where none waits, or the history is full. -/
theorem Work.admitAll_atRest (rest : w.st.faults.restoreQueue = [] ∨ w.st.faults.history.length = 4) (n : Nat) :
    w.admitAll n = w := by
  rcases w.admitAll_cases n with none | ⟨m, ms, k, queue, room, -⟩
  · exact none
  · simp only [historyMax] at room
    simp [queue] at rest
    omega

/-- The end of an event that changes no count and admits no module is the recording of conditions. -/
theorem Work.settle_atRest (rest : w.st.faults.restoreQueue = [] ∨ w.st.faults.history.length = 4) {before : Nat}
    (same : w.st.faults.blankedCount = before) : w.settle before = w.recordConditions := by
  unfold Work.settle
  dsimp only
  rw [Work.admitAll_atRest rest, if_pos (show w.faults.blankedCount = before from same), Work.admitAll_atRest rest]

end

/-! ## LIMITS -/

theorem State.faultLimitsSwap_eq (s : State) :
    s.faultLimitsSwap = (((Work.begun s).evaluateDark).settle s.faults.blankedCount).closed := s.faultEvent_eq _

theorem State.faultLimitsSwap_follows (s : State) :
    (Work.begun s).Follows (((Work.begun s).evaluateDark).settle s.faults.blankedCount) := (Work.Follows.dark .refl).settle _

theorem State.faultLimitsSwap_only {s : State} (quiet : s.storage = []) : OnlyFaults s s.faultLimitsSwap := by
  rw [State.faultLimitsSwap_eq]
  exact Work.closed_only (s.faultLimitsSwap_follows.moves quiet).only

/-- The Fault Monitor at a swap of LIMITS alone, whose faults are those of `s` (R142). -/
theorem State.faultLimitsSwap_alone {s z : State} (quiet : z.storage = [])
    (valid : validate .ambient (z.table .ambient).active = none) (faults : z.faults = s.faults) :
    LimitsSwappedAlone s z z.faultLimitsSwap := by
  have follows := z.faultLimitsSwap_follows
  have moves := follows.moves quiet
  have evaluated := Work.evaluateDark_moves (w := Work.begun z) quiet
  have quiet' := evaluated.only.storage.trans quiet
  rw [State.faultLimitsSwap_eq]
  refine ⟨moves.darkTold ⟨rfl, rfl, rfl, rfl, rfl, rfl⟩ quiet valid, fun room => ?_, fun wf none => ?_, fun room rest => ?_⟩
  · have spared := Work.evaluateDark_spared (w := Work.begun z) quiet (.of_roomForDark (faults ▸ room))
    intro dark history
    have same : (Work.begun z).evaluateDark.st.faults.blankedCount = z.faults.blankedCount := by
      unfold Faults.blankedCount
      rw [spared.modules]
      rfl
    have settled := Work.settle_of_history quiet' (history.trans spared.history.symm)
    rw [if_pos same] at settled
    obtain ⟨_, -, recorded⟩ := Work.recordConditions_records (Work.begun z).evaluateDark
    rw [Work.closed_faults, settled, recorded] at dark
    rw [Work.closed_dimming, settled, recorded]
    exact congrArg (fun w => w.st.dimming) (Work.evaluateDark_same (w := Work.begun z) quiet dark)
  · exact (follows.darkens quiet).darkRecorded moves.reportsGiven (Work.settle_freed _ _) (faults ▸ wf) (faults ▸ none)
  · have spared := Work.evaluateDark_spared (w := Work.begun z) quiet (.of_roomForDark (faults ▸ room))
    have same : (Work.begun z).evaluateDark.st.faults.blankedCount = z.faults.blankedCount := by
      unfold Faults.blankedCount
      rw [spared.modules]
      rfl
    have rest' : (Work.begun z).evaluateDark.st.faults.restoreQueue = [] ∨
        (Work.begun z).evaluateDark.st.faults.history.length = 4 := by
      rw [spared.queue, spared.history, show (Work.begun z).st.faults = s.faults from faults]
      exact rest
    have settled := Work.settle_atRest rest' same
    obtain ⟨extra, conditions, recorded⟩ := Work.recordConditions_records (Work.begun z).evaluateDark
    have spares := spared.toSpares.trans (fun fit => (evaluated.fit fit).1) (Work.recordConditions_spares _)
    have flag := Work.evaluateDark_flag (w := Work.begun z) quiet
    rw [settled] at moves ⊢
    refine ⟨?_, ?_, ?_, ?_, ?_, fun wf => ?_⟩
    · rw [(Work.closed_only moves.only).darkAt, State.blankedNow_eq, Work.closed_faults, recorded, ← faults]
      exact flag
    · rw [Work.closed_faults, recorded, ← faults]
      exact spared.modules
    · rw [Work.closed_faults, recorded, ← faults]
      exact spared.queue
    · rw [Work.closed_faults, recorded, ← faults]
      exact spared.history
    · rw [Work.closed_faults, ← faults]
      exact spares.lost
    · rw [Work.closed_faults, ← faults]
      exact spares.otherRecords moves (.of_tableWf (faults ▸ wf))

/-! ## POLICY -/

/-- The event of a POLICY swap once every module's state is derived. -/
def Work.derivedAnew (s : State) : Work :=
  { Work.begun s with st := s.deriveModules (List.range s.faults.modules.length) }

theorem State.faultPolicySwap_eq (s : State) :
    s.faultPolicySwap = ((Work.derivedAnew s).settle s.faults.blankedCount).closed := s.faultEvent_eq _

theorem State.faultPolicySwap_follows (s : State) :
    (Work.begun s).Follows ((Work.derivedAnew s).settle s.faults.blankedCount) := .settle (.deriveModules _ .refl) _

theorem State.faultPolicySwap_only {s : State} (quiet : s.storage = []) : OnlyFaults s s.faultPolicySwap := by
  rw [State.faultPolicySwap_eq]
  exact Work.closed_only (s.faultPolicySwap_follows.moves quiet).only

theorem Work.derivedAnew_steps {s : State} (quiet : s.storage = []) : (Work.begun s).Steps (Work.derivedAnew s) :=
  Work.deriveModules_steps _ quiet

theorem Work.derivedAnew_derived {s : State} (quiet : s.storage = []) : AllDerived (Work.derivedAnew s).st := by
  refine State.deriveModules_derived _ quiet fun k x hk hx => absurd (List.mem_range.2 ?_) hk
  exact (List.getElem?_eq_some_iff.1 hx).1

theorem Work.closed_derived {w : Work} (h : AllDerived w.st) : AllDerived w.closed :=
  h.of_same rfl (fun _ _ => Iff.rfl) rfl rfl

/-- The Fault Monitor at a swap of POLICY alone, whose faults are those of `s` (R138, R142). -/
theorem State.faultPolicySwap_alone {s e : State} (quiet : e.storage = [])
    (valid : validate .ambient (e.table .ambient).active = none) (faults : e.faults = s.faults) :
    PolicySwappedAlone s e e.faultPolicySwap := by
  have steps := Work.derivedAnew_steps quiet
  have derived := Work.derivedAnew_derived quiet
  have follows := e.faultPolicySwap_follows
  have moves := follows.moves quiet
  obtain ⟨records, lost, history⟩ := State.deriveModules_records (List.range e.faults.modules.length) quiet
  have quiet' := steps.storage.trans quiet
  have settled := (Work.Follows.settle (w := Work.derivedAnew e) .refl e.faults.blankedCount).moves quiet'
  rw [State.faultPolicySwap_eq]
  refine ⟨⟨fun dark admitted => ?_, moves.darkTold ⟨rfl, rfl, rfl, rfl, rfl, rfl⟩ quiet valid⟩,
    fun wf => ⟨⟨?_, fun m x _ hx => ?_⟩, fun none => ?_, fun room => ?_⟩⟩
  · exact (Work.settle_dimming quiet' (dark.trans (congrArg ConditionFlags.cabinetDark steps.flags).symm)
      (admitted.trans history.symm)).trans steps.dimming
  · rw [Work.closed_faults, ← faults]
    exact moves.modules
  · exact Work.closed_derived (settled.derived (steps.fit (.of_tableWf (faults ▸ wf))).1 derived) m x hx
  · exact (follows.darkens quiet).darkRecorded moves.reportsGiven (Work.settle_freed _ _) (faults ▸ wf) (faults ▸ none)
  · have fit : e.faults.SlotsFit := .of_tableWf (faults ▸ wf)
    have calm : (Work.derivedAnew e).Calm := by
      refine ⟨quiet', (steps.fit fit).1, derived, ?_⟩
      rcases room with ⟨n, free⟩ | on
      · refine .inl ⟨n, ?_⟩
        unfold LowestFree at *
        rw [show (Work.derivedAnew e).st.faults.records = s.faults.records from
          records.trans (congrArg Faults.records faults)]
        exact free
      · refine .inr (.inl ?_)
        rw [steps.flags, show (Work.begun e).st.faults = s.faults from faults]
        exact on
    have spares := (calm.settle e.faults.blankedCount).1
    rw [Work.closed_faults, ← faults]
    refine ⟨⟨fun r hr _ other => spares.records calm.fit r (records ▸ hr) other, fun r hr => ?_⟩, spares.lost.trans lost⟩
    exact ((moves.fit fit).2.2 r hr).imp (fun h => ⟨h, fun h => h⟩) And.right

end Sys2Proof.Machine
end

section
/-! SUPPORT. The modules that a LAYOUT swap removes: their records are freed with their reports, their flap counters are
zeroed, and they leave the restore queue (R146). -/

namespace Sys2Proof.Machine

/-! ## The records in slot order -/

theorem Faults.inSlot_some {f : Faults} {n : Nat} {r : FaultRecord} (h : f.inSlot n = some r) : r ∈ f.records ∧ r.slot = n :=
  ⟨List.mem_of_find?_eq_some h, by simpa using List.find?_some h⟩

theorem Faults.mem_of_bySlot {f : Faults} {r : FaultRecord} (h : r ∈ f.bySlot) : r ∈ f.records := by
  obtain ⟨n, -, found⟩ := List.mem_filterMap.1 h
  exact (Faults.inSlot_some found).1

theorem Faults.SlotsFit.mem_bySlot {f : Faults} (fit : f.SlotsFit) {r : FaultRecord} : r ∈ f.bySlot ↔ r ∈ f.records := by
  refine ⟨Faults.mem_of_bySlot, fun hr => List.mem_filterMap.2 ⟨r.slot, List.mem_range.2 (fit.2 r hr), ?_⟩⟩
  cases found : f.inSlot r.slot with
  | none =>
    have absent := List.find?_eq_none.1 found r hr
    simp at absent
  | some q =>
    obtain ⟨hq, e⟩ := Faults.inSlot_some found
    rw [fit.eq_of_slot hq hr e]

theorem Faults.bySlot_sorted (f : Faults) : f.bySlot.Pairwise fun a b => a.slot < b.slot := by
  refine List.Pairwise.filterMap _ (fun a b lt q hq r hr => ?_) (List.pairwise_lt_range (n := tableSlots))
  rw [(Faults.inSlot_some hq).2, (Faults.inSlot_some hr).2]
  exact lt

/-! ## The records of one module -/

/-- The CLEARED report of a record. -/
def FaultRecord.clearedReport (r : FaultRecord) : Report := ⟨.cleared, some r.kind, r.scope, r.detail⟩

/-- The table without the records in the slots of those listed. -/
def Faults.withoutSlots (f : Faults) (rs : List FaultRecord) : Faults :=
  { f with records := f.records.filter fun q => rs.all fun r => q.slot != r.slot }

theorem Faults.withoutSlots_cons (f : Faults) (r : FaultRecord) (rs : List FaultRecord) :
    (f.remove r.slot).withoutSlots rs = f.withoutSlots (r :: rs) := by
  simp [Faults.remove, Faults.withoutSlots, List.filter_filter, Bool.and_comm]

theorem Faults.withoutSlots_append (f : Faults) (as bs : List FaultRecord) :
    (f.withoutSlots as).withoutSlots bs = f.withoutSlots (as ++ bs) := by
  simp [Faults.withoutSlots, List.filter_filter, Bool.and_comm]

theorem Work.foldl_drop (rs : List FaultRecord) : ∀ w : Work, rs.foldl Work.drop w =
    { w with st := { w.st with faults := w.st.faults.withoutSlots rs }, freed := w.freed || !rs.isEmpty } := by
  induction rs with
  | nil => exact fun w => by simp [Faults.withoutSlots]
  | cons r rs ih =>
    intro w
    rw [List.foldl_cons, ih, Work.drop_faults, Faults.withoutSlots_cons]
    simp [Work.drop, Work.setFaults]

theorem Work.foldl_cleared (rs : List FaultRecord) : ∀ w : Work,
    rs.foldl (fun w r => (w.sayRecord .cleared r).drop r) w =
      { st := { w.st with faults := w.st.faults.withoutSlots rs }
        reports := w.reports ++ rs.map FaultRecord.clearedReport
        freed := w.freed || !rs.isEmpty } := by
  induction rs with
  | nil => exact fun w => by simp [Faults.withoutSlots]
  | cons r rs ih =>
    intro w
    rw [List.foldl_cons, ih, Work.drop_faults, Work.sayRecord_st, Faults.withoutSlots_cons]
    simp [Work.drop, Work.setFaults, Work.sayRecord, Work.say, FaultRecord.clearedReport]

/-- The records of a module in slot order. -/
def Faults.ofModule (f : Faults) (m : Nat) : List FaultRecord := f.bySlot.filter fun r => r.scope == some m

/-- Those of them that act on it. -/
def Faults.actingInOrder (f : Faults) (m : Nat) : List FaultRecord := (f.ofModule m).filter fun r => r.state.acts

theorem Faults.SlotsFit.mem_ofModule {f : Faults} (fit : f.SlotsFit) {m : Nat} {r : FaultRecord} :
    r ∈ f.ofModule m ↔ r ∈ f.records ∧ r.scope = some m := by
  simp [Faults.ofModule, fit.mem_bySlot]

theorem Faults.withoutSlots_split (f : Faults) (p : FaultRecord → Bool) (rs : List FaultRecord) :
    f.withoutSlots (rs.filter (fun r => !p r) ++ rs.filter p) = f.withoutSlots rs := by
  unfold Faults.withoutSlots
  congr 1
  refine List.filter_congr fun q _ => Bool.eq_iff_iff.2 ?_
  simp only [List.all_eq_true, List.mem_append, List.mem_filter]
  refine ⟨fun h r hr => h r ?_, fun h r hr => h r (hr.elim And.left And.left)⟩
  cases hp : p r with
  | false => exact .inl ⟨hr, rfl⟩
  | true => exact .inr ⟨hr, rfl⟩

theorem Work.removeRecords_folds (w : Work) (m : Nat) : w.removeRecords m =
    (w.st.faults.actingInOrder m).foldl (fun w r => (w.sayRecord .cleared r).drop r)
      (((w.st.faults.ofModule m).filter fun r => !r.state.acts).foldl Work.drop w) := rfl

theorem Work.removeRecords_st (w : Work) (m : Nat) : (w.removeRecords m).st =
    { w.st with faults := w.st.faults.withoutSlots (w.st.faults.ofModule m) } := by
  rw [Work.removeRecords_folds, Work.foldl_drop, Work.foldl_cleared]
  dsimp only
  rw [Faults.withoutSlots_append]
  exact congrArg (fun f => { w.st with faults := f })
    (w.st.faults.withoutSlots_split (fun r => r.state.acts) (w.st.faults.ofModule m))

theorem Work.removeRecords_reports (w : Work) (m : Nat) : (w.removeRecords m).reports =
    w.reports ++ (w.st.faults.actingInOrder m).map FaultRecord.clearedReport := by
  rw [Work.removeRecords_folds, Work.foldl_drop, Work.foldl_cleared]

/-- A record that goes is noted. -/
theorem Work.removeRecords_freed {w : Work} {m : Nat} (h : w.freed = true ∨ ∃ r, r ∈ w.st.faults.ofModule m) :
    (w.removeRecords m).freed = true := by
  rw [Work.removeRecords_folds, Work.foldl_drop, Work.foldl_cleared]
  rcases h with freed | ⟨r, hr⟩
  · simp [freed]
  · cases acts : r.state.acts with
    | true =>
      have mem : r ∈ w.st.faults.actingInOrder m := List.mem_filter.2 ⟨hr, acts⟩
      simp [List.ne_nil_of_mem mem]
    | false =>
      have mem : r ∈ (w.st.faults.ofModule m).filter fun r => !r.state.acts := List.mem_filter.2 ⟨hr, by simp [acts]⟩
      simp [List.ne_nil_of_mem mem]

theorem Faults.SlotsFit.mem_withoutModule {f : Faults} (fit : f.SlotsFit) {m : Nat} {q : FaultRecord} :
    q ∈ (f.withoutSlots (f.ofModule m)).records ↔ q ∈ f.records ∧ q.scope ≠ some m := by
  simp only [Faults.withoutSlots, List.mem_filter, List.all_eq_true, bne_iff_ne, ne_eq, fit.mem_ofModule]
  refine ⟨fun ⟨hq, apart⟩ => ⟨hq, fun scope => apart q ⟨hq, scope⟩ rfl⟩, fun ⟨hq, ne⟩ => ⟨hq, fun r hr e => ne ?_⟩⟩
  rw [fit.eq_of_slot hq hr.1 e]
  exact hr.2

/-! ## One module, and those that a swap removes -/

/-- What the removal of modules does to an event (R146). -/
structure Work.Removes (ms : List Nat) (w w' : Work) : Prop where
  only : w'.st = { w.st with faults := { w.st.faults with
    records := w'.st.faults.records, flaps := w'.st.faults.flaps
    restoreQueue := w.st.faults.restoreQueue.filter fun m => m ∉ ms } }
  reports : w.reports <+: w'.reports
  flapCount : w'.st.faults.flaps.length = w.st.faults.flaps.length
  flaps : ∀ i, w'.st.faults.flaps.getD i 0 =
    if ∃ m ∈ ms, 4 * m ≤ i ∧ i < 4 * m + 4 then 0 else w.st.faults.flaps.getD i 0
  subset : ∀ r ∈ w'.st.faults.records, r ∈ w.st.faults.records
  fit : w.st.faults.SlotsFit → w'.st.faults.SlotsFit
  records : w.st.faults.SlotsFit → ∀ r, r ∈ w'.st.faults.records ↔
    r ∈ w.st.faults.records ∧ ∀ m ∈ ms, r.scope ≠ some m
  freed : w.st.faults.SlotsFit → w.freed = true ∨ (∃ r ∈ w.st.faults.records, ∃ m ∈ ms, r.scope = some m) → w'.freed = true
  gone : w.st.faults.SlotsFit → ∃ rs : List FaultRecord, w'.reports = w.reports ++ rs.map FaultRecord.clearedReport ∧
    (∀ r, r ∈ rs ↔ r ∈ w.st.faults.records ∧ (∃ m ∈ ms, r.scope = some m) ∧ r.state ≠ .suspect) ∧
    rs.Pairwise fun a b => ∀ m k, a.scope = some m → b.scope = some k → m < k ∨ (m = k ∧ a.slot < b.slot)

theorem getD_set_zero (l : List Nat) (i j : Nat) : (l.set j 0).getD i 0 = if i = j then 0 else l.getD i 0 := by
  by_cases e : i = j
  · subst e
    by_cases h : i < l.length <;> simp [List.getD_eq_getElem?_getD, h]
  · simp [List.getD_eq_getElem?_getD, List.getElem?_set_ne (Ne.symm e), e]

/-- The flap counters with those of a module at 0. -/
def zeroFlaps (flaps : List Nat) (m : Nat) : List Nat :=
  (((flaps.set (4 * m) 0).set (4 * m + 1) 0).set (4 * m + 2) 0).set (4 * m + 3) 0

theorem getD_zeroFlaps (flaps : List Nat) (m i : Nat) :
    (zeroFlaps flaps m).getD i 0 = if 4 * m ≤ i ∧ i < 4 * m + 4 then 0 else flaps.getD i 0 := by
  simp only [zeroFlaps, getD_set_zero]
  by_cases inside : 4 * m ≤ i ∧ i < 4 * m + 4
  · rw [if_pos inside]
    split_ifs <;> omega
  · rw [if_neg inside]
    split_ifs <;> omega

theorem Work.removeModule_st (w : Work) (m : Nat) : (w.removeModule m).st = { w.st with faults := { w.st.faults with
    records := (w.st.faults.withoutSlots (w.st.faults.ofModule m)).records
    flaps := zeroFlaps w.st.faults.flaps m
    restoreQueue := w.st.faults.restoreQueue.filter (· != m) } } := by
  have removed := w.removeRecords_st m
  unfold Work.removeModule
  dsimp only
  generalize w.removeRecords m = v at *
  simp only [Work.setFaults, Work.faults, removed]
  rfl

theorem Work.removeModule_removes (w : Work) (m : Nat) : w.Removes [m] (w.removeModule m) := by
  have st := w.removeModule_st m
  have reports : (w.removeModule m).reports = w.reports ++ (w.st.faults.actingInOrder m).map FaultRecord.clearedReport :=
    w.removeRecords_reports m
  have filtered : (w.st.faults.restoreQueue.filter fun k => k ∉ [m]) = w.st.faults.restoreQueue.filter (· != m) :=
    List.filter_congr fun k _ => Bool.eq_iff_iff.2 (by simp)
  refine ⟨?_, ?_, ?_, fun i => ?_, fun r hr => ?_, fun fit => ?_, fun fit r => ?_,
    fun fit some => ?_, fun fit => ⟨_, reports, ?_, ?_⟩⟩
  · rw [st, filtered]
  · rw [reports]
    exact List.prefix_append ..
  · rw [st]
    simp [zeroFlaps]
  · have zeroed := getD_zeroFlaps w.st.faults.flaps m i
    rw [st]
    simpa using zeroed
  · rw [st] at hr
    exact (List.mem_filter.1 hr).1
  · rw [st]
    exact ⟨fit.1.filter _, fun r hr => fit.2 r (List.mem_filter.1 hr).1⟩
  · rw [st, fit.mem_withoutModule]
    simp
  · refine Work.removeRecords_freed (some.imp_right ?_)
    rintro ⟨r, hr, k, hk, scope⟩
    obtain rfl := List.mem_singleton.1 hk
    exact ⟨r, fit.mem_ofModule.2 ⟨hr, scope⟩⟩
  · intro r
    simp [Faults.actingInOrder, fit.mem_ofModule, RecordState.acts_iff, and_assoc]
  · have sorted : (w.st.faults.actingInOrder m).Pairwise fun a b => a.slot < b.slot :=
      (w.st.faults.bySlot_sorted.filter _).filter _
    refine sorted.imp_of_mem fun {a b} ha hb lt k l hk hl => .inr ⟨?_, lt⟩
    have hk' := (fit.mem_ofModule.1 (List.mem_filter.1 ha).1).2
    have hl' := (fit.mem_ofModule.1 (List.mem_filter.1 hb).1).2
    rw [hk] at hk'
    rw [hl] at hl'
    rw [Option.some.inj hk', Option.some.inj hl']

theorem Work.Removes.cons {m : Nat} {ms : List Nat} {u v w : Work} (first : u.Removes [m] v) (rest : v.Removes ms w)
    (above : ∀ k ∈ ms, m < k) : u.Removes (m :: ms) w := by
  refine ⟨?_, first.reports.trans rest.reports, rest.flapCount.trans first.flapCount, fun i => ?_,
    fun r hr => first.subset r (rest.subset r hr), fun fit => rest.fit (first.fit fit), fun fit r => ?_, fun fit some => ?_,
    fun fit => ?_⟩
  · rw [rest.only, first.only]
    simp [List.filter_filter, Bool.and_comm]
  · rw [rest.flaps, first.flaps]
    simp only [List.mem_cons, List.not_mem_nil, or_false, exists_eq_left, exists_eq_or_imp]
    by_cases one : 4 * m ≤ i ∧ i < 4 * m + 4 <;> simp [one]
  · rw [rest.records (first.fit fit), first.records fit]
    simp [and_assoc]
  · refine rest.freed (first.fit fit) ?_
    rcases some with freed | ⟨r, hr, k, hk, scope⟩
    · exact .inl (first.freed fit (.inl freed))
    · rcases List.mem_cons.1 hk with rfl | hk
      · exact .inl (first.freed fit (.inr ⟨r, hr, k, by simp, scope⟩))
      · have apart : k ≠ m := Nat.ne_of_gt (above k hk)
        refine .inr ⟨r, (first.records fit r).2 ⟨hr, by simpa [scope] using apart⟩, k, hk, scope⟩
  · obtain ⟨as, reportsA, memA, orderA⟩ := first.gone fit
    obtain ⟨bs, reportsB, memB, orderB⟩ := rest.gone (first.fit fit)
    refine ⟨as ++ bs, by rw [reportsB, reportsA, List.map_append, List.append_assoc], fun r => ?_,
      List.pairwise_append.2 ⟨orderA, orderB, fun a ha b hb k l hk hl => .inl ?_⟩⟩
    · rw [List.mem_append, memA, memB, first.records fit]
      by_cases own : r.scope = some m
      · simp [own]
      · simp [own]
    · obtain ⟨-, ⟨m', hm', scope⟩, -⟩ := (memA a).1 ha
      obtain ⟨-, ⟨k', hk', scope'⟩, -⟩ := (memB b).1 hb
      obtain rfl := List.mem_singleton.1 hm'
      rw [hk] at scope
      rw [hl] at scope'
      rw [Option.some.inj scope, Option.some.inj scope']
      exact above k' hk'

theorem Work.foldl_removeModule (ms : List Nat) (sorted : ms.Pairwise (· < ·)) : ∀ w : Work,
    w.Removes ms (ms.foldl Work.removeModule w) := by
  induction ms with
  | nil =>
    exact fun w => ⟨by simp, List.prefix_refl _, rfl, fun i => by simp, fun r hr => hr, fun fit => fit, fun _ r => by simp,
      fun _ h => by simpa using h, fun _ => ⟨[], by simp⟩⟩
  | cons m ms ih =>
    obtain ⟨above, sorted⟩ := List.pairwise_cons.1 sorted
    exact fun w => (w.removeModule_removes m).cons (ih sorted _) above

end Sys2Proof.Machine
end

section
/-! SUPPORT. The Fault Monitor at a LAYOUT swap (R138, R140, R142, R146). -/

namespace Sys2Proof.Machine

/-! ## The modules removed and the modules left -/

/-- The modules that a module count of `n` removes, in order. -/
def removedModules (n : Nat) : List Nat := (List.range moduleMax).filter fun m => n ≤ m

theorem mem_removedModules {n m : Nat} : m ∈ removedModules n ↔ n ≤ m ∧ m < 32 := by
  simp [removedModules, moduleMax, and_comm]

/-- A LAYOUT swap's event once the removed modules are gone (R146, steps 1 to 4). -/
def Work.layoutRemoved (n : Nat) (s : State) : Work := (removedModules n).foldl Work.removeModule (Work.begun s)

theorem Work.layoutRemoved_removes (n : Nat) (s : State) :
    (Work.begun s).Removes (removedModules n) (Work.layoutRemoved n s) :=
  Work.foldl_removeModule _ (List.pairwise_lt_range.filter _) _

/-- A LAYOUT swap's event once the modules are those that are left. -/
def Work.layoutResized (n : Nat) (s : State) : Work :=
  let w := Work.layoutRemoved n s
  w.setFaults { w.faults with modules := (List.range n).map fun m => w.faults.modules.getD m .lit }

/-- A LAYOUT swap's event once the states of the modules are derived. -/
def Work.layoutDerived (n : Nat) (s : State) : Work :=
  { Work.layoutResized n s with st := (Work.layoutResized n s).st.deriveModules (List.range n) }

/-- A LAYOUT swap's event once CABINET_DARK has been evaluated. -/
def Work.layoutEvaluated (n : Nat) (s : State) : Work :=
  ((Work.layoutDerived n s).admitAll historyMax).recordConditions.evaluateDark

/-- A LAYOUT swap's event at its end. -/
def Work.layoutSettled (n : Nat) (s : State) : Work :=
  (Work.layoutEvaluated n s).settle (Work.layoutEvaluated n s).st.faults.blankedCount

theorem State.faultLayoutSwap_eq (s : State) :
    s.faultLayoutSwap = (Work.layoutSettled s.drive.geometry.modules s).closed := s.faultEvent_eq _

section

variable {n : Nat} {s : State}

theorem Work.layoutResized_st : (Work.layoutResized n s).st = { s with faults := { s.faults with
    records := (Work.layoutRemoved n s).st.faults.records, flaps := (Work.layoutRemoved n s).st.faults.flaps
    restoreQueue := s.faults.restoreQueue.filter fun m => m ∉ removedModules n
    modules := (List.range n).map fun m => s.faults.modules.getD m .lit } } := by
  have only := (Work.layoutRemoved_removes n s).only
  unfold Work.layoutResized Work.setFaults Work.faults
  generalize Work.layoutRemoved n s = w at *
  dsimp only
  rw [only]
  rfl

theorem Work.layoutResized_follows : (Work.layoutResized n s).Follows (Work.layoutSettled n s) :=
  .settle (.dark (.record (.admitAll _ (.deriveModules _ .refl)))) _

theorem Work.layoutResized_quiet (quiet : s.storage = []) : (Work.layoutResized n s).st.storage = [] := by
  rw [Work.layoutResized_st]
  exact quiet

theorem Work.layoutSettled_moves (quiet : s.storage = []) : (Work.layoutResized n s).Moves (Work.layoutSettled n s) :=
  Work.layoutResized_follows.moves (Work.layoutResized_quiet quiet)

theorem Work.layoutDerived_steps (quiet : s.storage = []) : (Work.layoutResized n s).Steps (Work.layoutDerived n s) :=
  Work.deriveModules_steps _ (Work.layoutResized_quiet quiet)

theorem Work.layoutDerived_derived (quiet : s.storage = []) : AllDerived (Work.layoutDerived n s).st := by
  refine State.deriveModules_derived _ (Work.layoutResized_quiet quiet) fun k x hk hx => absurd (List.mem_range.2 ?_) hk
  have lt := (List.getElem?_eq_some_iff.1 hx).1
  rw [Work.layoutResized_st] at lt
  simpa using lt

theorem Work.layoutSettled_only (quiet : s.storage = []) : OnlyFaults s (Work.layoutSettled n s).closed := by
  have only := Work.closed_only (Work.layoutSettled_moves (n := n) quiet).only
  rw [Work.layoutResized_st] at only
  exact only

theorem Work.layoutSettled_reportsGiven (quiet : s.storage = []) (some : (Work.layoutSettled n s).reports ≠ []) :
    ReportsGiven s (Work.layoutSettled n s).reports (Work.layoutSettled n s).closed := by
  have given := (Work.layoutSettled_moves (n := n) quiet).reportsGiven some
  rw [Work.layoutResized_st] at given
  exact given

theorem Work.layoutSettled_handed (quiet : s.storage = []) : s.handed <+: (Work.layoutSettled n s).closed.handed := by
  have handed := (Work.layoutSettled_moves (n := n) quiet).handed_prefix
  rw [Work.layoutResized_st] at handed
  exact handed

theorem Work.layoutSettled_modules (quiet : s.storage = []) : (Work.layoutSettled n s).st.faults.modules.length = n := by
  rw [(Work.layoutSettled_moves quiet).modules, Work.layoutResized_st]
  simp

/-- The flap counters of the removed modules are 0, and the others stay. -/
theorem Work.layoutSettled_flaps (quiet : s.storage = []) (length : s.faults.flaps.length = 128) :
    (Work.layoutSettled n s).st.faults.flaps.length = 128 ∧
    ∀ i, (Work.layoutSettled n s).st.faults.flaps.getD i 0 = if i < 4 * n then s.faults.flaps.getD i 0 else 0 := by
  have removes := Work.layoutRemoved_removes n s
  rw [(Work.layoutSettled_moves quiet).flaps, Work.layoutResized_st]
  refine ⟨removes.flapCount.trans length, fun i => (removes.flaps i).trans ?_⟩
  have removed : (∃ m ∈ removedModules n, 4 * m ≤ i ∧ i < 4 * m + 4) ↔ 4 * n ≤ i ∧ i < 128 := by
    simp only [mem_removedModules]
    exact ⟨fun ⟨m, h⟩ => by omega, fun h => ⟨i / 4, by omega⟩⟩
  simp only [removed]
  change (if _ then _ else s.faults.flaps.getD i 0) = _
  by_cases low : i < 4 * n
  · rw [if_neg (by omega), if_pos low]
  · by_cases high : i < 128
    · rw [if_pos (by omega), if_neg low]
    · rw [if_neg (by omega), if_neg low, List.getD_eq_default _ _ (by omega)]

/-! ## The records -/

theorem Work.layoutResized_fit (fit : s.faults.SlotsFit) : (Work.layoutResized n s).st.faults.SlotsFit := by
  have left := (Work.layoutRemoved_removes n s).fit fit
  rw [Work.layoutResized_st]
  exact left

/-- The records left are those of the cabinet and of the modules left. -/
theorem Work.mem_layoutResized (fit : s.faults.SlotsFit) (scopes : ∀ r ∈ s.faults.records, ∀ m, r.scope = some m → m < 32)
    {r : FaultRecord} : r ∈ (Work.layoutResized n s).st.faults.records ↔ r ∈ s.faults.records ∧ ¬ OfRemoved n r := by
  rw [Work.layoutResized_st]
  refine ((Work.layoutRemoved_removes n s).records fit r).trans (and_congr_right fun hr => ?_)
  simp only [mem_removedModules, OfRemoved]
  exact ⟨fun apart ⟨m, scope, le⟩ => apart m ⟨le, scopes r hr m scope⟩ scope, fun own m hm scope => own ⟨m, scope, hm.1⟩⟩

/-- What a LAYOUT swap leaves of the Fault Monitor. -/
theorem Work.layoutSettled_keeps (quiet : s.storage = []) (wf : s.faults.tableWf)
    (scopes : ∀ r ∈ s.faults.records, ∀ m, r.scope = some m → m < 32) :
    (∀ r ∈ (Work.layoutSettled n s).st.faults.records, ∀ m, r.scope = some m → m < n) ∧
    SwapKeeps s.faults (OfRemoved n) (Work.layoutSettled n s).st.faults ∧ AllDerived (Work.layoutSettled n s).st := by
  have fit := Faults.SlotsFit.of_tableWf wf
  have moves := Work.layoutSettled_moves (n := n) quiet
  have resized := Work.layoutResized_fit (n := n) fit
  obtain ⟨-, keep, fresh⟩ := moves.fit resized
  have mem {r : FaultRecord} := Work.mem_layoutResized (n := n) (r := r) fit scopes
  refine ⟨fun r hr m scope => ?_, ⟨fun r hr own => ?_, fun r hr => ?_, ?_, ?_⟩, ?_⟩
  · rcases fresh r hr with old | ⟨none, -⟩
    · exact Nat.lt_of_not_le fun le => (mem.1 old).2 ⟨m, scope, le⟩
    · rw [none] at scope
      cases scope
  · exact keep r (mem.2 ⟨hr, own⟩)
  · exact (fresh r hr).imp mem.1 And.right
  · rw [moves.affected, Work.layoutResized_st]
  · rw [moves.flags, Work.layoutResized_st]
  · have steps := Work.layoutDerived_steps (n := n) quiet
    have rest : (Work.layoutDerived n s).Follows (Work.layoutSettled n s) := .settle (.dark (.record (.admitAll _ .refl))) _
    exact (rest.moves (steps.storage.trans (Work.layoutResized_quiet quiet))).derived (steps.fit resized).1
      (Work.layoutDerived_derived quiet)

/-- The reports of the freed records come first, in module and slot order (R146). -/
theorem Work.layoutSettled_freed (quiet : s.storage = []) (wf : s.faults.tableWf)
    (scopes : ∀ r ∈ s.faults.records, ∀ m, r.scope = some m → m < 32) : ∃ freed : List FaultRecord,
    (∀ r, r ∈ freed ↔ r ∈ s.faults.records ∧ OfRemoved n r ∧ r.state ≠ .suspect) ∧
    freed.Pairwise (fun a b => ∀ m k, a.scope = some m → b.scope = some k → m < k ∨ (m = k ∧ a.slot < b.slot)) ∧
    (freed ≠ [] → ∃ more, .localReportDelivery
      ((freed.map fun r => ⟨.cleared, some r.kind, r.scope, r.detail⟩) ++ more) ∈
        (Work.layoutSettled n s).closed.handed) := by
  obtain ⟨freed, reports, mem, order⟩ := (Work.layoutRemoved_removes n s).gone (.of_tableWf wf)
  refine ⟨freed, fun r => (mem r).trans (and_congr_right fun hr => and_congr_left' ?_), order, fun some => ?_⟩
  · simp only [mem_removedModules, OfRemoved]
    exact ⟨fun ⟨m, hm, scope⟩ => ⟨m, scope, hm.1⟩, fun ⟨m, scope, le⟩ => ⟨m, ⟨le, scopes r hr m scope⟩, scope⟩⟩
  · obtain ⟨more, all⟩ := (Work.layoutSettled_moves (n := n) quiet).reports
    have first : (Work.layoutSettled n s).reports = freed.map FaultRecord.clearedReport ++ more := by
      rw [← all]
      exact congrArg (· ++ more) reports
    obtain ⟨notices, -, handed⟩ := Work.layoutSettled_reportsGiven (n := n) quiet (by
      rw [first]
      simp [some])
    refine ⟨more, ?_⟩
    rw [handed, first]
    exact List.mem_append_right _ (List.mem_singleton.2 rfl)

/-! ## CABINET_DARK and the conditions -/

theorem Work.layoutSettled_darkTold {e : State} (same : SameDimming e s) (quiet : e.storage = [])
    (valid : validate .ambient (e.table .ambient).active = none) : DarkTold e (Work.layoutSettled n s).closed := by
  obtain ⟨tables, stream, dimming, handed, flags, storage⟩ := same
  refine (Work.layoutSettled_moves (n := n) (storage.trans quiet)).darkTold ?_ quiet valid
  rw [Work.layoutResized_st]
  exact ⟨tables, stream, dimming, handed, flags, storage⟩

theorem Work.layoutResized_darkens : (Work.begun s).Darkens (Work.layoutResized n s) := by
  have removes := Work.layoutRemoved_removes n s
  refine .trans (v := Work.layoutRemoved n s) ?_ (.of_same rfl rfl rfl (List.prefix_refl _))
  have flags : (Work.layoutRemoved n s).st.faults.flags = s.faults.flags := by rw [removes.only]; rfl
  have holds (fit : s.faults.SlotsFit) (r : FaultRecord) : Holds (Work.layoutRemoved n s).st.faults none .cabinetDark r ↔
      Holds s.faults none .cabinetDark r := by
    unfold Holds
    rw [removes.records fit]
    exact ⟨fun ⟨⟨hr, _⟩, pair⟩ => ⟨hr, pair⟩, fun ⟨hr, pair⟩ => ⟨⟨hr, fun m _ scope => by simp [pair.1] at scope⟩, pair⟩⟩
  refine ⟨removes.reports, fun sound => ⟨removes.fit sound.fit, fun off r hr pair => ?_, fun q r hq hr => ?_⟩,
    fun sound seen on => ?_,
    fun sound r hr => .inl ((holds sound.fit r).2 hr)⟩
  · rw [flags] at off
    exact sound.off off r (removes.subset r hr) pair
  · exact sound.unique q r ((holds sound.fit q).1 hq) ((holds sound.fit r).1 hr)
  · rw [flags] at on
    rcases seen on with ⟨-, raised⟩ | ⟨none, room⟩
    · cases raised
    · refine .inr ⟨fun r hr => none r (removes.subset r hr), ?_⟩
      by_cases some : ∃ r ∈ s.faults.records, ∃ m ∈ removedModules n, r.scope = some m
      · exact .inl (removes.freed sound.fit (.inr some))
      · refine room.imp (fun freed => Bool.noConfusion freed) fun full m hm => ?_
        obtain ⟨r, hr, slot⟩ := full m hm
        exact ⟨r, (removes.records sound.fit r).2 ⟨hr, fun m hm scope => some ⟨r, hr, m, hm, scope⟩⟩, slot⟩

theorem Work.layoutSettled_darkRecorded (quiet : s.storage = []) (wf : s.faults.tableWf)
    (none : s.faults.flags.cabinetDark = false → HoldsNone s.faults none .cabinetDark) :
    DarkRecorded s (Work.layoutSettled n s).closed :=
  (Work.layoutResized_darkens.trans (Work.layoutResized_follows.darkens (Work.layoutResized_quiet quiet))).darkRecorded
    (Work.layoutSettled_reportsGiven quiet) (Work.settle_freed _ _) wf none

/-- Where a record of a removed module was freed, no condition that holds lacks its record while a slot is free (R135). -/
theorem Work.layoutSettled_examined (quiet : s.storage = []) (wf : s.faults.tableWf)
    (scopes : ∀ r ∈ s.faults.records, ∀ m, r.scope = some m → m < 32) (some : ∃ r ∈ s.faults.records, OfRemoved n r) :
    ∀ k ∈ conditionKinds, (Work.layoutSettled n s).st.faults.presentCondition k ≠ none →
      HoldsNone (Work.layoutSettled n s).st.faults none k → (Work.layoutSettled n s).st.faults.full := by
  have freed : (Work.layoutResized n s).freed = true := by
    obtain ⟨r, hr, m, scope, le⟩ := some
    exact (Work.layoutRemoved_removes n s).freed (.of_tableWf wf)
      (.inr ⟨r, hr, m, mem_removedModules.2 ⟨le, scopes r hr m scope⟩, scope⟩)
  have examined := Work.layoutResized_follows.examined (Work.layoutResized_quiet quiet) (.inl freed)
  exact examined.resolve_left (by rw [Work.layoutSettled, Work.settle_freed]; exact Bool.false_ne_true)

/-! ## The Dimming Controller -/

theorem Work.layoutDerived_fields (quiet : s.storage = []) :
    (Work.layoutDerived n s).st.faults.records = (Work.layoutResized n s).st.faults.records ∧
    (Work.layoutDerived n s).st.faults.lostDetections = s.faults.lostDetections ∧
    (Work.layoutDerived n s).st.faults.history = s.faults.history ∧
    (Work.layoutDerived n s).st.faults.flags = s.faults.flags ∧
    (Work.layoutDerived n s).st.faults.affected = s.faults.affected ∧
    (Work.layoutDerived n s).st.dimming = s.dimming := by
  have steps := Work.layoutDerived_steps (n := n) quiet
  obtain ⟨records, lost, history⟩ := State.deriveModules_records (List.range n) (Work.layoutResized_quiet (n := n) quiet)
  refine ⟨records, lost.trans ?_, history.trans ?_, steps.flags.trans ?_, steps.affected.trans ?_,
    steps.dimming.trans ?_⟩ <;>
    rw [Work.layoutResized_st]

/-- Where CABINET_DARK stands as before and no module is admitted, the controller is left. -/
theorem Work.layoutSettled_dimming (quiet : s.storage = []) : DimmingKept s (Work.layoutSettled n s).closed := by
  intro dark history
  obtain ⟨-, -, historyD, flagsD, -, dimmingD⟩ := Work.layoutDerived_fields (n := n) quiet
  have quietD := (Work.layoutDerived_steps (n := n) quiet).storage.trans (Work.layoutResized_quiet quiet)
  have admitted := (Work.Follows.admitAll (w := Work.layoutDerived n s) historyMax .refl).moves quietD
  have quietA := admitted.only.storage.trans quietD
  have recorded := Work.recordConditions_steps (w := (Work.layoutDerived n s).admitAll historyMax)
  have quietR := recorded.storage.trans quietA
  have evaluated := Work.evaluateDark_moves quietR
  have quietE := evaluated.only.storage.trans quietR
  have settled := (Work.Follows.settle (w := Work.layoutEvaluated n s) .refl
    (Work.layoutEvaluated n s).st.faults.blankedCount).moves quietE
  have whole : (Work.layoutSettled n s).st.faults.history = (Work.layoutDerived n s).st.faults.history :=
    history.trans historyD.symm
  have sameA := (admitted.history.eq_of_length_le (by
    rw [← whole]
    exact (recorded.history.trans (evaluated.history.trans settled.history)).length_le)).symm
  have sameE := ((admitted.history.trans (recorded.history.trans evaluated.history)).eq_of_length_le (by
    rw [← whole]
    exact settled.history.length_le)).symm
  have none := Work.admitAll_of_history quietD sameA
  have ended : Work.layoutSettled n s = (Work.layoutEvaluated n s).recordConditions := by
    have settled := Work.settle_of_history (w := Work.layoutEvaluated n s) quietE (whole.trans sameE.symm)
    rwa [if_pos rfl] at settled
  obtain ⟨_, -, last⟩ := (Work.layoutEvaluated n s).recordConditions_records
  rw [Work.closed_faults, ended, last] at dark
  rw [Work.closed_dimming, ended, last]
  have flags : ((Work.layoutDerived n s).admitAll historyMax).recordConditions.st.faults.flags = s.faults.flags := by
    rw [recorded.flags, none, flagsD]
  have same := Work.evaluateDark_same quietR (dark.trans (congrArg ConditionFlags.cabinetDark flags).symm)
  change (Work.layoutEvaluated n s).st.dimming = s.dimming
  rw [Work.layoutEvaluated, same, recorded.dimming, none, dimmingD]

/-! ## Swaps with room for CABINET_DARK's record -/

theorem Work.layoutDerived_calm (quiet : s.storage = []) (wf : s.faults.tableWf) (room : s.faults.roomForDark) :
    (Work.layoutDerived n s).Calm := by
  have fit := Faults.SlotsFit.of_tableWf wf
  have steps := Work.layoutDerived_steps (n := n) quiet
  obtain ⟨records, -, -, flags, -⟩ := Work.layoutDerived_fields (n := n) quiet
  have resized := Work.layoutResized_fit (n := n) fit
  refine ⟨steps.storage.trans (Work.layoutResized_quiet quiet), (steps.fit resized).1, Work.layoutDerived_derived quiet, ?_⟩
  rcases room with ⟨k, free⟩ | on
  · cases slot : (Work.layoutDerived n s).st.faults.freeSlot with
    | some k => exact .inl ⟨k, Faults.freeSlot_some slot⟩
    | none =>
      refine absurd (fun m hm => ?_) free.not_full
      obtain ⟨r, hr, e⟩ := Faults.freeSlot_none slot m hm
      rw [records, Work.layoutResized_st] at hr
      exact ⟨r, (Work.layoutRemoved_removes n s).subset r hr, e⟩
  · exact .inr (.inl (by rw [flags, on]))

theorem Work.layoutDerived_recorded (quiet : s.storage = []) (wf : s.faults.tableWf)
    (recorded : s.faults.Recorded) : (Work.layoutDerived n s).st.faults.Recorded := by
  have fit := Faults.SlotsFit.of_tableWf wf
  obtain ⟨records, -, -, flags, affected, -⟩ := Work.layoutDerived_fields (n := n) quiet
  have cabinet : ∀ r ∈ s.faults.records, r.scope = none → r ∈ (Work.layoutDerived n s).st.faults.records := by
    intro r hr scope
    rw [records, Work.layoutResized_st]
    exact ((Work.layoutRemoved_removes n s).records fit r).2 ⟨hr, fun m _ e => by simp [scope] at e⟩
  refine recorded.of_kept (by rw [flags]) affected (fun r hr _ scope => cabinet r hr scope) fun on lacks => ?_
  rw [flags] at on
  refine recorded .cabinetDark (by decide) .absent (by simp [Faults.presentCondition, on]) fun r hr pair => ?_
  exact lacks r (cabinet r hr pair.1) pair

/-- With room and every condition recorded, no record is evicted, and CABINET_DARK ends as the blanked count has it. -/
theorem Work.layoutSettled_room (quiet : s.storage = []) (wf : s.faults.tableWf) (room : s.faults.roomForDark)
    (recorded : s.faults.Recorded) : (Work.layoutDerived n s).Spares (Work.layoutSettled n s) ∧
      (Work.layoutSettled n s).st.DarkExact := by
  have calm := Work.layoutDerived_calm (n := n) quiet wf room
  obtain ⟨admitted, -⟩ := calm.admitAll historyMax
  have calmA := calm.eases admitted
  have same := Work.recordConditions_of_recorded
    (admitted.spares.recorded calm.fit (Work.layoutDerived_recorded (n := n) quiet wf recorded))
  have calmR := calmA.of_st same
  have evaluated := calmR.evaluateDark
  have calmE := calmR.eases evaluated
  obtain ⟨settled, exact⟩ := calmE.settle (Work.layoutEvaluated n s).st.faults.blankedCount
  have toR := admitted.spares.trans (fun _ => calmA.fit) (Work.recordConditions_spares _)
  exact ⟨(toR.trans (fun _ => calmR.fit) evaluated.spares).trans (fun _ => calmE.fit) settled,
    exact (Work.evaluateDark_exact calmR.quiet calmR.room) rfl⟩

theorem moduleStatusOf_blanked {as : List Action} {waiting : Bool} (h : (moduleStatusOf as waiting).state = .blanked) :
    blanks as = true := by
  unfold moduleStatusOf at h
  split at h
  · assumption
  · split at h
    · cases h
    · split at h <;> cases h

/-- The queue stays where each BLANKED module has a record that blanks it, and none that waits has. -/
theorem State.deriveModules_queue (l : List Nat) : ∀ {s : State}, s.storage = [] →
    (∀ m, s.faults.isBlanked m = true → blanks (s.actionsOf m) = true) →
    (∀ m ∈ s.faults.restoreQueue, blanks (s.actionsOf m) = false) →
    (s.deriveModules l).faults.restoreQueue = s.faults.restoreQueue := by
  induction l with
  | nil => exact fun _ _ _ => rfl
  | cons m ms ih =>
    intro s quiet blanked waiting
    have derived := State.deriveModule_quiet quiet m
    have queue : (s.deriveModule m).faults.restoreQueue = s.faults.restoreQueue := by
      rw [derived]
      change restoreQueueOf s.faults.restoreQueue m (s.faults.isBlanked m) (blanks (s.actionsOf m)) = _
      cases blank : blanks (s.actionsOf m) with
      | true =>
        refine List.filter_eq_self.2 fun k hk => bne_iff_ne.2 ?_
        rintro rfl
        rw [waiting k hk] at blank
        cases blank
      | false =>
        have lit : s.faults.isBlanked m = false := Bool.eq_false_iff.2 fun h => by
          rw [blanked m h] at blank
          cases blank
        rw [lit]
        rfl
    have actions : ∀ k, (s.deriveModule m).actionsOf k = s.actionsOf k := by
      intro k
      rw [derived]
      rfl
    rw [State.deriveModules, ih (by rw [derived]; exact quiet) (fun k hk => ?_) fun k hk => ?_, queue]
    · rw [actions]
      by_cases e : k = m
      · subst e
        unfold Faults.isBlanked at hk
        split at hk
        · next x hx =>
          rw [derived] at hx
          obtain ⟨_, rfl⟩ : k < s.faults.modules.length ∧ _ = x := by
            simpa [Faults.derived, List.getElem?_set, Option.ite_none_right_eq_some] using hx
          exact moduleStatusOf_blanked (beq_iff_eq.1 hk)
        · cases hk
      · refine blanked k ?_
        unfold Faults.isBlanked at hk ⊢
        rwa [(State.deriveModule_other quiet e).1] at hk
    · rw [queue] at hk
      rw [actions]
      exact waiting k hk

theorem ModuleDerived.blanks_of_blanked {m : Nat} {x : ModuleStatus} (h : ModuleDerived s m x)
    (blanked : x.state = .blanked) :
    blanks (s.actionsOf m) = true := by
  obtain ⟨-, wait, derate, lit⟩ := h
  rw [State.blanks_actionsOf]
  by_contra two
  by_cases queued : m ∈ s.faults.restoreQueue
  · simp [wait two queued] at blanked
  · by_cases one : ∃ r ∈ s.faults.records, ActsOn r m ∧ s.presentOrDefault .policy (27 + r.kind.code) = 1
    · simp [(derate two queued one).1] at blanked
    · simp [lit two queued one] at blanked

/-- The places of the modules left stay in the restore queue at their deriving. -/
theorem Work.layoutDerived_queue (quiet : s.storage = []) (wf : s.faults.tableWf)
    (scopes : ∀ r ∈ s.faults.records, ∀ m, r.scope = some m → m < 32) (derived : AllDerived s)
    (waiting : ∀ m ∈ s.faults.restoreQueue, m < 32 ∧ ∃ x, s.faults.modules[m]? = some x ∧ x.state = .restoreWait) :
    (Work.layoutDerived n s).st.faults.restoreQueue = s.faults.restoreQueue.filter (fun m => m < n) := by
  have left : (Work.layoutResized n s).st.faults.restoreQueue = s.faults.restoreQueue.filter (fun m => m < n) := by
    rw [Work.layoutResized_st]
    refine List.filter_congr fun m hm => ?_
    have := (waiting m hm).1
    simp only [mem_removedModules, decide_eq_decide]
    omega
  have mem {r : FaultRecord} := Work.mem_layoutResized (n := n) (r := r) (.of_tableWf wf) scopes
  have policy : ∀ i, (Work.layoutResized n s).st.presentOrDefault .policy i = s.presentOrDefault .policy i := by
    rw [Work.layoutResized_st]
    exact fun _ => rfl
  refine (State.deriveModules_queue _ (Work.layoutResized_quiet quiet) (fun m blanked => ?_) fun m hm => ?_).trans left
  · obtain ⟨low, x, hx, state⟩ : m < n ∧ ∃ x, s.faults.modules[m]? = some x ∧ x.state = .blanked := by
      unfold Faults.isBlanked at blanked
      rw [Work.layoutResized_st] at blanked
      split at blanked
      · next x hx =>
        rw [List.getElem?_map, Option.map_eq_some_iff] at hx
        obtain ⟨k, hk, rfl⟩ := hx
        obtain ⟨low, e⟩ := List.getElem?_eq_some_iff.1 hk
        obtain rfl : m = k := by simpa using e
        have state := beq_iff_eq.1 blanked
        rw [List.getD_eq_getElem?_getD] at state
        cases hm : s.faults.modules[m]? with
        | none => simp [hm, ModuleStatus.lit] at state
        | some x => exact ⟨by simpa using low, x, rfl, by simpa [hm] using state⟩
      · cases blanked
    obtain ⟨r, hr, acts, two⟩ := State.blanks_actionsOf.1 ((derived m x hx).blanks_of_blanked state)
    refine State.blanks_actionsOf.2 ⟨r, mem.2 ⟨hr, fun ⟨k, scope, le⟩ => ?_⟩, acts, (policy _).trans two⟩
    rw [acts.1] at scope
    obtain rfl := Option.some.inj scope
    omega
  · rw [left] at hm
    obtain ⟨-, x, hx, state⟩ := waiting m (List.mem_filter.1 hm).1
    refine Bool.eq_false_iff.2 fun blank => ?_
    obtain ⟨r, hr, acts, two⟩ := State.blanks_actionsOf.1 blank
    have blanked := (derived m x hx).1 ⟨r, (mem.1 hr).1, acts, (policy _).symm.trans two⟩
    rw [state] at blanked
    cases blanked

/-- Where no module is admitted, the queue and the history stay but for the removed modules. -/
theorem Work.layoutSettled_queue (quiet : s.storage = []) (wf : s.faults.tableWf)
    (scopes : ∀ r ∈ s.faults.records, ∀ m, r.scope = some m → m < 32) (room : s.faults.roomForDark)
    (recorded : s.faults.Recorded) (rest : s.faults.restoreQueue = [] ∨ s.faults.history.length = 4)
    (derived : AllDerived s)
    (waiting : ∀ m ∈ s.faults.restoreQueue, m < 32 ∧ ∃ x, s.faults.modules[m]? = some x ∧ x.state = .restoreWait) :
    (Work.layoutSettled n s).st.faults.restoreQueue = s.faults.restoreQueue.filter (fun m => m < n) ∧
      (Work.layoutSettled n s).st.faults.history = s.faults.history := by
  have calm := Work.layoutDerived_calm (n := n) quiet wf room
  have queue := Work.layoutDerived_queue (n := n) quiet wf scopes derived waiting
  have history := (Work.layoutDerived_fields (n := n) quiet).2.2.1
  have restD : (Work.layoutDerived n s).st.faults.restoreQueue = [] ∨
      (Work.layoutDerived n s).st.faults.history.length = 4 := by
    rw [queue, history]
    exact rest.imp_left fun none => by rw [none]; rfl
  have same := Work.recordConditions_of_recorded (Work.layoutDerived_recorded (n := n) quiet wf recorded)
  have evaluated : Work.layoutEvaluated n s = (Work.layoutDerived n s).recordConditions.evaluateDark := by
    rw [Work.layoutEvaluated, Work.admitAll_atRest restD]
  have calmR := calm.of_st same
  have spared := Work.evaluateDark_spared calmR.quiet calmR.room
  have queueE : (Work.layoutEvaluated n s).st.faults.restoreQueue = (Work.layoutDerived n s).st.faults.restoreQueue := by
    rw [evaluated, spared.queue, same]
  have historyE : (Work.layoutEvaluated n s).st.faults.history = (Work.layoutDerived n s).st.faults.history := by
    rw [evaluated, spared.history, same]
  have settled : Work.layoutSettled n s = (Work.layoutEvaluated n s).recordConditions :=
    Work.settle_atRest (by rw [queueE, historyE]; exact restD) rfl
  obtain ⟨_, -, last⟩ := (Work.layoutEvaluated n s).recordConditions_records
  rw [settled, last]
  exact ⟨queueE.trans queue, historyE.trans history⟩

/-- Two states that are one to the blocks that no LAYOUT swap changes before it comes to the Fault Monitor. -/
def OnlyBlocks (e d : State) : Prop :=
  d = { e with drive := d.drive, capture := d.capture, trims := d.trims, out := d.out }

theorem DarkRecorded.of_same {u v t : State} (h : DarkRecorded u t) (faults : v.faults = u.faults)
    (handed : v.handed = u.handed) :
    DarkRecorded v t := by
  unfold DarkRecorded ReportsGiven at *
  rwa [faults, handed]

/-- The Fault Monitor at a swap of LAYOUT alone, whose faults are those of `s` (R135, R138, R142, R146). -/
theorem State.faultLayoutSwap_alone {s e d : State} (quiet : e.storage = [])
    (valid : validate .ambient (e.table .ambient).active = none) (faults : e.faults = s.faults)
    (policy : e.table .policy = s.table .policy) (blocks : OnlyBlocks e d) :
    LayoutSwappedAlone s e d.faultLayoutSwap := by
  have same : SameDimming e d := by
    rw [blocks]
    exact ⟨rfl, rfl, rfl, rfl, rfl, rfl⟩
  have faultsE : d.faults = e.faults := by rw [blocks]
  have quietD : d.storage = [] := same.2.2.2.2.2.trans quiet
  have faultsD : d.faults = s.faults := faultsE.trans faults
  have policyD : d.table .policy = s.table .policy := by
    rw [← policy, blocks]
    rfl
  rw [State.faultLayoutSwap_eq]
  generalize hn : d.drive.geometry.modules = n
  have count : (Work.layoutSettled n d).closed.drive.geometry.modules = n := by
    rw [Work.layoutSettled_only quietD, ← hn]
  unfold LayoutSwappedAlone
  simp only [count]
  rw [← faultsD]
  refine ⟨⟨fun dark history => ?_, Work.layoutSettled_darkTold same quiet valid⟩,
    fun wf scopes => ⟨fun none => ?_, fun ⟨rest, recorded⟩ room => ?_, Work.layoutSettled_examined quietD wf scopes⟩⟩
  · rw [← faultsE] at dark history
    exact (Work.layoutSettled_dimming quietD dark history).trans same.2.2.1
  · exact (Work.layoutSettled_darkRecorded quietD wf none).of_same faultsE.symm same.2.2.2.1.symm
  · obtain ⟨-, swapKeeps, -⟩ := Work.layoutSettled_keeps (n := n) quietD wf scopes
    obtain ⟨spares, exact⟩ := Work.layoutSettled_room (n := n) quietD wf room recorded
    obtain ⟨records, lost, -⟩ := Work.layoutDerived_fields (n := n) quietD
    have fit := (Work.layoutDerived_calm (n := n) quietD wf room).fit
    refine ⟨⟨fun r hr own other => ?_, swapKeeps.2.1⟩, spares.lost.trans lost, ?_, fun derived waiting => ?_⟩
    · exact spares.records fit r (records ▸ (Work.mem_layoutResized (.of_tableWf wf) scopes).2 ⟨hr, own⟩) other
    · rw [State.blankedNow_eq]
      exact exact
    · have derivedD : AllDerived d := by
        intro m x hx
        refine (derived m x hx).congr (fun i => ?_) (fun r => by rw [faultsD]) (by rw [faultsD])
        unfold State.presentOrDefault State.present
        rw [policyD]
      rw [Work.closed_faults]
      exact Work.layoutSettled_queue (n := n) quietD wf scopes room recorded rest derivedD waiting

end

end Sys2Proof.Machine
end

section
/-! SUPPORT. The steps of one swap (R174) while the storage shows no error: the bank becomes active, the end of UNCONFIGURED,
and what the blocks that act on the table leave. -/

namespace Sys2Proof.Machine

/-! ## Steps 1 to 6 -/

/-- Steps 1 to 4: the bank is active without marks, and the end of TABLE_ECC is handed over (R174). -/
def State.swapBase (s : State) (x : Table) (bank : List Word) : State :=
  { s.setTable x ⟨bank, .clean, (s.table x).generation + 1, []⟩ with
    handed := s.handed ++ (if (s.table x).bad = [] then [] else [.tableEccDelivery x false]) }

/-- Step 5: at a swap of LAYOUT the layout-missing and the store-invalid flag are cleared (R174, R192). -/
def State.swapTold (s : State) (x : Table) (bank : List Word) : State :=
  if x = .layout then (s.swapBase x bank).layoutTold else s.swapBase x bank

/-- Step 6: where the swap ends UNCONFIGURED, T is recomputed (R68, R70, R174). -/
def State.swapLit (s : State) (x : Table) (bank : List Word) : State :=
  if s.unconfigured && !(s.swapTold x bank).unconfigured then (s.swapTold x bank).recompute else s.swapTold x bank

section

variable {s : State} {x : Table} {bank : List Word}

theorem State.swapBase_eq : (s.setTable x ((s.table x).swapped bank)).endTableEcc x (s.table x).bad = s.swapBase x bank := by
  unfold State.endTableEcc State.swapBase TableRec.swapped
  cases bad : (s.table x).bad with
  | nil => simp [State.setTable]
  | cons i is => rfl

theorem State.swapTable_eq (s : State) (x : Table) (bank : List Word) :
    s.swapTable x bank = (s.swapLit x bank).actAtSwap x := by
  unfold State.swapTable
  rw [State.swapBase_eq]
  rfl

theorem State.layoutTold_eq (s : State) : s.layoutTold = { s with
    tables := { s.tables with layoutMissing := false }
    agent := { s.agent with storeInvalid := false }
    handed := s.handed ++ (if s.agent.storeInvalid then [.conditionDelivery .storeInvalid false] else []) } := by
  unfold State.layoutTold State.endStoreInvalid
  dsimp only
  split
  · simp [State.hand]
  · next clear =>
    have off : s.agent.storeInvalid = false := by simpa using clear
    have agent : ({ s.agent with storeInvalid := false } : Agent) = s.agent := by rw [← off]
    rw [agent]
    simp

theorem State.swapBase_table (y : Table) : (s.swapBase x bank).table y =
    if y = x then ⟨bank, .clean, (s.table x).generation + 1, []⟩ else s.table y :=
  State.setTable_table s x y _

theorem State.swapTold_layout : s.swapTold .layout bank = (s.swapBase .layout bank).layoutTold := rfl

theorem State.swapTold_other (h : x ≠ .layout) : s.swapTold x bank = s.swapBase x bank := if_neg h

theorem State.swapTold_table (y : Table) : (s.swapTold x bank).table y = (s.swapBase x bank).table y := by
  unfold State.swapTold
  split
  · rw [State.layoutTold_eq]
    rfl
  · rfl

theorem State.swapTold_fields : (s.swapTold x bank).storage = s.storage ∧ (s.swapTold x bank).faults = s.faults ∧
    (s.swapTold x bank).dimming = s.dimming ∧ (s.swapTold x bank).started = s.started := by
  unfold State.swapTold
  split
  · rw [State.layoutTold_eq]
    exact ⟨rfl, rfl, rfl, rfl⟩
  · exact ⟨rfl, rfl, rfl, rfl⟩

theorem State.swapTold_handed : s.handed <+: (s.swapTold x bank).handed := by
  unfold State.swapTold
  split
  · rw [State.layoutTold_eq]
    exact (List.prefix_append ..).trans (List.prefix_append ..)
  · exact List.prefix_append ..

/-- Step 6 as the requirements have it. -/
theorem State.swapLit_unconfigured (quiet : s.storage = [])
    (valid : validate .ambient ((s.swapTold x bank).table .ambient).active = none) :
    UnconfiguredEnded s (s.swapTold x bank) (s.swapLit x bank) := by
  have quiet' : (s.swapTold x bank).storage = [] := State.swapTold_fields.1.trans quiet
  refine ⟨fun on off => ?_, fun stays => ?_⟩
  · unfold State.swapLit
    rw [on, off]
    exact State.recompute_recomputed quiet' valid
  · unfold State.swapLit
    refine if_neg fun h => ?_
    rcases stays with off | on
    · simp [off] at h
    · simp [on] at h

theorem State.swapLit_unconfigured_other (quiet : s.storage = []) (other : x ≠ .layout)
    (valid : validate .ambient ((s.swapBase x bank).table .ambient).active = none) :
    UnconfiguredEnded s (s.swapBase x bank) (s.swapLit x bank) := by
  rw [← State.swapTold_other other] at valid ⊢
  exact State.swapLit_unconfigured quiet valid

/-- Step 6 touches the Dimming Controller alone. -/
theorem State.swapLit_eq (quiet : s.storage = []) :
    s.swapLit x bank = { s.swapTold x bank with dimming := (s.swapLit x bank).dimming } := by
  unfold State.swapLit
  split
  · rw [State.recompute_quiet (State.swapTold_fields.1.trans quiet)]
    rfl
  · rfl

end

/-! ## What the steps set -/

/-- A step that sets the controller, the ceiling and its source, and hands commands over. -/
structure State.Sets (s t : State) : Prop where
  frame : t = { s with
    time := { s.time with ceiling := t.time.ceiling, source := t.time.source }, dimming := t.dimming, handed := t.handed }
  handed : s.handed <+: t.handed

theorem State.Sets.refl (s : State) : s.Sets s := ⟨rfl, List.prefix_refl _⟩

theorem State.Sets.trans {s t u : State} (h : s.Sets t) (k : t.Sets u) : s.Sets u :=
  ⟨by rw [k.frame, h.frame], h.handed.trans k.handed⟩

section

variable {s t : State}

theorem State.Sets.storage (h : s.Sets t) : t.storage = s.storage := by rw [h.frame]

theorem State.Sets.tables (h : s.Sets t) : t.tables = s.tables := by rw [h.frame]

theorem State.Sets.faults (h : s.Sets t) : t.faults = s.faults := by rw [h.frame]

theorem State.recompute_sets (quiet : s.storage = []) : s.Sets s.recompute := by
  rw [State.recompute_quiet quiet]
  exact ⟨rfl, List.prefix_refl _⟩

theorem State.lowerLevel_sets (s : State) (l : Nat) : s.Sets (s.lowerLevel l) := by
  rw [State.lowerLevel_lowered s l]
  exact ⟨rfl, List.prefix_append ..⟩

theorem State.clampLevel_sets (s : State) (c : Nat) : s.Sets (s.clampLevel c) := by
  have held : s.Sets { s with dimming := { s.dimming with ceiling := c } } := ⟨rfl, List.prefix_refl _⟩
  unfold State.clampLevel
  dsimp only
  split
  · exact held.trans (State.lowerLevel_sets _ c)
  · exact held

theorem State.ceilingEvent_sets (quiet : s.storage = []) : s.Sets s.ceilingEvent := by
  have evaluated : s.Sets s.evaluateCeiling := by
    rw [State.evaluateCeiling_quiet quiet]
    exact ⟨rfl, List.prefix_refl _⟩
  unfold State.ceilingEvent
  dsimp only
  split
  · exact evaluated
  · have clamped := State.clampLevel_sets s.evaluateCeiling s.evaluateCeiling.time.ceiling
    exact evaluated.trans (clamped.trans (State.recompute_sets (clamped.storage.trans (evaluated.storage.trans quiet))))

end

/-! ## A swap of a table other than LAYOUT -/

/-- What a swap of a table other than LAYOUT leaves. -/
structure SwapRest (s t : State) : Prop where
  frame : t = { s with
    tables := { s.tables with banks := t.tables.banks }
    time := { s.time with ceiling := t.time.ceiling, source := t.time.source }
    dimming := t.dimming, faults := t.faults, handed := t.handed }
  handed : s.handed <+: t.handed
  flags : t.faults.flags = { s.faults.flags with cabinetDark := t.faults.flags.cabinetDark }
  flaps : t.faults.flaps = s.faults.flaps
  affected : t.faults.affected = s.faults.affected
  modules : t.faults.modules.length = s.faults.modules.length
  fit : s.faults.SlotsFit → t.faults.SlotsFit ∧
    (∀ r ∈ s.faults.records, r.kind ≠ .cabinetDark → r.state = .active ∨ r.state = .latched → r ∈ t.faults.records) ∧
    (∀ r ∈ t.faults.records, r ∈ s.faults.records ∨ (r.scope = none ∧ r.kind.debounced = false))

/-- The modules keep the states that R138 gives them. -/
def KeepsDerived (s t : State) : Prop := s.faults.SlotsFit → AllDerived s → AllDerived t

section

variable {s t u : State}

theorem SwapRest.of_faults (frame : t = { s with
      tables := { s.tables with banks := t.tables.banks }
      time := { s.time with ceiling := t.time.ceiling, source := t.time.source }
      dimming := t.dimming, faults := t.faults, handed := t.handed })
    (handed : s.handed <+: t.handed) (faults : t.faults = s.faults) : SwapRest s t :=
  ⟨frame, handed, by rw [faults], by rw [faults], by rw [faults], by rw [faults],
    fun fit => by rw [faults]; exact ⟨fit, fun _ hr _ _ => hr, fun _ => .inl⟩⟩

theorem SwapRest.refl (s : State) : SwapRest s s := .of_faults rfl (List.prefix_refl _) rfl

theorem SwapRest.trans (h : SwapRest s t) (k : SwapRest t u) : SwapRest s u where
  frame := by rw [k.frame, h.frame]
  handed := h.handed.trans k.handed
  flags := by rw [k.flags, h.flags]
  flaps := k.flaps.trans h.flaps
  affected := k.affected.trans h.affected
  modules := k.modules.trans h.modules
  fit fit := by
    obtain ⟨fit, keep, fresh⟩ := h.fit fit
    obtain ⟨fit', keep', fresh'⟩ := k.fit fit
    refine ⟨fit', fun r hr hk hs => keep' r (keep r hr hk hs) hk hs, fun r hr => ?_⟩
    rcases fresh' r hr with hr | new
    · exact fresh r hr
    · exact .inr new

/-- No other block is touched by such a swap. -/
theorem SwapRest.blocks (h : SwapRest s t) : t.capture = s.capture ∧ t.trims = s.trims ∧ t.drive = s.drive ∧
    t.agent = s.agent ∧ t.out = s.out ∧ t.tables.layoutMissing = s.tables.layoutMissing := by
  rw [h.frame]
  exact ⟨rfl, rfl, rfl, rfl, rfl, rfl⟩

theorem SwapRest.storage (h : SwapRest s t) : t.storage = s.storage := by rw [h.frame]

theorem State.Sets.rest (h : s.Sets t) : SwapRest s t :=
  .of_faults (by rw [h.frame]) h.handed h.faults

theorem State.Sets.keepsDerived (h : s.Sets t) : KeepsDerived s t := fun _ all =>
  all.of_same (by unfold State.table; rw [h.tables]) (fun r m => by rw [h.faults]) (by rw [h.faults]) (by rw [h.faults])

theorem Work.Moves.rest {w : Work} (h : (Work.begun s).Moves w) : SwapRest s w.closed where
  frame := by
    have only := Work.closed_only h.only
    rw [only]
    rfl
  handed := h.handed_prefix
  flags := h.flags
  flaps := h.flaps
  affected := h.affected
  modules := h.modules
  fit := h.fit

theorem Work.Moves.keepsDerived {w : Work} (h : (Work.begun s).Moves w) : KeepsDerived s w.closed := fun fit all =>
  Work.closed_derived (h.derived fit all)

theorem State.swapBase_rest (s : State) (x : Table) (bank : List Word) : SwapRest s (s.swapBase x bank) :=
  .of_faults rfl (List.prefix_append ..) rfl

theorem State.swapBase_keepsDerived {x : Table} (other : x ≠ .policy) (bank : List Word) :
    KeepsDerived s (s.swapBase x bank) := fun _ all =>
  all.of_same ((State.swapBase_table _).trans (if_neg other.symm)) (fun _ _ => Iff.rfl) rfl rfl

theorem State.swapLit_sets {x : Table} (other : x ≠ .layout) (quiet : s.storage = []) (bank : List Word) :
    (s.swapBase x bank).Sets (s.swapLit x bank) := by
  have told : s.swapTold x bank = s.swapBase x bank := State.swapTold_other other
  unfold State.swapLit
  rw [told]
  split
  · exact State.recompute_sets quiet
  · exact .refl _

/-- The blocks that act at a swap of another table than LAYOUT (R174, step 7). -/
theorem State.actAtSwap_rest (quiet : s.storage = []) {x : Table} (other : x ≠ .layout) : SwapRest s (s.actAtSwap x) := by
  cases x with
  | layout => exact absurd rfl other
  | ambient => exact (State.recompute_sets quiet).rest
  | schedule => exact (State.ceilingEvent_sets quiet).rest
  | limits =>
    have event := State.ceilingEvent_sets quiet
    have set := event.trans (State.recompute_sets (event.storage.trans quiet))
    refine set.rest.trans ?_
    change SwapRest _ (State.faultLimitsSwap _)
    rw [State.faultLimitsSwap_eq]
    exact ((State.faultLimitsSwap_follows _).moves (set.storage.trans quiet)).rest
  | policy =>
    change SwapRest _ s.faultPolicySwap
    rw [State.faultPolicySwap_eq]
    exact (s.faultPolicySwap_follows.moves quiet).rest
  | gamma => exact .refl s
  | calibration => exact .refl s
  | groups => exact .refl s

theorem State.actAtSwap_keepsDerived (quiet : s.storage = []) {x : Table} (other : x ≠ .layout) :
    KeepsDerived s (s.actAtSwap x) := by
  cases x with
  | layout => exact absurd rfl other
  | ambient => exact (State.recompute_sets quiet).keepsDerived
  | schedule => exact (State.ceilingEvent_sets quiet).keepsDerived
  | limits =>
    have event := State.ceilingEvent_sets quiet
    have set := event.trans (State.recompute_sets (event.storage.trans quiet))
    have monitored := ((State.faultLimitsSwap_follows s.ceilingEvent.recompute).moves (set.storage.trans quiet)).keepsDerived
    rw [← State.faultLimitsSwap_eq] at monitored
    exact fun fit all => monitored (by rw [set.faults]; exact fit) (set.keepsDerived fit all)
  | policy =>
    have monitored := (s.faultPolicySwap_follows.moves quiet).keepsDerived
    rwa [← State.faultPolicySwap_eq] at monitored
  | gamma => exact fun _ all => all
  | calibration => exact fun _ all => all
  | groups => exact fun _ all => all

/-- At a swap of POLICY every module's state is derived anew, whatever it was. -/
theorem State.faultPolicySwap_derived (quiet : s.storage = []) (fit : s.faults.SlotsFit) : AllDerived s.faultPolicySwap := by
  have steps := Work.derivedAnew_steps quiet
  have settled := (Work.Follows.settle (w := Work.derivedAnew s) .refl s.faults.blankedCount).moves
    (steps.storage.trans quiet)
  rw [State.faultPolicySwap_eq]
  exact Work.closed_derived (settled.derived (steps.fit fit).1 (Work.derivedAnew_derived quiet))

theorem State.swapTable_rest (quiet : s.storage = []) {x : Table} (other : x ≠ .layout) (bank : List Word) :
    SwapRest s (s.swapTable x bank) := by
  have set := State.swapLit_sets other quiet bank
  rw [State.swapTable_eq]
  exact (s.swapBase_rest x bank).trans (set.rest.trans (State.actAtSwap_rest (set.storage.trans quiet) other))

theorem State.swapTable_keepsDerived (quiet : s.storage = []) {x : Table} (other : x ≠ .layout) (bank : List Word) :
    KeepsDerived s (s.swapTable x bank) := by
  have set := State.swapLit_sets other quiet bank
  have quiet' := set.storage.trans quiet
  rw [State.swapTable_eq]
  intro fit all
  have fit' : (s.swapLit x bank).faults.SlotsFit := by
    rw [set.faults]
    exact fit
  by_cases policy : x = .policy
  · subst policy
    exact State.faultPolicySwap_derived quiet' fit'
  · exact State.actAtSwap_keepsDerived quiet' other fit'
      (set.keepsDerived fit (State.swapBase_keepsDerived policy bank fit all))

end

end Sys2Proof.Machine
end

section
/-! SUPPORT. A swap of LAYOUT: the new geometry, the end of the pass, the EMPTY DISPLAY, the trims, and the Fault Monitor
(R39, R58, R99, R103, R146, R174). -/

namespace Sys2Proof.Machine

/-! ## The Drive Port, Frame Capture and the trims -/

/-- The geometry that the active LAYOUT bank and its bad marks give (R99). -/
def State.geometryNow (s : State) : DriveGeometry :=
  driveGeometryOf (((List.range 7).map (· + 4)).map (s.present .layout))

theorem State.geometryNow_taken {s : State} (sound : (s.table .layout).bad = []) :
    GeometryTaken (s.table .layout).active [] s.geometryNow := by
  refine ⟨fun _ => ?_, fun ⟨i, _, _, bad⟩ => by simp at bad⟩
  have present : s.present .layout = fun i => some (entry (s.table .layout).active i) := by
    funext i
    simp [State.present, sound]
  unfold State.geometryNow
  rw [present]
  rfl

/-- The blocks that act at a LAYOUT swap before the Fault Monitor. -/
def State.layoutBlocks (s : State) : State :=
  let d := s.driveLayoutSwap
  { d with
    capture := d.capture.layoutSwap
    trims := zeroRemovedTrims d.trims s.drive.geometry.modules d.drive.geometry.modules }

theorem State.actAtSwap_layout (s : State) : s.actAtSwap .layout = s.layoutBlocks.faultLayoutSwap := by
  unfold State.actAtSwap State.layoutBlocks
  dsimp only

/-- The Drive Port as a LAYOUT swap leaves it with the geometry `g` (R103). -/
def Drive.relaid (d : Drive) (g : DriveGeometry) : Drive :=
  { d with
    geometry := g, position := 0, startLine := 0, unemitted := none
    sweepPointer := if g.modules ≤ d.sweepPointer then 0 else d.sweepPointer
    inFlight := d.inFlight.filter fun p => p.module < g.modules }

theorem State.layoutBlocks_eq {s : State} (quiet : s.storage = []) : s.layoutBlocks = { s with
    drive := s.drive.relaid s.geometryNow
    capture := { s.capture with displayed := none, opened := none }
    trims := zeroRemovedTrims s.trims s.drive.geometry.modules s.geometryNow.modules
    out := s.out ++ s.cutWords } := by
  have taken : s.takeGeometry = { s with drive := { s.drive with geometry := s.geometryNow } } := by
    unfold State.takeGeometry
    rw [State.readEntries_quiet quiet]
    rfl
  unfold State.layoutBlocks State.driveLayoutSwap
  rw [taken]
  rfl

theorem State.layoutBlocks_only {s : State} (quiet : s.storage = []) : OnlyBlocks s s.layoutBlocks := by
  rw [State.layoutBlocks_eq quiet]
  rfl

/-- The trims of the modules at or above a new module count are 0 (R58). -/
theorem zeroRemovedTrims_spec (trims : List Int) (old new : Nat) :
    (zeroRemovedTrims trims old new).length = trims.length ∧
    ∀ i, (zeroRemovedTrims trims old new).getD i 0 = if i < 3 * new ∨ new = old then trims.getD i 0 else 0 := by
  unfold zeroRemovedTrims
  split
  · next same => exact ⟨rfl, fun i => by simp [same]⟩
  · next changed =>
    refine ⟨by simp; omega, fun i => ?_⟩
    rw [List.getD_eq_getElem?_getD, List.getElem?_append]
    by_cases low : i < 3 * new
    · by_cases inside : i < trims.length
      · simp [low, inside, List.getD_eq_getElem?_getD]
      · simp [low, inside, List.getD_eq_getElem?_getD, List.getElem?_replicate]
        split <;> rfl
    · simp [low, changed]

/-! ## The swap -/

section

variable {s : State} {bank : List Word}

/-- What the swaps of one SYNC may change. -/
def SwapFrame (s t : State) : Prop := t = { s with
  tables := { s.tables with banks := t.tables.banks, layoutMissing := t.tables.layoutMissing }
  capture := t.capture, trims := t.trims, drive := t.drive, agent := t.agent, dimming := t.dimming
  time := { s.time with ceiling := t.time.ceiling, source := t.time.source }
  faults := t.faults, handed := t.handed, out := t.out }

theorem SwapFrame.trans {s t u : State} (h : SwapFrame s t) (k : SwapFrame t u) : SwapFrame s u := by
  unfold SwapFrame at *
  rw [k, h]

theorem SwapRest.swapFrame {s t : State} (h : SwapRest s t) : SwapFrame s t := by
  have frame := h.frame
  unfold SwapFrame
  rw [frame]

theorem State.swapLit_layout (quiet : s.storage = []) : s.swapLit .layout bank = { s with
    tables := { (s.setTable .layout ⟨bank, .clean, (s.table .layout).generation + 1, []⟩).tables with
      layoutMissing := false }
    agent := { s.agent with storeInvalid := false }
    dimming := (s.swapLit .layout bank).dimming
    handed := (s.handed ++ (if (s.table .layout).bad = [] then [] else [.tableEccDelivery .layout false])) ++
      (if s.agent.storeInvalid then [.conditionDelivery .storeInvalid false] else []) } := by
  rw [State.swapLit_eq quiet, State.swapTold_layout, State.layoutTold_eq]
  rfl

theorem State.swapTable_layout (quiet : s.storage = []) : s.swapTable .layout bank =
    (Work.layoutSettled (s.swapLit .layout bank).geometryNow.modules (s.swapLit .layout bank).layoutBlocks).closed := by
  have quiet' : (s.swapLit .layout bank).storage = [] := by
    rw [State.swapLit_layout quiet]
    exact quiet
  rw [State.swapTable_eq, State.actAtSwap_layout, State.faultLayoutSwap_eq, State.layoutBlocks_eq quiet']
  rfl

/-- The state that a LAYOUT swap hands to the Fault Monitor. -/
def State.laidOut (s : State) (bank : List Word) : State := (s.swapLit .layout bank).layoutBlocks

/-- The geometry that a LAYOUT swap brings. -/
def State.newGeometry (s : State) (bank : List Word) : DriveGeometry := (s.swapLit .layout bank).geometryNow

theorem State.newGeometry_taken (quiet : s.storage = []) : GeometryTaken bank [] (s.newGeometry bank) := by
  have table : (s.swapLit .layout bank).table .layout = ⟨bank, .clean, (s.table .layout).generation + 1, []⟩ := by
    rw [State.swapLit_eq quiet]
    exact (State.swapTold_table .layout).trans ((State.swapBase_table .layout).trans (if_pos rfl))
  have taken := State.geometryNow_taken (s := s.swapLit .layout bank) (by rw [table])
  rw [table] at taken
  exact taken

theorem State.laidOut_eq (quiet : s.storage = []) : s.laidOut bank = { s with
    tables := (s.swapLit .layout bank).tables
    agent := { s.agent with storeInvalid := false }
    dimming := (s.swapLit .layout bank).dimming
    handed := (s.swapLit .layout bank).handed
    drive := s.drive.relaid (s.newGeometry bank)
    capture := { s.capture with displayed := none, opened := none }
    trims := zeroRemovedTrims s.trims s.drive.geometry.modules (s.newGeometry bank).modules
    out := s.out ++ s.cutWords } := by
  have lit := State.swapLit_layout (bank := bank) quiet
  have quiet' : (s.swapLit .layout bank).storage = [] := by
    rw [lit]
    exact quiet
  unfold State.laidOut State.newGeometry
  rw [State.layoutBlocks_eq quiet']
  generalize (s.swapLit .layout bank).geometryNow = g
  rw [lit]
  rfl

theorem State.laidOut_fields (quiet : s.storage = []) :
    (s.laidOut bank).storage = [] ∧ (s.laidOut bank).faults = s.faults ∧
      (s.laidOut bank).handed = (s.swapLit .layout bank).handed := by
  rw [State.laidOut_eq quiet]
  exact ⟨quiet, rfl, rfl⟩

theorem State.swapTable_laidOut (quiet : s.storage = []) : s.swapTable .layout bank =
    (Work.layoutSettled (s.newGeometry bank).modules (s.laidOut bank)).closed := State.swapTable_layout quiet

theorem State.swapTable_layout_only (quiet : s.storage = []) : OnlyFaults (s.laidOut bank) (s.swapTable .layout bank) := by
  rw [State.swapTable_laidOut quiet]
  exact Work.layoutSettled_only (State.laidOut_fields quiet).1

theorem State.swapTable_layout_handed (quiet : s.storage = []) :
    (s.swapTold .layout bank).handed <+: (s.swapTable .layout bank).handed := by
  have handed := Work.layoutSettled_handed (n := (s.newGeometry bank).modules) (State.laidOut_fields (bank := bank) quiet).1
  rw [(State.laidOut_fields quiet).2.2, ← State.swapTable_laidOut quiet, State.swapLit_eq quiet] at handed
  exact handed

theorem State.swapTable_layout_faults (quiet : s.storage = []) : (s.swapTable .layout bank).faults =
    (Work.layoutSettled (s.newGeometry bank).modules (s.laidOut bank)).st.faults := by
  rw [State.swapTable_laidOut quiet, Work.closed_faults]

theorem State.swapTable_layout_fit (quiet : s.storage = []) (fit : s.faults.SlotsFit) :
    (s.swapTable .layout bank).faults.SlotsFit := by
  obtain ⟨quiet', faults, -⟩ := State.laidOut_fields (bank := bank) quiet
  rw [← faults] at fit
  rw [State.swapTable_layout_faults quiet]
  exact ((Work.layoutSettled_moves quiet').fit (Work.layoutResized_fit fit)).1

/-- What a swap of LAYOUT leaves of the blocks other than the Fault Monitor. -/
theorem State.swapTable_layout_blocks (quiet : s.storage = []) :
    (s.swapTable .layout bank).tables = (s.swapLit .layout bank).tables ∧
    (s.swapTable .layout bank).agent = { s.agent with storeInvalid := false } ∧
    (s.swapTable .layout bank).drive = s.drive.relaid (s.newGeometry bank) ∧
    (s.swapTable .layout bank).out = s.out ++ s.cutWords ∧
    (s.swapTable .layout bank).capture = { s.capture with displayed := none, opened := none } ∧
    (s.swapTable .layout bank).trims =
      zeroRemovedTrims s.trims s.drive.geometry.modules (s.newGeometry bank).modules := by
  have only := State.swapTable_layout_only (bank := bank) quiet
  have laid := State.laidOut_eq (bank := bank) quiet
  generalize s.swapTable .layout bank = t at *
  generalize s.laidOut bank = d at *
  subst laid
  rw [only]
  exact ⟨rfl, rfl, rfl, rfl, rfl, rfl⟩

/-- The Fault Monitor after a swap of LAYOUT. -/
theorem State.swapTable_layout_monitor (quiet : s.storage = []) :
    (s.swapTable .layout bank).faults.modules.length = (s.newGeometry bank).modules ∧
    (s.faults.flaps.length = 128 → (s.swapTable .layout bank).faults.flaps.length = 128 ∧
      ∀ i, (s.swapTable .layout bank).faults.flaps.getD i 0 =
        if i < 4 * (s.newGeometry bank).modules then s.faults.flaps.getD i 0 else 0) ∧
    (s.faults.tableWf → (∀ r ∈ s.faults.records, ∀ m, r.scope = some m → m < 32) →
      (∀ r ∈ (s.swapTable .layout bank).faults.records, ∀ m, r.scope = some m → m < (s.newGeometry bank).modules) ∧
      SwapKeeps s.faults (OfRemoved (s.newGeometry bank).modules) (s.swapTable .layout bank).faults ∧
      AllDerived (s.swapTable .layout bank) ∧
      ∃ freed : List FaultRecord,
        (∀ r, r ∈ freed ↔ r ∈ s.faults.records ∧ OfRemoved (s.newGeometry bank).modules r ∧ r.state ≠ .suspect) ∧
        freed.Pairwise (fun a b => ∀ m k, a.scope = some m → b.scope = some k → m < k ∨ (m = k ∧ a.slot < b.slot)) ∧
        (freed ≠ [] → ∃ more, .localReportDelivery
          ((freed.map fun r => ⟨.cleared, some r.kind, r.scope, r.detail⟩) ++ more) ∈
            (s.swapTable .layout bank).handed)) := by
  obtain ⟨quiet', faults, -⟩ := State.laidOut_fields (bank := bank) quiet
  rw [State.swapTable_layout_faults quiet, ← faults, State.swapTable_laidOut quiet]
  refine ⟨Work.layoutSettled_modules quiet', Work.layoutSettled_flaps quiet', fun wf scopes => ?_⟩
  obtain ⟨below, keeps, derived⟩ := Work.layoutSettled_keeps (n := (s.newGeometry bank).modules) quiet' wf scopes
  exact ⟨below, keeps, Work.closed_derived derived, Work.layoutSettled_freed quiet' wf scopes⟩

/-- What a swap of LAYOUT leaves. -/
theorem State.swapTable_layoutSwapped (quiet : s.storage = []) : LayoutSwapped s bank (s.swapTable .layout bank) := by
  obtain ⟨tables, agent, drive, out, capture, trims⟩ := State.swapTable_layout_blocks (bank := bank) quiet
  obtain ⟨modules, flaps, monitor⟩ := State.swapTable_layout_monitor (bank := bank) quiet
  have handed := State.swapTable_layout_handed (bank := bank) quiet
  have taken := State.newGeometry_taken (bank := bank) quiet
  have told : (s.swapLit .layout bank).tables.layoutMissing = false := by
    rw [State.swapLit_layout quiet]
  obtain ⟨length, zeroed⟩ := zeroRemovedTrims_spec s.trims s.drive.geometry.modules (s.newGeometry bank).modules
  generalize s.swapTable .layout bank = t at *
  generalize s.newGeometry bank = g at *
  refine ⟨g, taken, by rw [tables, told], agent, fun invalid => handed.mem ?_, drive, ?_, capture, ?_, fun i => ?_, modules,
    flaps, monitor⟩
  · rw [State.swapTold_layout, State.layoutTold_eq]
    exact List.mem_append_right _ (by simp [State.swapBase, invalid])
  · rw [out]
    exact s.passCutOff
  · rw [trims, length]
  · rw [trims, zeroed]

theorem State.swapTable_layout_frame (quiet : s.storage = []) : SwapFrame s (s.swapTable .layout bank) := by
  have only := State.swapTable_layout_only (bank := bank) quiet
  have laid := State.laidOut_eq (bank := bank) quiet
  have lit := congrArg State.tables (State.swapLit_layout (bank := bank) quiet)
  generalize s.swapTable .layout bank = t at *
  generalize s.laidOut bank = d at *
  subst laid
  unfold SwapFrame
  rw [only]
  dsimp only
  rw [lit]
  rfl

end

end Sys2Proof.Machine
end

section
/-! The tables that swap at a SYNC (R173, R174). -/

namespace Sys2Proof.Machine

/-! ## One swap -/

section

variable {s : State} {x : Table} {bank : List Word}

theorem State.actAtSwap_tables (quiet : s.storage = []) (other : x ≠ .layout) : (s.actAtSwap x).tables = s.tables := by
  cases x with
  | layout => exact absurd rfl other
  | ambient => exact (State.recompute_sets quiet).tables
  | schedule => exact (State.ceilingEvent_sets quiet).tables
  | limits =>
    have event := State.ceilingEvent_sets quiet
    have set := event.trans (State.recompute_sets (event.storage.trans quiet))
    have monitored := (State.faultLimitsSwap_follows s.ceilingEvent.recompute).moves (set.storage.trans quiet)
    change (State.faultLimitsSwap _).tables = _
    rw [State.faultLimitsSwap_eq]
    exact (Work.closed_only monitored.only).tables.trans set.tables
  | policy =>
    change s.faultPolicySwap.tables = _
    rw [State.faultPolicySwap_eq]
    exact (Work.closed_only (s.faultPolicySwap_follows.moves quiet).only).tables
  | gamma => rfl
  | calibration => rfl
  | groups => rfl

theorem State.swapTable_tables (quiet : s.storage = []) : (s.swapTable x bank).tables = (s.swapTold x bank).tables := by
  have lit : (s.swapLit x bank).tables = (s.swapTold x bank).tables := by rw [State.swapLit_eq quiet]
  by_cases layout : x = .layout
  · subst layout
    exact (State.swapTable_layout_blocks quiet).1.trans lit
  · rw [State.swapTable_eq, State.actAtSwap_tables _ layout, lit]
    exact (State.swapLit_sets layout quiet bank).storage.trans quiet

/-- A swap makes the posted bank active without marks, and leaves the other tables (R174, steps 1 to 3). -/
theorem State.swapTable_table (quiet : s.storage = []) (y : Table) : (s.swapTable x bank).table y =
    if y = x then ⟨bank, .clean, (s.table x).generation + 1, []⟩ else s.table y := by
  rw [← State.swapBase_table, ← State.swapTold_table, State.table, State.swapTable_tables quiet]
  rfl

theorem State.swapTable_frame (quiet : s.storage = []) : SwapFrame s (s.swapTable x bank) := by
  by_cases layout : x = .layout
  · subst layout
    exact State.swapTable_layout_frame quiet
  · exact (State.swapTable_rest quiet layout bank).swapFrame

theorem State.swapTable_handed (quiet : s.storage = []) : (s.swapTold x bank).handed <+: (s.swapTable x bank).handed := by
  by_cases layout : x = .layout
  · subst layout
    exact State.swapTable_layout_handed quiet
  · have set := State.swapLit_sets layout quiet bank
    rw [State.swapTold_other layout, State.swapTable_eq]
    exact set.handed.trans (State.actAtSwap_rest (set.storage.trans quiet) layout).handed

/-- The end of TABLE_ECC is handed over where the discarded bank had bad marks (R174, step 4). -/
theorem State.swapTable_tableEcc (quiet : s.storage = []) (marks : (s.table x).bad ≠ []) :
    .tableEccDelivery x false ∈ (s.swapTable x bank).handed := by
  have base : .tableEccDelivery x false ∈ (s.swapBase x bank).handed := by simp [State.swapBase, marks]
  refine (State.swapTable_handed quiet).mem ?_
  unfold State.swapTold
  split
  · rw [State.layoutTold_eq]
    exact List.mem_append_left _ base
  · exact base

theorem SwapFrame.storage {t : State} (h : SwapFrame s t) : t.storage = s.storage := by rw [h]

theorem SwapFrame.refl (s : State) : SwapFrame s s := rfl

/-! ## The tables that are due -/

variable {frame : Word}

theorem State.dueBank_congr {t : State} (h : t.table x = s.table x) : t.dueBank frame x = s.dueBank frame x := by
  unfold State.dueBank
  rw [h]

/-- A table swaps in the bank that is due, if one is. -/
theorem State.swapIfDue_eq (s : State) (x : Table) : s.swapIfDue frame x =
    match s.dueBank frame x with
    | some bank => s.swapTable x bank
    | none => s := by
  unfold State.swapIfDue State.dueBank
  cases (s.table x).shadow with
  | clean => rfl
  | editing b d => rfl
  | posted b e =>
    by_cases due : (frame - e).toNat < 32768
    · have shown : isDue frame e = true := decide_eq_true due
      simp only [shown, if_pos due, if_true]
    · have shown : isDue frame e = false := decide_eq_false due
      simp only [shown, if_neg due, Bool.false_eq_true, if_false]

theorem State.swapIfDue_none (h : s.dueBank frame x = none) : s.swapIfDue frame x = s := by
  rw [State.swapIfDue_eq, h]

theorem State.swapIfDue_some (h : s.dueBank frame x = some bank) : s.swapIfDue frame x = s.swapTable x bank := by
  rw [State.swapIfDue_eq, h]

/-- The tables listed swap in the order listed, where they are due. -/
def State.swapDue (frame : Word) (s : State) (l : List Table) : State := l.foldl (State.swapIfDue frame) s

theorem State.swapDue_none {l : List Table} (h : ∀ x ∈ l, s.dueBank frame x = none) : s.swapDue frame l = s := by
  induction l with
  | nil => rfl
  | cons x xs ih =>
    unfold State.swapDue
    rw [List.foldl_cons, State.swapIfDue_none (h x (by simp))]
    exact ih fun y hy => h y (by simp [hy])

/-- What one table's turn does to the tables, and to what is handed over. -/
theorem State.swapIfDue_turn (quiet : s.storage = []) (x : Table) :
    SwapFrame s (s.swapIfDue frame x) ∧ s.handed <+: (s.swapIfDue frame x).handed ∧
    (∀ y, y ≠ x ∨ s.dueBank frame y = none → (s.swapIfDue frame x).table y = s.table y) ∧
    (∀ bank, s.dueBank frame x = some bank →
      (s.swapIfDue frame x).table x = ⟨bank, .clean, (s.table x).generation + 1, []⟩ ∧
      ((s.table x).bad ≠ [] → .tableEccDelivery x false ∈ (s.swapIfDue frame x).handed)) := by
  cases due : s.dueBank frame x with
  | none =>
    rw [State.swapIfDue_none due]
    exact ⟨rfl, List.prefix_refl _, fun _ _ => rfl, by simp⟩
  | some bank =>
    rw [State.swapIfDue_some due]
    refine ⟨State.swapTable_frame quiet, State.swapTold_handed.trans (State.swapTable_handed quiet), fun y hy => ?_,
      fun b e => ?_⟩
    · rw [State.swapTable_table quiet, if_neg]
      rintro rfl
      rcases hy with ne | none
      · exact ne rfl
      · rw [due] at none
        cases none
    · obtain rfl := Option.some.inj e
      exact ⟨(State.swapTable_table quiet x).trans (if_pos rfl), State.swapTable_tableEcc quiet⟩

/-- What the turns of several tables do to the tables, and to what is handed over (R173, R174). -/
theorem State.swapDue_tables {l : List Table} (nodup : l.Nodup) : ∀ {s : State}, s.storage = [] →
    SwapFrame s (s.swapDue frame l) ∧ s.handed <+: (s.swapDue frame l).handed ∧
    (∀ y, y ∉ l ∨ s.dueBank frame y = none → (s.swapDue frame l).table y = s.table y) ∧
    (∀ y ∈ l, ∀ bank, s.dueBank frame y = some bank →
      (s.swapDue frame l).table y = ⟨bank, .clean, (s.table y).generation + 1, []⟩ ∧
      ((s.table y).bad ≠ [] → .tableEccDelivery y false ∈ (s.swapDue frame l).handed)) := by
  induction l with
  | nil => exact fun _ => ⟨rfl, List.prefix_refl _, fun _ _ => rfl, by simp⟩
  | cons x xs ih =>
    intro s quiet
    obtain ⟨notIn, nodup⟩ := List.nodup_cons.1 nodup
    obtain ⟨first, handed, others, own⟩ := State.swapIfDue_turn (frame := frame) quiet x
    obtain ⟨rest, handed', others', own'⟩ := ih nodup (first.storage.trans quiet)
    refine ⟨first.trans rest, handed.trans handed', fun y hy => ?_, fun y hy bank due => ?_⟩
    · have here : (s.swapIfDue frame x).table y = s.table y := others y (hy.imp_left fun h e => h (by simp [e]))
      refine (others' y (hy.imp (fun h m => h (by simp [m])) fun none => ?_)).trans here
      rw [State.dueBank_congr here, none]
    · by_cases e : y = x
      · subst e
        obtain ⟨table, ecc⟩ := own bank due
        exact ⟨(others' y (.inl notIn)).trans table, fun marks => handed'.mem (ecc marks)⟩
      · have here : (s.swapIfDue frame x).table y = s.table y := others y (.inl e)
        have later := own' y ((List.mem_cons.1 hy).resolve_left e) bank (by rw [State.dueBank_congr here, due])
        rw [here] at later
        exact later

/-- What the turns of tables other than LAYOUT leave. -/
theorem State.swapDue_rest {l : List Table} (other : .layout ∉ l) : ∀ {s : State}, s.storage = [] →
    SwapRest s (s.swapDue frame l) ∧ KeepsDerived s (s.swapDue frame l) := by
  induction l with
  | nil => exact fun _ => ⟨.refl _, fun _ all => all⟩
  | cons x xs ih =>
    intro s quiet
    have first : SwapRest s (s.swapIfDue frame x) ∧ KeepsDerived s (s.swapIfDue frame x) := by
      have ne : x ≠ .layout := fun e => other (by simp [e])
      cases due : s.dueBank frame x with
      | none =>
        rw [State.swapIfDue_none due]
        exact ⟨.refl s, fun _ all => all⟩
      | some bank =>
        rw [State.swapIfDue_some due]
        exact ⟨State.swapTable_rest quiet ne bank, State.swapTable_keepsDerived quiet ne bank⟩
    obtain ⟨rest, derived⟩ := ih (fun m => other (by simp [m])) (first.1.storage.trans quiet)
    exact ⟨first.1.trans rest, fun fit all => derived (first.1.fit fit).1 (first.2 fit all)⟩

/-- Where one table alone is due, it alone swaps. -/
theorem State.swapDue_single {l : List Table} (mem : x ∈ l) (quiet : s.storage = [])
    (due : s.dueBank frame x = some bank) (alone : ∀ y, y ≠ x → s.dueBank frame y = none) :
    s.swapDue frame l = s.swapTable x bank := by
  induction l with
  | nil => cases mem
  | cons y ys ih =>
    unfold State.swapDue
    rw [List.foldl_cons]
    by_cases e : y = x
    · subst e
      rw [State.swapIfDue_some due]
      refine State.swapDue_none fun z _ => ?_
      by_cases own : z = y
      · subst own
        unfold State.dueBank
        rw [State.swapTable_table quiet, if_pos rfl]
      · rw [State.dueBank_congr ((State.swapTable_table quiet z).trans (if_neg own)), alone z own]
    · rw [State.swapIfDue_none (alone y e)]
      exact ih ((List.mem_cons.1 mem).resolve_left (Ne.symm e))

end

/-! ## A SYNC at the Table Store -/

section

variable {s t : State} {frame : Word}

/-- What a swap of LAYOUT leaves stands after the swaps of the other tables that follow it. -/
theorem LayoutSwapped.of_rest {bank : List Word} {v : State} (h : LayoutSwapped s bank t)
    (fit : s.faults.tableWf → t.faults.SlotsFit) (rest : SwapRest t v) (keeps : KeepsDerived t v) :
    LayoutSwapped s bank v := by
  obtain ⟨g, taken, missing, agent, invalid, drive, out, capture, length, trims, modules, flaps, monitor⟩ := h
  obtain ⟨capture', trims', drive', agent', out', missing'⟩ := rest.blocks
  refine ⟨g, taken, missing'.trans missing, agent'.trans agent, fun held => rest.handed.mem (invalid held),
    drive'.trans drive, by rw [out']; exact out, capture'.trans capture, by rw [trims']; exact length,
    by rw [trims']; exact trims,
    rest.modules.trans modules, by rw [rest.flaps]; exact flaps, fun wf scopes => ?_⟩
  obtain ⟨below, ⟨keep, fresh, affected, flags⟩, derived, freed, mem, order, told⟩ := monitor wf scopes
  obtain ⟨-, keep', fresh'⟩ := rest.fit (fit wf)
  refine ⟨fun r hr m scope => ?_, ⟨fun r hr own hk hs => keep' r (keep r hr own hk hs) hk hs, fun r hr => ?_,
    rest.affected.trans affected, ?_⟩, keeps (fit wf) derived, freed, mem, order, fun some => ?_⟩
  · rcases fresh' r hr with old | ⟨none, -⟩
    · exact below r old m scope
    · rw [none] at scope
      cases scope
  · rcases fresh' r hr with old | new
    · exact fresh r old
    · exact .inr new.2
  · rw [rest.flags, flags]
  · obtain ⟨more, given⟩ := told some
    exact ⟨more, rest.handed.mem given⟩

theorem SwapRest.swapKeeps (h : SwapRest s t) (wf : s.faults.tableWf) : SwapKeeps s.faults (fun _ => False) t.faults := by
  obtain ⟨-, keep, fresh⟩ := h.fit (.of_tableWf wf)
  exact ⟨fun r hr _ => keep r hr, fun r hr => (fresh r hr).imp (fun old => ⟨old, fun h => h⟩) And.right, h.affected, h.flags⟩

/-- The tables other than LAYOUT, in code order. -/
def laterTables : List Table := [.gamma, .calibration, .ambient, .schedule, .limits, .policy, .groups]

theorem State.swapDue_all (s : State) : s.swapDue frame Table.all =
    (s.swapIfDue frame .layout).swapDue frame laterTables := rfl

theorem exec_tableStoreSync (started : s.started = true) : exec (.tableStoreSync frame) s =
    .next (State.swapDue frame { s with handed := s.handed.erase (.tableStoreSync frame) } Table.all) := by
  change execTableStoreSync frame s = _
  unfold execTableStoreSync
  dsimp only
  rw [show (s.take (.tableStoreSync frame)).started = true from started, if_pos rfl]
  rfl

/-- What the swaps of one SYNC leave, whichever tables are due. -/
theorem State.swapDue_layout (quiet : s.storage = []) :
    (∀ bank, s.dueBank frame .layout = some bank → LayoutSwapped s bank (s.swapDue frame Table.all)) ∧
    (s.dueBank frame .layout = none → SwapRest s (s.swapDue frame Table.all)) := by
  have quiet' : (s.swapIfDue frame .layout).storage = [] := (State.swapIfDue_turn quiet .layout).1.storage.trans quiet
  obtain ⟨rest, keeps⟩ := State.swapDue_rest (frame := frame) (l := laterTables) (by decide) quiet'
  rw [← State.swapDue_all] at rest keeps
  refine ⟨fun bank due => ?_, fun none => ?_⟩
  · rw [State.swapIfDue_some due] at rest keeps
    exact (State.swapTable_layoutSwapped quiet).of_rest
      (fun wf => State.swapTable_layout_fit quiet (.of_tableWf wf)) rest keeps
  · rwa [State.swapIfDue_none none] at rest

end

end Sys2Proof.Machine
end

section
/-! What a SYNC does at the Table Store (R39, R58, R70, R96, R99, R103, R138, R142, R146, R173, R174). -/

namespace Sys2Proof.Machine

/-! ## Swaps of one table alone -/

section

variable {s : State} {x : Table} {bank : List Word}

theorem State.swapBase_unconfigured (other : x ≠ .layout ∧ x ≠ .limits ∧ x ≠ .policy) :
    (s.swapBase x bank).unconfigured = s.unconfigured := by
  obtain ⟨layout, limits, policy⟩ := other
  have missing : (s.swapBase x bank).tables.layoutMissing = s.tables.layoutMissing := rfl
  unfold State.unconfigured
  rw [missing, State.swapBase_table, State.swapBase_table, State.swapBase_table, if_neg layout.symm, if_neg limits.symm,
    if_neg policy.symm]

/-- A swap of a table that is no cause of UNCONFIGURED ends none. -/
theorem State.swapTable_plain (other : x ≠ .layout ∧ x ≠ .limits ∧ x ≠ .policy) :
    s.swapTable x bank = (s.swapBase x bank).actAtSwap x := by
  have lit : s.swapLit x bank = s.swapBase x bank := by
    unfold State.swapLit
    rw [State.swapTold_other other.1, State.swapBase_unconfigured other]
    cases s.unconfigured <;> rfl
  rw [State.swapTable_eq, lit]

/-- A swap of SCHEDULE alone. -/
theorem State.swapTable_schedule (quiet : s.storage = [])
    (valid : validate .ambient ((s.swapBase .schedule bank).table .ambient).active = none) :
    CeilingEvent (s.swapBase .schedule bank) (s.swapTable .schedule bank) := by
  rw [State.swapTable_plain (by decide)]
  exact State.ceilingEvent_spec quiet valid

/-- A swap of AMBIENT alone. -/
theorem State.swapTable_ambient (quiet : s.storage = [])
    (valid : validate .ambient ((s.swapBase .ambient bank).table .ambient).active = none) :
    Recomputed (s.swapBase .ambient bank) (s.swapTable .ambient bank) := by
  rw [State.swapTable_plain (by decide)]
  exact State.recompute_recomputed quiet valid

/-- A swap of LIMITS alone. -/
theorem State.swapTable_limits (quiet : s.storage = [])
    (valid : validate .ambient ((s.swapBase .limits bank).table .ambient).active = none) : ∃ e w z,
    UnconfiguredEnded s (s.swapBase .limits bank) e ∧ CeilingEvent e w ∧ Recomputed w z ∧
      OnlyFaults z (s.swapTable .limits bank) ∧ LimitsSwappedAlone s z (s.swapTable .limits bank) := by
  have lit := State.swapLit_sets (x := .limits) (by decide) quiet bank
  have quietE : (s.swapLit .limits bank).storage = [] := lit.storage.trans quiet
  have event := State.ceilingEvent_sets quietE
  have quietW := event.storage.trans quietE
  have set := State.recompute_sets quietW
  have quietZ := set.storage.trans quietW
  have validE : validate .ambient ((s.swapLit .limits bank).table .ambient).active = none := by
    rw [State.table, lit.tables]
    exact valid
  have validW : validate .ambient ((s.swapLit .limits bank).ceilingEvent.table .ambient).active = none := by
    rw [State.table, event.tables]
    exact validE
  have validZ : validate .ambient ((s.swapLit .limits bank).ceilingEvent.recompute.table .ambient).active = none := by
    rw [State.table, set.tables]
    exact validW
  have faults : (s.swapLit .limits bank).ceilingEvent.recompute.faults = s.faults :=
    set.faults.trans (event.faults.trans lit.faults)
  have acted : s.swapTable .limits bank = (s.swapLit .limits bank).ceilingEvent.recompute.faultLimitsSwap :=
    State.swapTable_eq ..
  rw [acted]
  refine ⟨s.swapLit .limits bank, _, _, State.swapLit_unconfigured_other quiet (by decide) valid,
    State.ceilingEvent_spec quietE validE,
    State.recompute_recomputed quietW validW, State.faultLimitsSwap_only quietZ,
    State.faultLimitsSwap_alone quietZ validZ faults⟩

/-- A swap of POLICY alone. -/
theorem State.swapTable_policy (quiet : s.storage = [])
    (valid : validate .ambient ((s.swapBase .policy bank).table .ambient).active = none) :
    OnlyFaults (s.swapBase .policy bank) (s.swapTable .policy bank) ∧
      ∃ e, UnconfiguredEnded s (s.swapBase .policy bank) e ∧ PolicySwappedAlone s e (s.swapTable .policy bank) := by
  have lit := State.swapLit_sets (x := .policy) (by decide) quiet bank
  have quietE : (s.swapLit .policy bank).storage = [] := lit.storage.trans quiet
  have validE : validate .ambient ((s.swapLit .policy bank).table .ambient).active = none := by
    rw [State.table, lit.tables]
    exact valid
  have acted : s.swapTable .policy bank = (s.swapLit .policy bank).faultPolicySwap := State.swapTable_eq ..
  have ended : OnlyFaults (s.swapBase .policy bank) (s.swapLit .policy bank) := by
    have eq := State.swapLit_eq (s := s) (x := .policy) (bank := bank) quiet
    rw [State.swapTold_other (by decide)] at eq
    have faults := congrArg State.faults eq
    have handed := congrArg State.handed eq
    unfold OnlyFaults
    rw [faults, handed]
    exact eq
  rw [acted]
  exact ⟨ended.trans (State.faultPolicySwap_only quietE), s.swapLit .policy bank,
    State.swapLit_unconfigured_other quiet (by decide) valid,
    State.faultPolicySwap_alone quietE validE lit.faults⟩

/-- A swap of LAYOUT alone. -/
theorem State.swapTable_layout_alone (quiet : s.storage = [])
    (valid : validate .ambient ((s.swapBase .layout bank).table .ambient).active = none) :
    ∃ e, UnconfiguredEnded s (s.swapTold .layout bank) e ∧ LayoutSwappedAlone s e (s.swapTable .layout bank) := by
  have eq := State.swapLit_layout (bank := bank) quiet
  have quietE : (s.swapLit .layout bank).storage = [] := by
    rw [eq]
    exact quiet
  have table (y : Table) : (s.swapLit .layout bank).table y = (s.swapBase .layout bank).table y := by
    rw [State.swapLit_eq quiet]
    exact State.swapTold_table y
  have faults : (s.swapLit .layout bank).faults = s.faults := by rw [eq]
  have policy : (s.swapLit .layout bank).table .policy = s.table .policy :=
    (table .policy).trans ((State.swapBase_table .policy).trans (if_neg (by decide)))
  refine ⟨s.swapLit .layout bank, State.swapLit_unconfigured quiet (by rw [State.swapTold_table]; exact valid), ?_⟩
  rw [State.swapTable_eq, State.actAtSwap_layout]
  exact State.faultLayoutSwap_alone quietE (by rw [table]; exact valid) faults policy (State.layoutBlocks_only quietE)

end

theorem exec_tableStoreSync_before {frame : Word} {s : State} (before : s.started = false) : exec (.tableStoreSync frame) s =
    .next { s with handed := s.handed.erase (.tableStoreSync frame) } := by
  change execTableStoreSync frame s = _
  unfold execTableStoreSync
  dsimp only
  rw [show (s.take (.tableStoreSync frame)).started = false from before]
  rfl

theorem mem_allTables (x : Table) : x ∈ Table.all := by cases x <;> decide

/-- Settles O48: each table's turn is one swap or nothing, a LAYOUT swap comes first, and what it leaves stands after the
others. -/
theorem dueTablesSwap : Obligations.DueTablesSwap := by
  intro frame s quiet c u swapped
  have quietU : u.storage = [] := quiet
  obtain ⟨swaps, handed, others, own⟩ := State.swapDue_tables (frame := frame) (l := Table.all) (by decide) quietU
  obtain ⟨layout, rest⟩ := State.swapDue_layout (frame := frame) quietU
  refine ⟨fun idle => ?_, fun started => ⟨_, exec_tableStoreSync started, fun x => ⟨fun none => others x (.inr none),
    own x (mem_allTables x)⟩, layout, fun none => ?_, swaps⟩, fun started x bank due alone => ?_⟩
  · cases started : s.started with
    | false => exact exec_tableStoreSync_before started
    | true =>
      have none := idle.resolve_left (by simp [started])
      refine (exec_tableStoreSync started).trans (congrArg Host.Outcome.next ?_)
      exact State.swapDue_none fun x _ => none x
  · have left := rest none
    obtain ⟨capture, trims, drive, agent, out, missing⟩ := left.blocks
    exact ⟨capture, trims, drive, agent, out, missing, left.flaps, left.swapKeeps⟩
  · have alone : exec c s = .next (u.swapTable x bank) :=
      (exec_tableStoreSync started).trans (congrArg _ (State.swapDue_single (mem_allTables x) quietU due alone))
    refine ⟨fun plain => ?_, fun valid => ⟨fun e => ?_, fun e => ?_, fun e => ?_, fun e => ?_, fun e => ?_⟩⟩
    · rw [alone]
      refine congrArg Host.Outcome.next ?_
      rcases plain with rfl | rfl | rfl
      · exact State.swapTable_plain (by decide)
      · exact State.swapTable_plain (by decide)
      · exact State.swapTable_plain (by decide)
    · subst e
      exact ⟨_, alone, State.swapTable_schedule quietU valid⟩
    · subst e
      exact ⟨_, alone, State.swapTable_ambient quietU valid⟩
    · subst e
      exact ⟨_, alone, State.swapTable_limits quietU valid⟩
    · subst e
      exact ⟨_, alone, State.swapTable_policy quietU valid⟩
    · subst e
      refine ⟨_, alone, ?_⟩
      have swapped := State.swapTable_layout_alone quietU valid
      rw [State.swapTold_layout, State.layoutTold_eq] at swapped
      exact swapped

end Sys2Proof.Machine
end

section
/-! SUPPORT. What a module computation reads and forms while the storage shows no error: the points of the curves, the
coefficients, and the words of the six stages (R44 to R55). -/

namespace Sys2Proof.Machine

/-! ## The inputs of a computation (R46, R49, R52, R167) -/

/-- A point read is the one the bank holds, or its substitute (R46, R167). -/
theorem State.gammaPoint_quiet {s : State} (h : s.storage = []) (c : Colour) (i : Nat) :
    s.gammaPoint c i = (s.curvePoint c i, s) := by
  unfold State.gammaPoint State.curvePoint
  simp only [State.readEntry_quiet h, gammaIndex]
  cases s.present .gamma (257 * c.index + i) with
  | some v => rfl
  | none =>
    simp only [State.gammaSubstitute, State.readEntry_quiet h, gammaIndex]
    split
    · rfl
    · split
      · rfl
      · cases s.present .gamma (257 * c.index + (i - 1)) <;> cases s.present .gamma (257 * c.index + (i + 1)) <;> rfl

/-- The points read, each with its place. -/
theorem State.gammaPoints_quiet {s : State} (h : s.storage = []) (c : Colour) (l : List Nat) :
    s.gammaPoints c l = (l.map fun i => (i, s.curvePoint c i), s) := by
  induction l with
  | nil => rfl
  | cons i is ih => simp only [State.gammaPoints, State.gammaPoint_quiet h, ih, List.map_cons]

/-- Each point that was read is found at its place. -/
theorem pointValue_map {f : Nat → Nat} {l : List Nat} {i : Nat} (h : i ∈ l) :
    pointValue (l.map fun j => (j, f j)) i = f i := by
  induction l with
  | nil => cases h
  | cons j js ih =>
    by_cases e : j = i
    · simp [pointValue, e]
    · have found := ih ((List.mem_cons.1 h).resolve_left (Ne.symm e))
      unfold pointValue at found ⊢
      rwa [List.map_cons, List.find?_cons_of_neg (by simpa using e)]

/-- A component of 12 bits has both its points among those needed (R48). -/
theorem mem_pointsNeeded {l : List Nat} {p : Nat} (h : p ∈ l) (bound : p < 4096) :
    p / 16 ∈ pointsNeeded l ∧ p / 16 + 1 ∈ pointsNeeded l := by
  simp only [pointsNeeded, List.mem_filter, List.mem_range, List.any_eq_true, Bool.or_eq_true, beq_iff_eq]
  exact ⟨⟨by omega, p, h, .inl rfl⟩, by omega, p, h, .inr rfl⟩

theorem component_lt (p : Pixel) (c : Colour) : p.component c < 4096 := by
  cases c
  · exact p.red.isLt
  · exact p.green.isLt
  · exact p.blue.isLt

/-- The coefficient read is the one the bank holds, or the fallback (R49). -/
theorem State.coefficient_quiet {s : State} (h : s.storage = []) (m : Nat) (c : Colour) :
    s.coefficient m c = (s.coefficientOf m c, s) := by
  unfold State.coefficient State.coefficientOf
  simp only [State.readEntry_quiet h]
  cases s.present .calibration (3 * m + c.index) <;> rfl

/-- The effective coefficient is that of R52. -/
theorem effective_eq (k : Option Nat) (t : Int) : effective k t = effectiveCoefficient k t := by
  cases k with
  | none => rfl
  | some k =>
    simp only [effective, effectiveCoefficient, trimStage, coefficientMax]
    split
    · omega
    · split <;> omega

/-! ## The words (R48, R53 to R55) -/

/-- What a colour's words are computed from. -/
theorem State.colourInput_quiet {s : State} (h : s.storage = []) (m : Nat) (samples : List Pixel) (c : Colour) :
    s.colourInput m samples c =
      (⟨(pointsNeeded (samples.map fun p => p.component c)).map fun i => (i, s.curvePoint c i),
        effectiveCoefficient (s.coefficientOf m c) (s.trims.getD (3 * m + c.index) 0)⟩, s) := by
  simp only [State.colourInput, State.coefficient_quiet h, State.gammaPoints_quiet h, effective_eq, trimOf]

/-- The word of a component of one of the samples is that of the stages. -/
theorem State.colourInput_word {s : State} (h : s.storage = []) (m d : Nat) (c : Colour) {samples : List Pixel}
    {p : Pixel} (hp : p ∈ samples) :
    (s.colourInput m samples c).1.word s.dimming.level d (p.component c) = s.wordOf m c d (p.component c) := by
  have component : p.component c ∈ samples.map fun q => q.component c := List.mem_map_of_mem hp
  obtain ⟨low, high⟩ := mem_pointsNeeded component (component_lt p c)
  rw [State.colourInput_quiet h, ColourInput.word, pointValue_map low, pointValue_map high]
  rfl

/-- The words of a module that is lit or derated are those of the stages over its samples. -/
theorem State.litWords_quiet {s : State} (h : s.storage = []) (m d : Nat) (lines : List (List Pixel)) :
    s.litWords m s.dimming.level d lines = (lines.map fun line => line.map (s.pixelWords m d), s) := by
  have left (samples : List Pixel) (c : Colour) : (s.colourInput m samples c).2 = s := by rw [State.colourInput_quiet h]
  simp only [State.litWords, left]
  refine Prod.ext (List.map_congr_left fun line hl => List.map_congr_left fun p hp => ?_) rfl
  have sample : p ∈ lines.flatten := List.mem_flatten_of_mem hl hp
  simp only [State.colourInput_word h m d _ sample]
  rfl

end Sys2Proof.Machine
end

section
/-! The lines of a module in scan order (R101), and what a module computation does to the state. -/

namespace Sys2Proof.Machine

/-! ## The scan order (R101) -/

/-- Item j of run b, in runs of equal length one after another. -/
theorem getElem?_flatMap_range {α : Type} (f : Nat → Nat → α) (n : Nat) {k b j : Nat} (hb : b < k) (hj : j < n) :
    ((List.range k).flatMap fun b => (List.range n).map (f b))[b * n + j]? = some (f b j) := by
  induction k with
  | zero => omega
  | succ k ih =>
    rw [List.range_succ, List.flatMap_append]
    have length : ((List.range k).flatMap fun b => (List.range n).map (f b)).length = k * n := by
      simp [List.length_flatMap]
    by_cases before : b < k
    · have within : b * n + j < k * n := by
        have := Nat.mul_le_mul_right n (Nat.succ_le_of_lt before)
        rw [Nat.succ_mul] at this
        omega
      rw [List.getElem?_append_left (by omega), ih before]
    · obtain rfl : b = k := by omega
      rw [List.getElem?_append_right (by omega), length]
      simp [hj]

/-- The lines stand in the scan order of R101. -/
theorem inScanOrder_inScanOrder (g : DriveGeometry) (start : Nat) (words : ModuleWords) :
    InScanOrder g start (inScanOrder g start words) := by
  refine ⟨by simp [inScanOrder, scanOrder, List.length_flatMap], fun b j hb hj => ?_⟩
  simp only [inScanOrder, scanOrder, List.getElem?_map, getElem?_flatMap_range _ _ hb hj, scanOffset]
  rfl

/-- Each line stands with its own words. -/
theorem eq_of_mem_inScanOrder {g : DriveGeometry} {start y : Nat} {words : ModuleWords} {ws : List Words}
    (h : (y, ws) ∈ inScanOrder g start words) : ws = words.getD y [] := by
  obtain ⟨v, -, e⟩ := List.mem_map.1 h
  obtain ⟨rfl, rfl⟩ := Prod.mk.inj e
  rfl

/-! ## The words before are out -/

@[simp] theorem State.emitted_storage (s : State) : s.emitted.storage = s.storage := by
  unfold State.emitted; split <;> rfl

@[simp] theorem State.emitted_capture (s : State) : s.emitted.capture = s.capture := by
  unfold State.emitted; split <;> rfl

@[simp] theorem State.emitted_dimming (s : State) : s.emitted.dimming = s.dimming := by
  unfold State.emitted; split <;> rfl

@[simp] theorem State.emitted_faults (s : State) : s.emitted.faults = s.faults := by
  unfold State.emitted; split <;> rfl

@[simp] theorem State.emitted_tables (s : State) : s.emitted.tables = s.tables := by
  unfold State.emitted; split <;> rfl

@[simp] theorem State.emitted_geometry (s : State) : s.emitted.drive.geometry = s.drive.geometry := by
  unfold State.emitted; split <;> rfl

@[simp] theorem State.emitted_table (s : State) (t : Table) : s.emitted.table t = s.table t := by simp [State.table]

/-- The words of a pixel do not depend on what has been emitted. -/
@[simp] theorem State.emitted_pixelWords (s : State) : s.emitted.pixelWords = s.pixelWords := by
  unfold State.emitted; split <;> rfl

/-! ## The computation (R44, R56) -/

/-- The command at a part that has started. -/
theorem exec_moduleComputation {s : State} (started : s.started = true) :
    exec .moduleComputation s = .next s.emitted.computeWords := by
  have arm : exec .moduleComputation s = execModuleComputation s := rfl
  rw [arm, execModuleComputation, if_pos started, State.wordsEmitted_eq_emitted]

/-- The words computed stand to be emitted in scan order, over what the reads leave. -/
theorem State.computeWords_eq (s : State) :
    s.computeWords = (s.computeModule s.drive.position).2.standing
      (inScanOrder s.drive.geometry s.drive.startLine (s.computeModule s.drive.position).1) := by
  simp only [State.computeWords, State.standing, (s.computeModule_kept s.drive.position).drive]

/-- Whatever the reads leave, they leave the Drive Port. -/
theorem State.computeWords_drive (s : State) :
    s.computeWords.drive = (s.standing
      (inScanOrder s.drive.geometry s.drive.startLine (s.computeModule s.drive.position).1)).drive := by
  simp only [State.computeWords, State.standing, (s.computeModule_kept s.drive.position).drive]

/-- A computation whose reads leave the state: its words stand to be emitted. -/
theorem exec_moduleComputation_of_words {s : State} (started : s.started = true) {words : ModuleWords}
    (h : s.emitted.computeModule s.emitted.drive.position = (words, s.emitted)) :
    exec .moduleComputation s =
      .next (s.emitted.standing (inScanOrder s.drive.geometry s.emitted.drive.startLine words)) := by
  rw [exec_moduleComputation started, State.computeWords_eq, h, State.emitted_geometry]

theorem ModuleStatus.isDark_iff (x : ModuleStatus) :
    x.isDark = true ↔ x.state = .blanked ∨ x.state = .restoreWait := by
  obtain ⟨state, derate⟩ := x
  cases state <;> simp [ModuleStatus.isDark]

/-- The mapping read from a sound LAYOUT. -/
theorem State.mapping_quiet {s : State} (sound : s.soundTable .layout) :
    s.readEntries .layout [2, 4, 6, 7] =
      ([some (entry (s.table .layout).active 2), some (entry (s.table .layout).active 4),
        some (entry (s.table .layout).active 6), some (entry (s.table .layout).active 7)], s) := by
  obtain ⟨quiet, unmarked⟩ := sound
  simp [State.readEntries_quiet quiet, State.present, unmarked]

/-- No mapping is left where an entry is bad. -/
theorem mappingOf_eq_none {f : Nat → Option Nat} (h : ∃ i ∈ [2, 4, 6, 7], f i = none) :
    mappingOf ([2, 4, 6, 7].map f) = none := by
  obtain ⟨i, hi, bad⟩ := h
  cases e : mappingOf ([2, 4, 6, 7].map f) with
  | none => rfl
  | some g =>
    simp only [List.map_cons, List.map_nil] at e
    unfold mappingOf at e
    split at e
    · next all =>
      simp only [List.cons.injEq, and_true] at all
      simp only [List.mem_cons, List.not_mem_nil, or_false] at hi
      rcases hi with rfl | rfl | rfl | rfl <;> simp_all
    · cases e

/-- The module is lit or derated and DISPLAY holds a frame: its words are those of the stages over its samples. -/
theorem State.computeModule_lit {s : State} {m : Nat} (sound : s.soundTable .layout)
    (shown : s.capture.displayed.isSome = true) (lit : (s.faults.moduleStatus m).isDark = false) :
    let l := fun i => entry (s.table .layout).active i
    s.computeModule m =
      ((moduleSamples s.capture.display ⟨l 2, l 4, l 6, l 7⟩ m s.drive.geometry.moduleWidth
          s.drive.geometry.moduleHeight).map fun line =>
        line.map (s.pixelWords m (s.faults.moduleStatus m).derate), s) := by
  obtain ⟨x, hx⟩ := Option.isSome_iff_exists.1 shown
  simp only [State.computeModule, State.mapping_quiet sound, mappingOf, hx, lit, State.litWords_quiet sound.1]
  rfl

/-- DISPLAY is EMPTY, the module is dark or an entry of LAYOUT is bad: every word is 0 (R56). -/
theorem State.computeModule_dark {s : State} {m : Nat} (quiet : s.storage = [])
    (dark : s.capture.displayed = none ∨ (s.faults.moduleStatus m).isDark = true ∨
      ∃ i ∈ [2, 4, 6, 7], i ∈ (s.table .layout).bad) :
    s.computeModule m = (blackWords s.drive.geometry.moduleWidth s.drive.geometry.moduleHeight, s) := by
  simp only [State.computeModule, State.readEntries_quiet quiet]
  split
  · next mapped shown =>
    have isDark : (s.faults.moduleStatus m).isDark = true := by
      rcases dark with empty | isDark | ⟨i, hi, bad⟩
      · simp [empty] at shown
      · exact isDark
      · rw [mappingOf_eq_none ⟨i, hi, by simp [State.present, bad]⟩] at mapped
        cases mapped
    rw [if_pos isDark]
  · rfl

/-- The words of line y, formed from its samples, column by column (R45). -/
theorem moduleSamples_line {display : Slot} {g : Mapping} {m width height y : Nat} (inside : y < height)
    (words : Pixel → Words) :
    ((moduleSamples display g m width height).map fun line => line.map words).getD y [] =
      (List.range width).map fun x => words (readSlot (g.position m x y) display) := by
  simp [moduleSamples, inside, Function.comp_def]

theorem blackWords_line {width height y : Nat} (inside : y < height) :
    (blackWords width height).getD y [] = List.replicate width (0, 0, 0) := by
  simp [blackWords, inside]

/-! ## The statements -/

/-- Settles O20: the reads yield what the tables hold, and each word is the stages over them. -/
theorem moduleComputationFormsTheWords : Obligations.ModuleComputationFormsTheWords := by
  intro s started sound shown v g m status l lit
  have same : v.faults.moduleStatus m = status := by simp [v, status, Faults.moduleStatus]
  have awake : (v.faults.moduleStatus m).isDark = false := by
    rw [same, Bool.eq_false_iff, Ne, ModuleStatus.isDark_iff]
    rcases lit with e | e <;> simp [e]
  have computed := State.computeModule_lit (s := v) (m := m) (by simpa [v, State.soundTable] using sound)
    (by simpa [v] using shown) awake
  refine ⟨_, inScanOrder_inScanOrder .., fun y ws hy inside => ?_, exec_moduleComputation_of_words started computed⟩
  rw [eq_of_mem_inScanOrder hy, State.emitted_geometry, moduleSamples_line inside, same, State.emitted_pixelWords,
    State.emitted_capture]
  simp only [State.emitted_table, Mapping.position, v, l, g]

/-- Settles O21: in each of these cases no colour is read and every word is 0. -/
theorem darkModulesAreDrivenDark : Obligations.DarkModulesAreDrivenDark := by
  intro s started quiet v g m status dark
  have computed := State.computeModule_dark (s := v) (m := m) (by simpa [v] using quiet)
    (by simpa [v, status, Faults.moduleStatus, ModuleStatus.isDark_iff, or_assoc] using dark)
  refine ⟨_, inScanOrder_inScanOrder .., fun y ws hy inside => ?_, exec_moduleComputation_of_words started computed⟩
  rw [eq_of_mem_inScanOrder hy, State.emitted_geometry, blackWords_line inside]

end Sys2Proof.Machine
end

section
/-! The bounds of a module computation's words (R56), whatever the tables, the trims and the storage supply. -/

namespace Sys2Proof.Machine

/-! ## The stages (R48, R52 to R56) -/

/-- Stage 1 stays between its two points. -/
theorem gammaStage_le {low high : Nat} (p : Nat) (hl : low ≤ 65535) (hh : high ≤ 65535) :
    gammaStage low high p ≤ 65535 := by
  unfold gammaStage
  split
  · have part : (high - low) * (p % 16) / 16 ≤ high - low :=
      Nat.div_le_of_le_mul (by rw [Nat.mul_comm 16]; exact Nat.mul_le_mul_left _ (by omega))
    omega
  · exact hl

theorem effective_le (k : Option Nat) (t : Int) : effective k t ≤ 4095 := by
  cases k with
  | none => exact Nat.zero_le _
  | some k =>
    simp only [effective, trimStage, coefficientMax]
    omega

/-- A part of 1024 at most scales down. -/
theorem scaled_le (n : Nat) {part : Nat} (h : part ≤ 1024) : n * part / 1024 ≤ n :=
  Nat.div_le_of_le_mul (by rw [Nat.mul_comm 1024]; exact Nat.mul_le_mul_left n h)

/-- The largest word is 65535 × 4095 / 4096, which is 65519 (R56). -/
theorem driveWord_le {g k level d : Nat} (hg : g ≤ 65535) (hk : k ≤ 4095) (hl : level ≤ 1024) (hd : d ≤ 1024) :
    driveWord g k level d ≤ 65519 :=
  calc driveWord g k level d
    _ ≤ levelStage (calibrationStage g k) level := scaled_le _ hd
    _ ≤ calibrationStage g k := scaled_le _ hl
    _ ≤ 65535 * 4095 / 4096 := Nat.div_le_div_right (Nat.mul_le_mul hg hk)
    _ = 65519 := rfl

theorem driveWord_dark (g k d : Nat) : driveWord g k 0 d = 0 := by
  simp [driveWord, levelStage, derateStage]

/-! ## What the reads yield -/

/-- A word of a bank is 65,535 at most. -/
theorem State.readEntry_le {s : State} {t : Table} {i v : Nat} (h : (s.readEntry t i).1 = some v) : v ≤ 65535 := by
  obtain ⟨w, -, rfl⟩ := Option.map_eq_some_iff.1 h
  exact Nat.le_of_lt_succ w.isLt

theorem State.gammaSubstitute_le (s : State) (c : Colour) (i : Nat) : (s.gammaSubstitute c i).1 ≤ 65535 := by
  unfold State.gammaSubstitute
  dsimp only
  split
  · exact Nat.zero_le _
  · split
    · cases last : (s.readEntry .gamma (gammaIndex c 255)).1 with
      | none => exact Nat.le_refl _
      | some v => exact State.readEntry_le last
    · dsimp only
      split
      · next before after =>
        have := State.readEntry_le before
        have := State.readEntry_le after
        omega
      · next before _ => exact State.readEntry_le before
      · next after => exact State.readEntry_le after
      · exact Nat.min_le_right ..

theorem State.gammaPoint_le (s : State) (c : Colour) (i : Nat) : (s.gammaPoint c i).1 ≤ 65535 := by
  unfold State.gammaPoint
  dsimp only
  split
  · next read => exact State.readEntry_le read
  · exact State.gammaSubstitute_le ..

theorem State.gammaPoints_le (c : Colour) (l : List Nat) :
    ∀ s : State, ∀ q ∈ (s.gammaPoints c l).1, q.2 ≤ 65535 := by
  induction l with
  | nil => simp [State.gammaPoints]
  | cons i is ih =>
    intro s q hq
    rcases List.mem_cons.1 hq with rfl | hq
    · exact s.gammaPoint_le c i
    · exact ih _ q hq

theorem pointValue_le {points : List (Nat × Nat)} (h : ∀ q ∈ points, q.2 ≤ 65535) (i : Nat) :
    pointValue points i ≤ 65535 := by
  unfold pointValue
  split
  · next found => exact h _ (List.mem_of_find?_eq_some found)
  · exact Nat.zero_le _

/-! ## The words (R56) -/

/-- A word lies in the range of R56, and is 0 while the level is 0. -/
def WordBounded (level w : Nat) : Prop := w ≤ 65519 ∧ (level = 0 → w = 0)

/-- The three words of a pixel are so bounded. -/
def PixelBounded (level : Nat) (w : Words) : Prop :=
  WordBounded level w.1 ∧ WordBounded level w.2.1 ∧ WordBounded level w.2.2

/-- All the words of a module are so bounded. -/
def ModuleBounded (level : Nat) (words : ModuleWords) : Prop := ∀ line ∈ words, ∀ w ∈ line, PixelBounded level w

theorem wordBounded_zero (level : Nat) : WordBounded level 0 := ⟨Nat.zero_le _, fun _ => rfl⟩

/-- The word of a colour is bounded, whatever its readings gave. -/
theorem State.colourInput_wordBounded (s : State) (m : Nat) (samples : List Pixel) (c : Colour) {level d : Nat} (p : Nat)
    (hl : level ≤ 1024) (hd : d ≤ 1024) : WordBounded level ((s.colourInput m samples c).1.word level d p) := by
  have points := pointValue_le (State.gammaPoints_le c (pointsNeeded (samples.map fun p => p.component c))
    (s.coefficient m c).2)
  exact ⟨driveWord_le (gammaStage_le p (points _) (points _)) (effective_le ..) hl hd,
    fun dark => by rw [dark]; exact driveWord_dark ..⟩

theorem State.litWords_bounded (s : State) (m : Nat) {level d : Nat} (lines : List (List Pixel)) (hl : level ≤ 1024)
    (hd : d ≤ 1024) : ModuleBounded level (s.litWords m level d lines).1 := by
  intro line hline w hw
  obtain ⟨samples, -, rfl⟩ := List.mem_map.1 hline
  obtain ⟨p, -, rfl⟩ := List.mem_map.1 hw
  exact ⟨State.colourInput_wordBounded _ _ _ _ _ hl hd, State.colourInput_wordBounded _ _ _ _ _ hl hd,
    State.colourInput_wordBounded _ _ _ _ _ hl hd⟩

theorem blackWords_bounded (level width height : Nat) : ModuleBounded level (blackWords width height) := by
  intro line hline w hw
  obtain rfl := List.eq_of_mem_replicate hline
  obtain rfl := List.eq_of_mem_replicate hw
  exact ⟨wordBounded_zero _, wordBounded_zero _, wordBounded_zero _⟩

/-- The derate of a module, the 1024 of a lit one included, is 1024 at most. -/
theorem Faults.moduleStatus_derate_le {f : Faults} (h : ∀ x ∈ f.modules, x.derate ≤ 1024) (m : Nat) :
    (f.moduleStatus m).derate ≤ 1024 := by
  unfold Faults.moduleStatus
  rw [List.getD_eq_getElem?_getD]
  cases e : f.modules[m]? with
  | none => exact Nat.le_refl _
  | some x => exact h x (List.mem_of_getElem? e)

theorem State.computeModule_bounded {s : State} (m : Nat) (hl : s.dimming.level ≤ 1024)
    (hd : ∀ x ∈ s.faults.modules, x.derate ≤ 1024) :
    ModuleBounded s.dimming.level (s.computeModule m).1 := by
  unfold State.computeModule
  dsimp only
  split
  · split
    · exact blackWords_bounded _ _ _
    · exact State.litWords_bounded _ _ _ hl (Faults.moduleStatus_derate_le hd m)
  · exact blackWords_bounded _ _ _

/-- A line that stands to be emitted is one of the module's, or empty. -/
theorem inScanOrder_bounded {words : ModuleWords} {level : Nat} (h : ModuleBounded level words)
    {g : DriveGeometry} {start y : Nat} {ws : List Words} (hy : (y, ws) ∈ inScanOrder g start words) :
    ∀ w ∈ ws, PixelBounded level w := by
  rw [eq_of_mem_inScanOrder hy, List.getD_eq_getElem?_getD]
  cases e : words[y]? with
  | none => simp
  | some line => exact h line (List.mem_of_getElem? e)

/-! ## What goes out -/

@[simp] theorem State.gammaSubstitute_out (s : State) (c : Colour) (i : Nat) : (s.gammaSubstitute c i).2.out = s.out := by
  unfold State.gammaSubstitute
  dsimp only
  split
  · rfl
  · split <;> simp

@[simp] theorem State.gammaPoint_out (s : State) (c : Colour) (i : Nat) : (s.gammaPoint c i).2.out = s.out := by
  unfold State.gammaPoint
  dsimp only
  split <;> simp

@[simp] theorem State.gammaPoints_out (s : State) (c : Colour) (l : List Nat) : (s.gammaPoints c l).2.out = s.out := by
  induction l generalizing s with
  | nil => rfl
  | cons i is ih => simp [State.gammaPoints, ih]

@[simp] theorem State.coefficient_out (s : State) (m : Nat) (c : Colour) : (s.coefficient m c).2.out = s.out := by
  unfold State.coefficient
  dsimp only
  split <;> simp

@[simp] theorem State.colourInput_out (s : State) (m : Nat) (samples : List Pixel) (c : Colour) :
    (s.colourInput m samples c).2.out = s.out := by simp [State.colourInput]

@[simp] theorem State.litWords_out (s : State) (m level d : Nat) (lines : List (List Pixel)) :
    (s.litWords m level d lines).2.out = s.out := by simp [State.litWords]

/-- A computation puts nothing out, whatever its reads find. -/
@[simp] theorem State.computeModule_out (s : State) (m : Nat) : (s.computeModule m).2.out = s.out := by
  unfold State.computeModule
  dsimp only
  split
  · split <;> simp
  · simp

theorem State.computeWords_out (s : State) : s.computeWords.out = s.out := s.computeModule_out _

/-- Settles O22: each stage keeps its range, from points and coefficients that lie in theirs however they were read. -/
theorem driveWordsAreBounded : Obligations.DriveWordsAreBounded := by
  intro s started level derates
  have words := State.computeModule_bounded (s := s.emitted) s.emitted.drive.position (by simpa using level)
    (by simpa using derates)
  rw [State.emitted_dimming] at words
  refine ⟨_, exec_moduleComputation started, _, State.computeWords_drive _, State.computeWords_out _,
    fun y ws hy w hw => ?_⟩
  obtain ⟨red, green, blue⟩ := inScanOrder_bounded words hy w hw
  exact ⟨⟨red.1, green.1, blue.1⟩, fun dark => ⟨red.2 dark, green.2 dark, blue.2 dark⟩⟩

end Sys2Proof.Machine
end

section
/-! SUPPORT. Relations between the state before and after that survive composition, the reads of the banks, the changes of the
fault table and the start and end of CABINET_DARK: each such relation holds across every event of the Fault Monitor. -/

namespace Sys2Proof.Machine

/-- A reflexive and transitive relation that holds across every read of an active entry. -/
structure ReadStable (R : State → State → Prop) : Prop where
  refl : ∀ s, R s s
  trans : ∀ {s t u}, R s t → R t u → R s u
  read : ∀ (s : State) t i, R s (s.readActive t i).2

/-- The relation holds, besides, across the primitive steps of the Fault Monitor's events. -/
structure Stable (R : State → State → Prop) : Prop extends ReadStable R where
  hand : ∀ (s : State) c, R s (s.hand c)
  faults : ∀ (s : State) f, f.flags.cabinetDark = s.faults.flags.cabinetDark → R s { s with faults := f }
  turnDark : ∀ (w : Work) b, R w.st (w.turnDark b).st

namespace ReadStable

variable {R : State → State → Prop} (h : ReadStable R)
include h

theorem readEntry (s : State) (t : Table) (i : Nat) : R s (s.readEntry t i).2 := h.read s t i

theorem readOrDefault (s : State) (t : Table) (i : Nat) : R s (s.readOrDefault t i).2 := h.read s t i

theorem readEntries (t : Table) (l : List Nat) : ∀ s : State, R s (s.readEntries t l).2 := by
  induction l with
  | nil => exact h.refl
  | cons i is ih => exact fun s => h.trans (h.readEntry s t i) (ih _)

theorem readResults (t : Table) (l : List Nat) : ∀ s : State, R s (s.readResults t l).2 := by
  induction l with
  | nil => exact h.refl
  | cons i is ih => exact fun s => h.trans (h.read s t i) (ih _)

theorem readUntilBad (t : Table) (l : List Nat) : ∀ s : State, R s (s.readUntilBad t l).2 := by
  induction l with
  | nil => exact h.refl
  | cons i is ih =>
    intro s
    have first := h.readEntry s t i
    unfold State.readUntilBad
    dsimp only
    split
    · exact first
    · exact h.trans first (ih _)

theorem ambientCurve (s : State) : R s s.ambientCurve.2 := by
  have count := h.readEntry s .ambient 0
  unfold State.ambientCurve
  dsimp only
  split
  · exact count
  · exact h.trans count (h.readUntilBad ..)

/-! ## The inputs of a module computation -/

theorem gammaSubstitute (s : State) (c : Colour) (i : Nat) : R s (s.gammaSubstitute c i).2 := by
  unfold State.gammaSubstitute
  split
  · exact h.refl s
  · split
    · exact h.readEntry ..
    · exact h.trans (h.readEntry ..) (h.readEntry ..)

theorem gammaPoint (s : State) (c : Colour) (i : Nat) : R s (s.gammaPoint c i).2 := by
  have point := h.readEntry s .gamma (gammaIndex c i)
  unfold State.gammaPoint
  dsimp only
  split
  · exact point
  · exact h.trans point (h.gammaSubstitute ..)

theorem gammaPoints (c : Colour) (l : List Nat) : ∀ s : State, R s (s.gammaPoints c l).2 := by
  induction l with
  | nil => exact h.refl
  | cons i is ih => exact fun s => h.trans (h.gammaPoint s c i) (ih _)

theorem coefficient (s : State) (m : Nat) (c : Colour) : R s (s.coefficient m c).2 := by
  have own := h.readEntry s .calibration (3 * m + c.index)
  unfold State.coefficient
  dsimp only
  split
  · exact own
  · exact h.trans own (h.readEntry ..)

theorem colourInput (s : State) (m : Nat) (samples : List Pixel) (c : Colour) : R s (s.colourInput m samples c).2 :=
  h.trans (h.coefficient s m c) (h.gammaPoints ..)

theorem computeModule (s : State) (m : Nat) : R s (s.computeModule m).2 := by
  have layout := h.readEntries .layout [2, 4, 6, 7] s
  unfold State.computeModule
  dsimp only
  generalize s.readEntries .layout [2, 4, 6, 7] = r at layout ⊢
  split
  · split
    · exact layout
    · exact h.trans layout (h.trans (h.colourInput ..) (h.trans (h.colourInput ..) (h.colourInput ..)))
  · exact layout

end ReadStable

namespace Stable

variable {R : State → State → Prop} (h : Stable R)
include h

/-! ## The fault table -/

theorem setFaults (w : Work) {f : Faults} (same : f.flags.cabinetDark = w.faults.flags.cabinetDark) :
    R w.st (w.setFaults f).st := h.faults w.st f same

theorem readActions (l : List FaultRecord) : ∀ s : State, R s (s.readActions l).2 := by
  induction l with
  | nil => exact h.refl
  | cons r rs ih => exact fun s => h.trans (h.readOrDefault ..) (h.trans (h.readOrDefault ..) (ih _))

theorem deriveModule (s : State) (m : Nat) : R s (s.deriveModule m) :=
  h.trans (h.readActions (s.faults.acting m) s) (h.faults _ _ rfl)

theorem deriveModules (l : List Nat) : ∀ s : State, R s (s.deriveModules l) := by
  induction l with
  | nil => exact h.refl
  | cons m ms ih => exact fun s => h.trans (h.deriveModule s m) (ih _)

theorem deriveScope (w : Work) (scope : Option Nat) : R w.st (w.deriveScope scope).st := by
  cases scope with
  | none => exact h.refl w.st
  | some m => exact h.deriveModule w.st m

theorem drop (w : Work) (r : FaultRecord) : R w.st (w.drop r).st := h.setFaults w rfl

theorem free (w : Work) (r : FaultRecord) : R w.st (w.free r).st := by
  rcases w.free_cases r with ⟨-, e⟩ | ⟨m, -, e⟩
  · exact e ▸ h.drop w r
  · exact e ▸ h.trans (h.drop w r) (h.deriveModule _ m)

theorem makeRoom (w : Work) : R w.st w.makeRoom.st := by
  unfold Work.makeRoom
  split
  · exact h.refl w.st
  · split
    · exact h.free (w.sayRecord .cleared _) _
    · split
      · exact h.free w _
      · exact h.setFaults w rfl

theorem place (w : Work) (r : FaultRecord) : R w.st (w.place r).2.st := by
  unfold Work.place
  split
  · exact h.setFaults w rfl
  · exact h.refl w.st

theorem create (w : Work) (r : FaultRecord) : R w.st (w.create r).2.st := h.trans (h.makeRoom w) (h.place ..)

/-! ## Debouncing -/

theorem enterActive (w : Work) (r : FaultRecord) : R w.st (w.enterActive r).st := by
  unfold Work.enterActive
  split
  · exact h.setFaults w rfl
  · dsimp only
    refine h.trans ?_ (h.deriveScope _ _)
    split <;> exact h.trans (h.setFaults w rfl) (h.setFaults _ rfl)

theorem readConfirm (w : Work) (k : FaultKind) : R w.st (w.readConfirm k).2.st := h.readOrDefault w.st ..

theorem readRelease (w : Work) (k : FaultKind) : R w.st (w.readRelease k).2.st := h.readOrDefault w.st ..

theorem miss (w : Work) (r : FaultRecord) (n : Nat) : R w.st (w.miss r n).st := by
  have count := h.readRelease w r.kind
  unfold Work.miss
  dsimp only
  split
  · exact h.trans count (h.free ((w.readRelease r.kind).2.sayRecord .cleared r) r)
  · exact h.trans count (h.setFaults _ rfl)

theorem debounce (w : Work) (e : Evaluation) : R w.st (w.debounce e).st := by
  have count := h.readConfirm w e.kind
  unfold Work.debounce
  dsimp only
  split
  · split
    · have created := h.trans count (h.create _ (newRecord e w.st.stamp))
      split
      · split
        · exact h.trans created (h.enterActive ..)
        · exact created
      · exact created
    · exact h.refl w.st
  · next r _ =>
    split
    · have replaced := h.trans count (h.setFaults (w.readConfirm e.kind).2
        (f := (w.readConfirm e.kind).2.faults.replace (r.detect w.st.stamp e.detail)) rfl)
      split
      · exact h.trans replaced (h.enterActive ..)
      · exact replaced
    · exact h.free w r
    · exact h.setFaults w rfl
    · exact h.miss w r 1
    · exact h.setFaults w rfl
    · exact h.miss w r _
    · exact h.refl w.st

/-! ## Conditions -/

theorem raise (w : Work) (k : FaultKind) (d : Detail) : R w.st (w.raise k d).st := by
  have created := h.create w (conditionRecord k d w.st.stamp)
  unfold Work.raise
  dsimp only
  split <;> exact created

theorem clear (w : Work) (k : FaultKind) : R w.st (w.clear k).st := by
  unfold Work.clear
  split
  · exact h.free (w.sayRecord .cleared _) _
  · exact h.refl w.st

theorem refresh (w : Work) (k : FaultKind) : R w.st (w.refresh k).st := by
  unfold Work.refresh
  split
  · exact h.setFaults w rfl
  · exact h.refl w.st

/-- CABINET_DARK turns the light off and on; the other conditions set their flag alone. -/
theorem setFlag (w : Work) (c : Condition) (b : Bool) : R w.st ((w.setFlag c b).tellDimming c b).st := by
  cases c with
  | cabinetDark => exact h.turnDark w b
  | _ => exact h.setFaults w rfl

theorem condition (w : Work) (c : Condition) (present : Bool) : R w.st (w.condition c present).st := by
  unfold Work.condition
  split
  · exact h.trans (h.setFlag w c true) (h.raise ..)
  · exact h.refresh w _
  · exact h.trans (h.setFlag w c false) (h.clear ..)
  · exact h.refl w.st

theorem setEccDetail (w : Work) (t : Table) : R w.st (w.setEccDetail t).st := by
  unfold Work.setEccDetail
  split
  · exact h.setFaults w rfl
  · exact h.refl w.st

theorem eccNew (w : Work) (t : Table) : R w.st (w.eccNew t).st := by
  have added := h.setFaults w (f := { w.faults with affected := affectedWith w.faults.affected t }) rfl
  unfold Work.eccNew
  dsimp only
  split
  · exact h.trans added (h.setFaults _ rfl)
  · exact h.trans added (h.raise ..)

theorem eccEnd (w : Work) (t : Table) : R w.st (w.eccEnd t).st := by
  have removed := h.setFaults w (f := { w.faults with affected := w.faults.affected.filter (· != t) }) rfl
  unfold Work.eccEnd
  dsimp only
  split
  · exact h.trans removed (h.trans (h.setEccDetail ..) (h.clear ..))
  · exact h.trans removed (h.setEccDetail ..)

theorem tableEcc (w : Work) (t : Table) (present : Bool) : R w.st (w.tableEcc t present).st := by
  unfold Work.tableEcc
  split
  · split
    · exact h.refl w.st
    · split
      · exact h.refresh w _
      · exact h.eccNew w t
  · split
    · exact h.eccEnd w t
    · exact h.refl w.st

theorem recordCondition (w : Work) (k : FaultKind) : R w.st (w.recordCondition k).st := by
  unfold Work.recordCondition
  split
  · have placed (d : Detail) := h.place w (conditionRecord k d w.st.stamp)
    dsimp only
    split <;> exact placed _
  · exact h.refl w.st

/-- Steps across which the relation holds one by one. -/
theorem foldl {α : Type} {f : Work → α → Work} (each : ∀ w a, R w.st (f w a).st) (l : List α) :
    ∀ w : Work, R w.st (l.foldl f w).st := by
  induction l with
  | nil => exact fun w => h.refl w.st
  | cons a as ih => exact fun w => h.trans (each w a) (ih _)

theorem recordConditions (w : Work) : R w.st w.recordConditions.st := by
  unfold Work.recordConditions
  split
  · exact h.foldl h.recordCondition conditionKinds w
  · exact h.refl w.st

/-! ## What follows the transitions of an event -/

theorem evaluateDark (w : Work) : R w.st w.evaluateDark.st := by
  have count := h.readOrDefault w.st .limits 6
  unfold Work.evaluateDark
  dsimp only
  split
  · split
    · exact count
    · exact h.trans count (h.condition { w with st := (w.st.readOrDefault .limits 6).2 } ..)
  · exact h.trans count (h.condition { w with st := (w.st.readOrDefault .limits 6).2 } ..)

theorem admitOne (w : Work) (m : Nat) : R w.st (w.admitOne m).st :=
  h.trans (h.faults w.st { w.faults with
    restoreQueue := w.faults.restoreQueue.tail, history := w.faults.history ++ [w.st.now] } rfl) (h.deriveModule _ m)

theorem admitHead (w : Work) (m : Nat) : R w.st (w.admitHead m).st :=
  h.trans (h.admitOne w m) (h.evaluateDark (w.admitOne m))

theorem admitAll (n : Nat) : ∀ w : Work, R w.st (w.admitAll n).st := by
  induction n with
  | zero => exact fun w => h.refl w.st
  | succ n ih =>
    intro w
    unfold Work.admitAll
    split
    · split
      · exact h.trans (h.admitHead w _) (ih _)
      · exact h.refl w.st
    · exact h.refl w.st

theorem settle (w : Work) (before : Nat) : R w.st (w.settle before).st := by
  have admitted := h.admitAll historyMax w
  unfold Work.settle
  dsimp only
  refine h.trans ?_ (h.trans (h.admitAll historyMax _) (h.recordConditions _))
  split
  · exact admitted
  · exact h.trans admitted (h.evaluateDark _)

/-! ## Events -/

theorem carry {f : Work → Work} (change : ∀ w, R w.st (f w).st) (w : Work) : R w.st (w.carry f).st :=
  h.trans (change w) (h.settle ..)

theorem evaluation (w : Work) (e : Evaluation) : R w.st (w.evaluation e).st := by
  unfold Work.evaluation
  split
  · split
    · exact h.carry (fun w => h.debounce w e) w
    · exact h.refl w.st
  · exact h.carry (fun w => h.debounce w e) w

theorem clearLatched (w : Work) (r : FaultRecord) : R w.st (w.clearLatched r).st := by
  refine h.carry (fun w => ?_) w
  refine h.trans ?_ (h.free _ r)
  split
  · exact h.setFaults w rfl
  · exact h.refl w.st

theorem removeModule (w : Work) (m : Nat) : R w.st (w.removeModule m).st :=
  w.removeModule_st m ▸ h.setFaults w rfl

theorem layoutSwap (n : Nat) (w : Work) : R w.st (w.layoutSwap n).st := by
  unfold Work.layoutSwap
  dsimp only
  refine h.trans ?_ (h.settle ..)
  refine h.trans ?_ (h.evaluateDark _)
  refine h.trans ?_ (h.recordConditions _)
  refine h.trans ?_ (h.admitAll historyMax _)
  refine h.trans ?_ (h.deriveModules (List.range n) _)
  exact h.trans (h.foldl h.removeModule _ w) (h.setFaults _ rfl)

theorem faultEvent {f : Work → Work} (change : ∀ w, R w.st (f w).st) (s : State) : R s (s.faultEvent f) := by
  have worked := change ⟨s, [], false⟩
  unfold State.faultEvent
  dsimp only
  split
  · exact worked
  · exact h.trans worked (h.hand ..)

theorem faultLayoutSwap (s : State) : R s s.faultLayoutSwap := h.faultEvent (h.layoutSwap _) s

theorem faultPolicySwap (s : State) : R s s.faultPolicySwap :=
  h.faultEvent (h.carry fun w => h.deriveModules _ w.st) s

theorem faultLimitsSwap (s : State) : R s s.faultLimitsSwap := h.faultEvent (h.carry h.evaluateDark) s

theorem faultClear (args : List Byte) (s : State) : R s (faultClear args s).2 := by
  unfold Machine.faultClear
  split
  · exact h.refl s
  · split
    · split
      · exact h.faultEvent (fun w => h.clearLatched w _) s
      · exact h.refl s
    · exact h.refl s
  · exact h.faultEvent (h.foldl h.clearLatched _) s

end Stable

end Sys2Proof.Machine
end

section
/-! SUPPORT. The level, the target and the ceiling: their invariant, part by part, and the relation that reads,
recomputations, clamps and events of the Fault Monitor keep (R68 to R70, R73, R75 to R77). -/

namespace Sys2Proof.Machine

/-! ## The invariant of the level and the stream, part by part -/

/-- L is at most C, and 0 while the part is UNCONFIGURED or CABINET_DARK holds (R75, R76). -/
structure LevelFit (s : State) : Prop where
  level : s.dimming.level ≤ s.dimming.ceiling
  unconfigured : s.unconfigured = true → s.dimming.level = 0
  cabinetDark : s.faults.flags.cabinetDark = true → s.dimming.level = 0

/-- The target and the mode agree with L's conditions: T is at most C, the mode is FORCED_DARK just while a forced-dark condition
holds, and T is 0 then (R68 to R70). -/
structure LightFit (s : State) : Prop extends LevelFit s where
  target : s.dimming.target ≤ s.dimming.ceiling
  mode : s.forcedDark = true ↔ s.dimming.mode = .forcedDark
  dark : s.forcedDark = true → s.dimming.target = 0

/-- C is the same at both blocks that hold it, and at most 1024 (R83, R96). -/
structure CeilingFit (s : State) : Prop where
  bound : s.dimming.ceiling ≤ 1024
  held : s.time.ceiling = s.dimming.ceiling

/-- Each stream timer runs just in its states (R113 to R116, R123). -/
structure TimersFit (x : Stream) (started : Bool) : Prop where
  timeout : x.timeout ≠ none ↔ x.state = .live
  hold : x.hold ≠ none ↔ x.state = .holding
  localTick : x.localTick ≠ none ↔ started = true ∧ (x.state = .darkening ∨ x.state = .dark)

/-- A part that has not started up receives nothing and is dark (R22, R83, R123). -/
structure WaitsDark (s : State) : Prop where
  port : s.link.upU = false
  stream : s.stream.state = .dark
  level : s.dimming.level = 0

/-- The invariant of the level and the stream but for the banks. -/
structure DimFit (s : State) : Prop where
  light : LightFit s
  ceiling : CeilingFit s
  timers : TimersFit s.stream s.started
  waits : s.started = false → WaitsDark s

theorem levelInvariant_iff (s : State) : LevelInvariant s ↔ BankInvariant s ∧ DimFit s := by
  constructor
  · rintro ⟨banks, level, target, bound, held, mode, dark, unconfigured, cabinetDark, timeout, hold, localTick, waits⟩
    refine ⟨banks, ⟨⟨⟨level, unconfigured, cabinetDark⟩, target, mode, dark⟩, ⟨bound, held⟩, ⟨timeout, hold, localTick⟩,
      fun off => ?_⟩⟩
    obtain ⟨port, stream, zero⟩ := waits off
    exact ⟨port, stream, zero⟩
  · rintro ⟨banks, ⟨⟨⟨level, unconfigured, cabinetDark⟩, target, mode, dark⟩, ⟨bound, held⟩, ⟨timeout, hold, localTick⟩,
      waits⟩⟩
    exact ⟨banks, level, target, bound, held, mode, dark, unconfigured, cabinetDark, timeout, hold, localTick,
      fun off => ⟨(waits off).port, (waits off).stream, (waits off).level⟩⟩

/-! ## Forced-dark conditions -/

theorem State.unconfigured_congr {s t : State} (h : t.tables = s.tables) : t.unconfigured = s.unconfigured := by
  simp only [State.unconfigured, State.table, h]

theorem State.forcedDark_congr {s t : State} (unconfigured : t.unconfigured = s.unconfigured)
    (cabinetDark : t.faults.flags.cabinetDark = s.faults.flags.cabinetDark)
    (stream : t.stream.state.forcesDark = s.stream.state.forcesDark) : t.forcedDark = s.forcedDark := by
  simp only [State.forcedDark, unconfigured, cabinetDark, stream]

theorem State.forcedDark_of_unconfigured {s : State} (h : s.unconfigured = true) : s.forcedDark = true := by
  simp [State.forcedDark, h]

theorem State.forcedDark_of_cabinetDark {s : State} (h : s.faults.flags.cabinetDark = true) : s.forcedDark = true := by
  simp [State.forcedDark, h]

theorem State.forcedDark_of_stream {s : State} (h : s.stream.state.forcesDark = true) : s.forcedDark = true := by
  simp [State.forcedDark, h]

/-- The states with the same light: L, T, C and the mode, and the forced-dark conditions one by one. -/
theorem LightFit.congr {s t : State} (h : LightFit s) (dimming : t.dimming = s.dimming)
    (unconfigured : t.unconfigured = s.unconfigured)
    (cabinetDark : t.faults.flags.cabinetDark = s.faults.flags.cabinetDark)
    (stream : t.stream.state.forcesDark = s.stream.state.forcesDark) : LightFit t := by
  have conditions := State.forcedDark_congr unconfigured cabinetDark stream
  refine ⟨⟨?_, ?_, ?_⟩, ?_, ?_, ?_⟩
  · exact dimming ▸ h.level
  · rw [unconfigured, dimming]
    exact h.unconfigured
  · rw [cabinetDark, dimming]
    exact h.cabinetDark
  · exact dimming ▸ h.target
  · rw [conditions, dimming]
    exact h.mode
  · rw [conditions, dimming]
    exact h.dark

/-- A state that is dark by a condition, with L and T at 0. -/
theorem LightFit.of_dark {s : State} (dark : s.forcedDark = true) (level : s.dimming.level = 0)
    (target : s.dimming.target = 0) (mode : s.dimming.mode = .forcedDark) : LightFit s where
  level := by omega
  unconfigured _ := level
  cabinetDark _ := level
  target := by omega
  mode := iff_of_true dark mode
  dark _ := target

/-! ## The relation -/

/-- L is not higher, C is as it was, and port U has not come up. -/
structure Dims (s t : State) : Prop where
  lower : t.dimming.level ≤ s.dimming.level
  ceiling : t.dimming.ceiling = s.dimming.ceiling
  clock : t.time.ceiling = s.time.ceiling
  started : t.started = s.started
  port : s.link.upU = false → t.link.upU = false

/-- The stream is as it was, besides, and the light still fits its conditions. -/
structure Dimmed (s t : State) : Prop extends Dims s t where
  stream : t.stream = s.stream
  light : LightFit s → LightFit t

theorem Dims.trans {s t u : State} (h : Dims s t) (k : Dims t u) : Dims s u where
  lower := k.lower.trans h.lower
  ceiling := k.ceiling.trans h.ceiling
  clock := k.clock.trans h.clock
  started := k.started.trans h.started
  port down := k.port (h.port down)

/-- A state with the same L and C. -/
theorem Dims.of_fields {s t : State} (h : t.dimming.level = s.dimming.level ∧ t.dimming.ceiling = s.dimming.ceiling ∧
    t.time.ceiling = s.time.ceiling ∧ t.started = s.started ∧ t.link.upU = s.link.upU) : Dims s t := by
  obtain ⟨level, ceiling, clock, started, port⟩ := h
  exact ⟨level.le, ceiling, clock, started, port.trans⟩

theorem Dimmed.trans {s t u : State} (h : Dimmed s t) (k : Dimmed t u) : Dimmed s u where
  toDims := h.toDims.trans k.toDims
  stream := k.stream.trans h.stream
  light fit := k.light (h.light fit)

theorem Dims.refl (s : State) : Dims s s := .of_fields ⟨rfl, rfl, rfl, rfl, rfl⟩

theorem Dimmed.refl (s : State) : Dimmed s s := ⟨.refl s, rfl, id⟩

/-- What is left of the invariant where a step keeps L and C. -/
theorem Dims.fit {s t : State} (h : Dims s t) (fit : DimFit s) (light : LightFit t) (timers : TimersFit t.stream t.started)
    (waits : s.started = false → t.stream.state = s.stream.state) : DimFit t where
  light := light
  ceiling := by
    obtain ⟨bound, held⟩ := fit.ceiling
    exact ⟨h.ceiling ▸ bound, by rw [h.clock, h.ceiling, held]⟩
  timers := timers
  waits off := by
    rw [h.started] at off
    obtain ⟨port, stream, level⟩ := fit.waits off
    exact ⟨h.port port, (waits off).trans stream, Nat.le_zero.mp (level ▸ h.lower)⟩

theorem Dimmed.fit {s t : State} (h : Dimmed s t) (fit : DimFit s) : DimFit t :=
  h.toDims.fit fit (h.light fit.light) (by rw [h.stream, h.started]; exact fit.timers) fun _ => by rw [h.stream]

/-- A state with the same dimming, causes of UNCONFIGURED, CABINET_DARK, C and stream. -/
theorem Dimmed.of_marks {s t : State} (unconfigured : t.unconfigured = s.unconfigured) (h : t.dimming = s.dimming ∧
    t.faults.flags.cabinetDark = s.faults.flags.cabinetDark ∧ t.time.ceiling = s.time.ceiling ∧ t.stream = s.stream ∧
    t.started = s.started ∧ t.link.upU = s.link.upU) : Dimmed s t := by
  obtain ⟨dimming, cabinetDark, clock, stream, started, port⟩ := h
  exact ⟨.of_fields ⟨by rw [dimming], by rw [dimming], clock, started, port⟩, stream,
    fun fit => fit.congr dimming unconfigured cabinetDark (by rw [stream])⟩

/-- A state with the same dimming, tables, CABINET_DARK, C and stream. -/
theorem Dimmed.of_fields {s t : State} (h : t.tables = s.tables ∧ t.dimming = s.dimming ∧
    t.faults.flags.cabinetDark = s.faults.flags.cabinetDark ∧ t.time.ceiling = s.time.ceiling ∧ t.stream = s.stream ∧
    t.started = s.started ∧ t.link.upU = s.link.upU) : Dimmed s t :=
  .of_marks (State.unconfigured_congr h.1) h.2

theorem Dimmed.ite {s t u : State} {c : Prop} [Decidable c] (h : Dimmed s t) (k : Dimmed s u) :
    Dimmed s (if c then t else u) := by
  split <;> assumption

/-! ## Hand-overs, the start of a forced-dark condition, and reads -/

theorem State.hand_dimmed (s : State) (c : Instr) : Dimmed s (s.hand c) := .of_fields (by simp)

theorem State.take_dimmed (s : State) (c : Instr) : Dimmed s (s.take c) := .of_fields (by simp)

@[simp] theorem State.lowerLevel_level (s : State) (l : Nat) : (s.lowerLevel l).dimming.level = l := by
  unfold State.lowerLevel
  dsimp only
  split <;> rfl

theorem State.lowerLevel_forcedDark (s : State) (l : Nat) : (s.lowerLevel l).forcedDark = s.forcedDark :=
  State.forcedDark_congr (State.unconfigured_congr (by simp)) (by simp) (by simp)

theorem State.lowerLevel_dimmed {s : State} {l : Nat} (h : l ≤ s.dimming.level) : Dimmed s (s.lowerLevel l) where
  lower := by simpa using h
  ceiling := by simp
  clock := by simp
  stream := by simp
  started := by simp
  port := by simp
  light fit := by
    have zero (e : s.dimming.level = 0) : (s.lowerLevel l).dimming.level = 0 := by simp; omega
    refine ⟨⟨?_, ?_, ?_⟩, ?_, ?_, ?_⟩
    · simpa using h.trans fit.level
    · rw [State.unconfigured_congr (s.lowerLevel_tables l)]
      exact fun on => zero (fit.unconfigured on)
    · rw [State.lowerLevel_faults]
      exact fun on => zero (fit.cabinetDark on)
    · simpa using fit.target
    · simpa [State.lowerLevel_forcedDark] using fit.mode
    · simpa [State.lowerLevel_forcedDark] using fit.dark

/-- The target of a recomputation that finds a forced-dark condition. -/
theorem State.darkTarget_light {s : State} (h : LevelFit s) (dark : s.forcedDark = true) : LightFit s.darkTarget where
  level := by simpa using h.level
  unconfigured on := h.unconfigured on
  cabinetDark on := h.cabinetDark on
  target := Nat.zero_le _
  mode := iff_of_true dark rfl
  dark _ := rfl

theorem State.darkAtOnce_level (s : State) : s.darkAtOnce.dimming.level = 0 := by simp [State.darkAtOnce]

theorem State.darkAtOnce_light {s : State} (dark : s.forcedDark = true) : LightFit s.darkAtOnce :=
  .of_dark ((State.forcedDark_congr (State.unconfigured_congr (by simp)) (by simp) (by simp)).trans dark) s.darkAtOnce_level rfl rfl

/-- L and T go to 0 in a state that has come to a forced-dark condition. -/
theorem State.darkAtOnce_dimmed {s t : State} (dark : t.forcedDark = true) (dimming : t.dimming = s.dimming)
    (clock : t.time.ceiling = s.time.ceiling) (stream : t.stream = s.stream) (started : t.started = s.started)
    (port : t.link.upU = s.link.upU) : Dimmed s t.darkAtOnce where
  lower := by simp [State.darkAtOnce_level]
  ceiling := by simp [dimming]
  clock := by simpa using clock
  stream := by simpa using stream
  started := by simpa using started
  port := by simp [port]
  light _ := State.darkAtOnce_light dark

/-- UNCONFIGURED begins in a state that has come to it (R76). -/
theorem State.beginUnconfigured_dimmed {s t : State} (on : t.unconfigured = true) (dimming : t.dimming = s.dimming)
    (clock : t.time.ceiling = s.time.ceiling) (stream : t.stream = s.stream) (started : t.started = s.started)
    (port : t.link.upU = s.link.upU) : Dimmed s t.beginUnconfigured :=
  (State.darkAtOnce_dimmed (State.forcedDark_of_unconfigured on) dimming clock stream started port).trans
    (.of_fields ⟨rfl, rfl, rfl, rfl, rfl, rfl, rfl⟩)

/-- The state that an uncorrectable error leaves before the start of UNCONFIGURED (R166). -/
def State.withMark (s : State) (t : Table) (i : Nat) : State :=
  (s.setTable t { s.table t with bad := (s.table t).bad ++ [i] }).hand (.tableEccDelivery t true)

theorem State.markBad_eq (s : State) (t : Table) (i : Nat) : s.markBad t i =
    if !s.unconfigured && (s.withMark t i).unconfigured then (s.withMark t i).beginUnconfigured else s.withMark t i := rfl

/-- A mark never ends UNCONFIGURED. -/
theorem State.withMark_unconfigured {s : State} (t : Table) (i : Nat) (h : s.unconfigured = true) :
    (s.withMark t i).unconfigured = true := by
  have more (x : Table) : (s.table x).bad.isEmpty = false → ((s.withMark t i).table x).bad.isEmpty = false := by
    unfold State.withMark
    by_cases e : x = t <;> simp [e]
  simp only [State.unconfigured, Bool.or_eq_true, Bool.not_eq_eq_eq_not, Bool.not_true] at h ⊢
  exact h.imp (.imp (.imp id (more _)) (more _)) (more _)

/-- An uncorrectable error adds a cause of UNCONFIGURED or none: the light goes out, or stands as it was. -/
theorem State.markBad_dimmed (s : State) (t : Table) (i : Nat) : Dimmed s (s.markBad t i) := by
  rw [State.markBad_eq]
  by_cases before : s.unconfigured = true
  · have after := s.withMark_unconfigured t i before
    simp only [before, Bool.not_true, Bool.false_and, Bool.false_eq_true, if_false]
    refine ⟨.of_fields ⟨rfl, rfl, rfl, rfl, rfl⟩, rfl, fun fit => ?_⟩
    have dark := State.forcedDark_of_unconfigured before
    exact .of_dark (State.forcedDark_of_unconfigured after) (fit.unconfigured before) (fit.dark dark)
      (fit.mode.mp dark)
  · by_cases after : (s.withMark t i).unconfigured = true
    · simp only [before, after, Bool.not_false, Bool.and_self, if_true]
      exact State.beginUnconfigured_dimmed after rfl rfl rfl rfl rfl
    · simp only [after, Bool.and_false, Bool.false_eq_true, if_false]
      refine ⟨.of_fields ⟨rfl, rfl, rfl, rfl, rfl⟩, rfl, fun fit => ?_⟩
      have same : (s.withMark t i).unconfigured = s.unconfigured := by simp [before, after]
      have conditions : (s.withMark t i).forcedDark = s.forcedDark := by
        unfold State.forcedDark
        rw [same]
        rfl
      exact ⟨⟨fit.level, fun on => absurd on after, fit.cabinetDark⟩, fit.target, conditions ▸ fit.mode,
        conditions ▸ fit.dark⟩

theorem State.noteCorrected_dimmed (s : State) (t : Table) (b : BankName) (i : Nat) : Dimmed s (s.noteCorrected t b i) where
  toDims := .of_fields ⟨rfl, rfl, rfl, rfl, rfl⟩
  stream := rfl
  light fit := ⟨⟨fit.level, fit.unconfigured, fit.cabinetDark⟩, fit.target, fit.mode, fit.dark⟩

theorem State.readActive_dimmed (s : State) (t : Table) (i : Nat) : Dimmed s (s.readActive t i).2 := by
  have consulted : Dimmed s (s.consult t .active i).2 := .of_fields (by simp)
  unfold State.readActive
  split
  · exact .refl s
  · dsimp only
    split
    · exact consulted
    · exact consulted.trans (State.noteCorrected_dimmed ..)
    · exact consulted.trans (State.markBad_dimmed ..)

theorem State.readEntry_dimmed (s : State) (t : Table) (i : Nat) : Dimmed s (s.readEntry t i).2 := s.readActive_dimmed t i

theorem State.readOrDefault_dimmed (s : State) (t : Table) (i : Nat) : Dimmed s (s.readOrDefault t i).2 :=
  s.readActive_dimmed t i

/-- A read that yields a value leaves the Dimming Controller and the marks of every table as they were. -/
theorem State.readEntry_some {s : State} {t : Table} {i v : Nat} (h : (s.readEntry t i).1 = some v) :
    (s.readEntry t i).2.dimming = s.dimming ∧ (∀ x, ((s.readEntry t i).2.table x).bad = (s.table x).bad) ∧
      (s.readEntry t i).2.handed = s.handed := by
  unfold State.readEntry State.readActive at h ⊢
  by_cases bad : i ∈ (s.table t).bad
  · simp [bad, ReadResult.value] at h
  · rw [if_neg bad] at h ⊢
    dsimp only at h ⊢
    split at h
    · exact ⟨rfl, fun _ => rfl, rfl⟩
    · exact ⟨rfl, fun _ => rfl, rfl⟩
    · simp [ReadResult.value] at h

/-- A bad mark of LAYOUT, LIMITS or POLICY is a cause of UNCONFIGURED (R169). -/
theorem State.unconfigured_of_marked {s : State} {t : Table} (essential : t.essential = true)
    (marked : (s.table t).bad.isEmpty = false) : s.unconfigured = true := by
  unfold State.unconfigured
  cases t with
  | layout => simp only [marked, Bool.not_false, Bool.or_true, Bool.true_or]
  | limits => simp only [marked, Bool.not_false, Bool.or_true, Bool.true_or]
  | policy => simp only [marked, Bool.not_false, Bool.or_true]
  | _ => simp [Table.essential] at essential

/-- A mark of another table is none. -/
theorem State.withMark_other {t : Table} (other : t.essential = false) (s : State) (i : Nat) :
    (s.withMark t i).unconfigured = s.unconfigured := by
  have same {x : Table} (e : x ≠ t) : (s.withMark t i).table x = s.table x := by simp [State.withMark, e]
  unfold State.unconfigured
  cases t with
  | layout | limits | policy => simp [Table.essential] at other
  | _ => rw [same (by simp), same (by simp), same (by simp)]; rfl

/-- A read that finds an entry of LAYOUT, LIMITS or POLICY bad leaves the part UNCONFIGURED (R169). -/
theorem State.readEntry_none {s : State} {t : Table} {i : Nat} (essential : t.essential = true)
    (h : (s.readEntry t i).1 = none) : (s.readEntry t i).2.unconfigured = true := by
  unfold State.readEntry State.readActive at h ⊢
  by_cases bad : i ∈ (s.table t).bad
  · rw [if_pos bad]
    exact State.unconfigured_of_marked essential (by simpa using List.ne_nil_of_mem bad)
  · rw [if_neg bad] at h ⊢
    dsimp only at h ⊢
    split at h
    · simp [ReadResult.value] at h
    · simp [ReadResult.value] at h
    · refine State.unconfigured_of_marked essential ?_
      rw [State.markBad_eq]
      split <;> simp [State.withMark]

/-- What an uncorrectable error does to the Dimming Controller: nothing, or it comes to UNCONFIGURED. -/
theorem State.markBad_cases (s : State) (t : Table) (i : Nat) :
    ((s.markBad t i).dimming = s.dimming ∧ (s.markBad t i).unconfigured = s.unconfigured) ∨
      (t.essential = true ∧ LightFit (s.markBad t i)) := by
  rw [State.markBad_eq]
  by_cases before : s.unconfigured = true
  · simp only [before, Bool.not_true, Bool.false_and, Bool.false_eq_true, if_false]
    exact .inl ⟨rfl, s.withMark_unconfigured t i before⟩
  · by_cases after : (s.withMark t i).unconfigured = true
    · simp only [before, after, Bool.not_false, Bool.and_self, if_true]
      refine .inr ⟨?_, ?_⟩
      · by_contra other
        exact before ((s.withMark_other (by simpa using other) i).symm.trans after)
      · exact (State.darkAtOnce_light (State.forcedDark_of_unconfigured after)).congr rfl rfl rfl rfl
    · simp only [after, Bool.and_false, Bool.false_eq_true, if_false]
      exact .inl ⟨rfl, by simp [before]⟩

theorem State.readActive_cases (s : State) (t : Table) (i : Nat) :
    ((s.readActive t i).2.dimming = s.dimming ∧ (s.readActive t i).2.unconfigured = s.unconfigured) ∨
      (t.essential = true ∧ LightFit (s.readActive t i).2) := by
  unfold State.readActive
  split
  · exact .inl ⟨rfl, rfl⟩
  · dsimp only
    split
    · exact .inl ⟨rfl, rfl⟩
    · exact .inl ⟨rfl, rfl⟩
    · exact (s.consult t .active i).2.markBad_cases t i

/-! ## The recomputation of T (R69, R70) -/

/-- The Dimming Controller and the conditions that darken it are as they were. -/
structure Unmoved (s t : State) : Prop where
  dimming : t.dimming = s.dimming
  unconfigured : t.unconfigured = s.unconfigured
  faults : t.faults = s.faults
  stream : t.stream = s.stream

theorem Unmoved.trans {s t u : State} (h : Unmoved s t) (k : Unmoved t u) : Unmoved s u :=
  ⟨k.dimming.trans h.dimming, k.unconfigured.trans h.unconfigured, k.faults.trans h.faults, k.stream.trans h.stream⟩

/-- A read of a table whose marks do not make the part UNCONFIGURED. -/
theorem State.readEntry_unmoved {t : Table} (other : t.essential = false) (s : State) (i : Nat) :
    Unmoved s (s.readEntry t i).2 := by
  rcases s.readActive_cases t i with ⟨dimming, unconfigured⟩ | ⟨essential, -⟩
  · exact ⟨dimming, unconfigured, by simp, by simp⟩
  · exact absurd essential (by simp [other])

theorem State.readUntilBad_unmoved {t : Table} (other : t.essential = false) (l : List Nat) :
    ∀ s : State, Unmoved s (s.readUntilBad t l).2 := by
  induction l with
  | nil => exact fun s => ⟨rfl, rfl, rfl, rfl⟩
  | cons i is ih =>
    intro s
    have first := State.readEntry_unmoved other s i
    unfold State.readUntilBad
    dsimp only
    split
    · exact first
    · exact first.trans (ih _)

theorem State.ambientCurve_unmoved (s : State) : Unmoved s s.ambientCurve.2 := by
  have count := State.readEntry_unmoved (t := .ambient) rfl s 0
  unfold State.ambientCurve
  dsimp only
  split
  · exact count
  · exact count.trans (State.readUntilBad_unmoved rfl ..)

/-- No forced-dark condition holds, and L fits. -/
structure Lit (s : State) : Prop extends LevelFit s where
  lit : s.forcedDark = false

theorem Lit.configured {s : State} (h : Lit s) : s.unconfigured = false := by
  by_contra on
  exact absurd (State.forcedDark_of_unconfigured (by simpa using on)) (by simp [h.lit])

theorem Lit.of_unmoved {s t : State} (h : Lit s) (same : Unmoved s t) : Lit t where
  level := same.dimming ▸ h.level
  unconfigured on := same.dimming ▸ h.unconfigured (same.unconfigured ▸ on)
  cabinetDark on := same.dimming ▸ h.cabinetDark (same.faults ▸ on)
  lit := by
    have lit := h.lit
    unfold State.forcedDark at lit ⊢
    rw [same.faults, same.stream, same.unconfigured]
    exact lit

theorem Lit.setTarget {s : State} (h : Lit s) (src : Source) (base : Nat) : LightFit (s.setTarget src base) := by
  have conditions : (s.setTarget src base).forcedDark = false := h.lit
  refine ⟨⟨h.level, h.unconfigured, h.cabinetDark⟩, Nat.min_le_right .., ?_, ?_⟩
  · rw [conditions]
    cases src <;> simp [State.setTarget, Source.mode]
  · simp [conditions]

/-- A recomputation in FALLBACK takes F, or its read has begun UNCONFIGURED (R63). -/
theorem Lit.fallbackTarget {s : State} (h : Lit s) : LightFit s.fallbackTarget := by
  have read := s.readActive_cases .limits 2
  have found := State.readEntry_none (s := s) (t := .limits) (i := 2) rfl
  unfold State.fallbackTarget
  dsimp only
  split
  · next f value =>
    obtain ⟨dimming, marks, -⟩ := State.readEntry_some value
    refine (h.of_unmoved ⟨dimming, ?_, by simp, by simp⟩).setTarget .fallback f
    simp [State.unconfigured, marks]
  · next none =>
    rcases read with ⟨-, same⟩ | ⟨-, light⟩
    · exact absurd ((found none).symm.trans same) (by simp [h.configured])
    · exact light

/-- A recomputation brings T and the mode to where L fits its conditions. -/
theorem State.recompute_light {s : State} (h : LevelFit s) : LightFit s.recompute := by
  unfold State.recompute
  by_cases dark : s.forcedDark = true
  · rw [if_pos dark]
    exact State.darkTarget_light h dark
  · have lit : Lit s := ⟨h, by simpa using dark⟩
    rw [if_neg dark]
    split
    · exact lit.setTarget ..
    · split
      · have read : Lit s.ambientCurve.2 := lit.of_unmoved s.ambientCurve_unmoved
        dsimp only
        split
        · exact read.setTarget ..
        · exact read.fallbackTarget
      · exact lit.fallbackTarget

theorem State.setTarget_dims (s : State) (src : Source) (base : Nat) : Dims s (s.setTarget src base) :=
  .of_fields ⟨rfl, rfl, rfl, rfl, rfl⟩

theorem dimmed_readStable : ReadStable Dimmed := ⟨Dimmed.refl, Dimmed.trans, State.readActive_dimmed⟩

theorem State.fallbackTarget_dims (s : State) : Dims s s.fallbackTarget := by
  have read := (s.readEntry_dimmed .limits 2).toDims
  unfold State.fallbackTarget
  dsimp only
  split
  · exact read.trans (State.setTarget_dims ..)
  · exact read

/-- A recomputation moves neither L, but for a read that darkens the part, nor C nor the stream. -/
theorem State.recompute_dims (s : State) : Dims s s.recompute := by
  unfold State.recompute
  split
  · exact .of_fields ⟨rfl, rfl, rfl, rfl, rfl⟩
  · split
    · exact s.setTarget_dims ..
    · split
      · have curve := (dimmed_readStable.ambientCurve s).toDims
        dsimp only
        split
        · exact curve.trans (State.setTarget_dims ..)
        · exact curve.trans (State.fallbackTarget_dims _)
      · exact s.fallbackTarget_dims

@[simp] theorem State.fallbackTarget_stream (s : State) : s.fallbackTarget.stream = s.stream := by
  unfold State.fallbackTarget
  dsimp only
  split <;> simp [State.setTarget]

@[simp] theorem State.recompute_stream (s : State) : s.recompute.stream = s.stream := by
  have curve := s.ambientCurve_unmoved.stream
  unfold State.recompute
  split
  · rfl
  · split
    · rfl
    · split
      · dsimp only
        split
        · exact curve
        · exact (State.fallbackTarget_stream _).trans curve
      · exact s.fallbackTarget_stream

theorem State.recompute_dimmed (s : State) : Dimmed s s.recompute where
  toDims := s.recompute_dims
  stream := s.recompute_stream
  light fit := State.recompute_light fit.toLevelFit

/-! ## CABINET_DARK (R68, R70, R76) -/

/-- The start of CABINET_DARK takes the light out; its end has T recomputed. -/
theorem Work.turnDark_dimmed (w : Work) (b : Bool) : Dimmed w.st (w.turnDark b).st := by
  cases b with
  | true => exact State.darkAtOnce_dimmed (State.forcedDark_of_cabinetDark rfl) rfl rfl rfl rfl rfl
  | false =>
    have flagged : Dims w.st (w.setFlag .cabinetDark false).st := .of_fields ⟨rfl, rfl, rfl, rfl, rfl⟩
    refine ⟨flagged.trans (State.recompute_dims _), State.recompute_stream _, fun fit => State.recompute_light ⟨fit.level, fit.unconfigured, ?_⟩⟩
    intro on
    cases on

theorem dimmed_stable : Stable Dimmed where
  toReadStable := dimmed_readStable
  hand := State.hand_dimmed
  faults _ _ same := .of_fields ⟨rfl, rfl, same, rfl, rfl, rfl, rfl⟩
  turnDark := Work.turnDark_dimmed

end Sys2Proof.Machine
end

section
/-! SUPPORT. The commands of the Link Interface, the Report Queue, Frame Capture, the Drive Port, the Fault Monitor and the
Management Agent do not raise L, and leave C, the stream and the fit of the light (R73). -/

namespace Sys2Proof.Machine

/-! ## The Link Interface -/

theorem State.takenHere_dimmed (s : State) (h : MgmtHead) : Dimmed s (s.takenHere h).2 := by
  unfold State.takenHere
  split
  · exact .refl s
  · split
    · exact .refl s
    · split
      · exact s.readEntry_dimmed ..
      · exact .refl s

theorem State.arriveMgmt_dimmed (s : State) (h : MgmtHead) (code : Byte) (args : List Byte) :
    Dimmed s (s.arriveMgmt h code args).2 := by
  unfold State.arriveMgmt
  split
  · exact Dimmed.trans (t := s.forward (.mgmt h code args)) (.of_fields (by simp)) (State.takenHere_dimmed _ h)
  · exact .refl s

theorem State.reply_dimmed (s : State) (h : MgmtHead) (code : Byte) (a : Answer) : Dimmed s (s.reply h code a) :=
  .of_fields (by simp)

/-- A request dims where carrying it out does. -/
theorem State.request_dimmed {carryOut : State → Answer × State} (h : ∀ u, Dimmed u (carryOut u).2) (s : State)
    (head : MgmtHead) (code : Byte) (args : List Byte) : Dimmed s (s.request head code args carryOut) := by
  have arrived := s.arriveMgmt_dimmed head code args
  unfold State.request
  dsimp only
  split
  · exact arrived.trans ((h _).trans (State.reply_dimmed ..))
  · exact arrived

/-- A port that goes DOWN does not come up. -/
theorem State.setLink_dimmed (s : State) {l : Link} {o : List Output} (down : s.link.upU = false → l.upU = false) :
    Dimmed s { s with link := l, out := o } where
  lower := Nat.le_refl _
  ceiling := rfl
  clock := rfl
  stream := rfl
  started := rfl
  port := down
  light fit := fit.congr rfl rfl rfl rfl

theorem execLinkDown_dimmed (p : Port) (s : State) : Leads (execLinkDown p s) (Dimmed s) := by
  cases p with
  | u => exact leads_next.2 (.ite (.ite (s.setLink_dimmed fun _ => rfl) (s.setLink_dimmed fun _ => rfl))
      (s.setLink_dimmed id))
  | d => exact leads_next.2 (.ite (.ite (s.setLink_dimmed id) (s.setLink_dimmed id)) (s.setLink_dimmed id))

theorem execFrameCheckFailure_dimmed (p : Port) (s : State) : Leads (execFrameCheckFailure p s) (Dimmed s) := by
  cases p <;> exact leads_next.2 (.ite (.of_fields (by simp)) (.refl s))

theorem execSyncFrame_dimmed (frame content lux : Word) (flags : Byte) (s : State) :
    Leads (execSyncFrame frame content lux flags s) (Dimmed s) :=
  leads_next.2 (.ite (.of_fields (by simp)) (.refl s))

theorem execEnumFrame_dimmed (counter : Byte) (s : State) : Leads (execEnumFrame counter s) (Dimmed s) :=
  leads_next.2 (.ite (.ite (.of_fields (by simp)) (.of_fields (by simp))) (.refl s))

theorem execForwardedReply_dimmed (body : List Byte) (s : State) : Leads (execForwardedReply body s) (Dimmed s) :=
  leads_next.2 (.ite (.of_fields (by simp)) (.refl s))

theorem execForwardedFrameSent_dimmed (s : State) : Leads (execForwardedFrameSent s) (Dimmed s) := by
  refine leads_next.2 ?_
  split
  · exact .of_fields (by simp)
  · exact .refl s

theorem execHoldFrameSent_dimmed (s : State) : Leads (execHoldFrameSent s) (Dimmed s) := by
  refine leads_next.2 ?_
  split
  · exact .of_fields (by simp)
  · exact .refl s

theorem execReplySent_dimmed (s : State) : Leads (execReplySent s) (Dimmed s) := by
  refine leads_next.2 ?_
  split
  · exact .of_fields (by simp)
  · exact .refl s

/-! ## The Report Queue -/

theorem State.readMark_dimmed (s : State) (own other : Nat) : Dimmed s (s.readMark own other).2 := s.readEntry_dimmed ..

theorem State.sendHold_dimmed (s : State) (pause : Nat) : Dimmed s (s.sendHold pause) := .of_fields (by simp)

theorem State.renewHold_dimmed (s : State) : Dimmed s s.renewHold :=
  (s.readOrDefault_dimmed .policy 42).trans (State.sendHold_dimmed _ _)

theorem State.releaseHold_dimmed (s : State) : Dimmed s s.releaseHold := .of_fields (by simp)

theorem State.checkAssert_dimmed (s : State) : Dimmed s s.checkAssert := by
  have mark := s.readMark_dimmed 40 41
  unfold State.checkAssert
  dsimp only
  split
  · exact mark.trans (State.renewHold_dimmed _)
  · exact mark

theorem State.checkRelease_dimmed (s : State) : Dimmed s s.checkRelease := by
  have mark := s.readMark_dimmed 41 40
  unfold State.checkRelease
  dsimp only
  split
  · exact mark.trans (State.releaseHold_dimmed _)
  · exact mark

theorem State.discardHold_dimmed (s : State) : Dimmed s s.discardHold := by
  have pause : Dimmed s s.readPause.2 := s.readOrDefault_dimmed .policy 42
  unfold State.discardHold
  dsimp only
  split
  · split
    · exact pause.trans (State.sendHold_dimmed _ _)
    · exact pause
  · exact pause

theorem State.joinQueue_dimmed (s : State) (r : ReportRec) : Dimmed s (s.joinQueue r) := by
  have queued : Dimmed s { s with reports := { s.reports with queue := s.reports.queue ++ [r] } } := .of_fields (by simp)
  have granted (u : State) : Dimmed u u.grantU := .of_fields (by simp)
  exact queued.trans ((State.checkAssert_dimmed _).trans (granted _))

theorem State.discardRecord_dimmed (s : State) (src : RecordSource) : Dimmed s (s.discardRecord src) := by
  unfold State.discardRecord
  cases src <;> exact Dimmed.trans (.of_fields (by simp)) (State.discardHold_dimmed _)

theorem State.arriveRecord_dimmed (s : State) (src : RecordSource) (r : ReportRec) : Dimmed s (s.arriveRecord src r) := by
  unfold State.arriveRecord
  exact .ite (s.joinQueue_dimmed r) (s.discardRecord_dimmed src)

theorem State.arriveAll_dimmed (l : List ReportRec) : ∀ s : State, Dimmed s (s.arriveAll l) := by
  induction l with
  | nil => exact Dimmed.refl
  | cons r rs ih => exact fun s => (s.arriveRecord_dimmed _ r).trans (ih _)

theorem State.summary_dimmed (s : State) : Dimmed s s.summary := by
  unfold State.summary
  dsimp only
  split
  · exact Dimmed.trans (.of_fields (by simp)) (State.joinQueue_dimmed _ _)
  · exact s.discardRecord_dimmed _

theorem execLocalReportDelivery_dimmed (reports : List Report) (s : State) :
    Leads (execLocalReportDelivery reports s) (Dimmed s) :=
  leads_next.2 ((s.take_dimmed _).trans (.ite (State.arriveAll_dimmed _ _) (.refl _)))

theorem execReportSent_dimmed (s : State) : Leads (execReportSent s) (Dimmed s) := by
  have granted (u : State) : Dimmed u u.grantU := .of_fields (by simp)
  refine leads_next.2 ?_
  split
  · exact Dimmed.trans (.of_fields (by simp)) ((State.checkRelease_dimmed _).trans (granted _))
  · exact .of_fields (by simp)
  · exact .refl s

theorem execSummaryCountAdvance_dimmed (s : State) : Leads (execSummaryCountAdvance s) (Dimmed s) := by
  have count := (s.take_dimmed .summaryCountAdvance).trans (State.readOrDefault_dimmed _ .policy 43)
  refine leads_next.2 ?_
  split
  · dsimp only
    split
    · exact count.trans (Dimmed.trans (.of_fields (by simp)) (State.summary_dimmed _))
    · exact count.trans (.of_fields (by simp))
  · exact s.take_dimmed _

theorem execHoldFrame_dimmed (pause : Word) (s : State) : Leads (execHoldFrame pause s) (Dimmed s) :=
  leads_next.2 (.ite (.ite (.of_fields (by simp)) (.of_fields (by simp))) (.refl s))

theorem execHoldRefreshExpiry_dimmed (s : State) : Leads (execHoldRefreshExpiry s) (Dimmed s) :=
  leads_next.2 (.ite ((s.readMark_dimmed 41 40).trans
    (.ite (State.renewHold_dimmed _) (State.releaseHold_dimmed _))) (.refl s))

theorem execInboundHoldExpiry_dimmed (s : State) : Leads (execInboundHoldExpiry s) (Dimmed s) :=
  leads_next.2 (.ite (.of_fields (by simp)) (.refl s))

theorem execSecondEventLink_dimmed (s : State) : Leads (execSecondEventLink s) (Dimmed s) := by
  refine leads_next.2 ((s.take_dimmed .secondEventLink).trans (.ite ?_ (.refl _)))
  exact Dimmed.trans (.of_fields (by simp))
    ((State.readEntry_dimmed _ .policy 38).trans (State.hand_dimmed ..))

theorem execMillisecondStep_dimmed (s : State) : Leads (execMillisecondStep s) (Dimmed s) := by
  have stepped : Dimmed s { s with time := s.time.step } := by
    refine .of_fields ⟨rfl, rfl, rfl, ?_, rfl, rfl, rfl⟩
    simp only [TimeBase.step, TimeBase.advance]
    split
    · rfl
    · split <;> rfl
  have second (u : State) : Dimmed u (if s.started && s.time.crossesSecond then u.secondEvent else u) :=
    .ite ((u.hand_dimmed _).trans (State.hand_dimmed ..)) (.refl u)
  exact leads_next.2 ((stepped.trans (second _)).trans
    (.ite ((State.hand_dimmed _ _).trans (State.hand_dimmed ..)) (.refl _)))

/-! ## Frame Capture -/

theorem State.swapSlots_dimmed (s : State) (d : Displayed) : Dimmed s (s.swapSlots d) :=
  .of_fields ⟨rfl, rfl, rfl, rfl, rfl, rfl, rfl⟩

theorem State.decideHeld_dimmed (s : State) (o : OpenFrame) (sig : Check) (d : Displayed) :
    Dimmed s (s.decideHeld o sig d).2 := by
  have entry (i : Nat) := s.readEntry_dimmed .limits i
  unfold State.decideHeld
  dsimp only
  split
  · split
    · exact entry 5
    · split
      · exact entry 5
      · exact (entry 5).trans (State.swapSlots_dimmed ..)
  · split
    · exact entry 4
    · split
      · exact entry 4
      · exact (entry 4).trans (State.swapSlots_dimmed ..)

theorem State.closeFrame_dimmed (s : State) : Dimmed s s.closeFrame.2 := by
  unfold State.closeFrame
  split
  · exact .refl s
  · have closed : Dimmed s { s with capture := { s.capture with opened := none } } :=
      .of_fields (by simp)
    dsimp only
    split
    · refine closed.trans ?_
      unfold State.decideComplete
      dsimp only
      split
      · exact State.swapSlots_dimmed ..
      · exact State.decideHeld_dimmed ..
    · exact closed.trans (.of_fields (by simp))

theorem State.openFrame_dimmed (s : State) (frame content : Word) : Dimmed s (s.openFrame frame content) := by
  have layout := dimmed_readStable.readEntries .layout (List.range 8) s
  unfold State.openFrame
  split
  · exact .refl s
  · dsimp only
    split
    · exact layout.trans (.of_fields (by simp))
    · exact layout

theorem execFrameCaptureSync_dimmed (frame content : Word) (s : State) :
    Leads (execFrameCaptureSync frame content s) (Dimmed s) := by
  refine leads_next.2 ((s.take_dimmed (.frameCaptureSync frame content)).trans (.ite ?_ (.refl _)))
  generalize s.take (.frameCaptureSync frame content) = u
  have dwelt : Dimmed u.closeFrame.2 { u.closeFrame.2 with capture := u.closeFrame.2.capture.advanceDwell } :=
    .of_fields (by simp)
  exact u.closeFrame_dimmed.trans (dwelt.trans ((State.hand_dimmed ..).trans (State.openFrame_dimmed ..)))

theorem execPixelFrame_dimmed (line column : Word) (samples : List Pixel) (pad : BitVec 4) (s : State) :
    Leads (execPixelFrame line column samples pad s) (Dimmed s) :=
  leads_next.2 (.ite (.of_fields (by simp)) (.refl s))

/-! ## The Drive Port -/

theorem execModuleComputation_dimmed (s : State) : Leads (execModuleComputation s) (Dimmed s) := by
  have emitted : Dimmed s s.wordsEmitted := by
    unfold State.wordsEmitted
    split
    · exact .refl s
    · exact .of_fields (by simp)
  refine leads_next.2 (.ite (emitted.trans ?_) (.refl s))
  exact (dimmed_readStable.computeModule _ _).trans (.of_fields ⟨rfl, rfl, rfl, rfl, rfl, rfl, rfl⟩)

theorem State.sweepTick_dimmed (s : State) : Dimmed s s.sweepTick := by
  have silenced : Dimmed s s.sweepSilence := by
    unfold State.sweepSilence
    split
    · exact .refl s
    · exact .of_fields (by simp)
  exact silenced.trans (.of_fields ⟨rfl, rfl, rfl, rfl, rfl, rfl, rfl⟩)

theorem State.sweepCounted_dimmed (s : State) : Dimmed s s.sweepCounted := by
  have rate := s.readEntry_dimmed .policy 39
  unfold State.sweepCounted
  dsimp only
  split
  · exact rate.trans (Dimmed.trans (.of_fields (by simp)) (State.sweepTick_dimmed _))
  · exact rate.trans (.of_fields (by simp))

theorem execPollResult_dimmed (m : Nat) (number : Byte) (opens shorts : Word) (t : Option Int) (s : State) :
    Leads (execPollResult m number opens shorts t s) (Dimmed s) := by
  have heat (u : State) (r : Option Int) : Dimmed u (u.overTempEvaluation m r).2 := by
    unfold State.overTempEvaluation
    split
    · exact .refl u
    · exact (u.readActive_dimmed .policy 36).trans (State.readEntry_dimmed _ .policy 37)
  refine leads_next.2 ?_
  split
  · exact .refl s
  · split
    · exact Dimmed.trans (.of_fields (by simp)) ((heat _ _).trans (State.hand_dimmed ..))
    · exact .refl s

/-! ## The Fault Monitor -/

theorem execFaultEvaluationDelivery_dimmed (es : List Evaluation) (s : State) :
    Leads (execFaultEvaluationDelivery es s) (Dimmed s) :=
  leads_next.2 ((s.take_dimmed _).trans
    (.ite (dimmed_stable.faultEvent (dimmed_stable.foldl dimmed_stable.evaluation es) _) (.refl _)))

theorem execConditionDelivery_dimmed (c : Condition) (present : Bool) (s : State) :
    Leads (execConditionDelivery c present s) (Dimmed s) :=
  leads_next.2 ((s.take_dimmed _).trans
    (.ite (dimmed_stable.faultEvent (dimmed_stable.carry fun w => dimmed_stable.condition w c present) _) (.refl _)))

theorem execTableEccDelivery_dimmed (t : Table) (present : Bool) (s : State) :
    Leads (execTableEccDelivery t present s) (Dimmed s) :=
  leads_next.2 ((s.take_dimmed _).trans
    (.ite (dimmed_stable.faultEvent (dimmed_stable.carry fun w => dimmed_stable.tableEcc w t present) _) (.refl _)))

theorem execRestoreWindowExpiry_dimmed (s : State) : Leads (execRestoreWindowExpiry s) (Dimmed s) :=
  leads_next.2 (.ite (dimmed_stable.faultEvent (dimmed_stable.carry fun w =>
    dimmed_stable.setFaults w (f := { w.faults with history := w.faults.history.tail }) rfl) _) (.refl s))

theorem faultRead_dimmed (args : List Byte) (s : State) : Dimmed s (faultRead args s).2 := by
  unfold faultRead
  split <;> exact .refl s

/-! ## The Table Store -/

/-- A table record replaced by one with the same marks. -/
theorem State.setTable_dimmed (s : State) {t : Table} {r : TableRec} (same : r.bad = (s.table t).bad) :
    Dimmed s (s.setTable t r) := by
  have marks (x : Table) : ((s.setTable t r).table x).bad = (s.table x).bad := by
    by_cases e : x = t <;> simp [e, same]
  exact .of_marks (by simp only [State.unconfigured, marks, State.setTable_tables_layoutMissing]) (by simp)

theorem State.readShadow_dimmed (s : State) (t : Table) (i : Nat) : Dimmed s (s.readShadow t i).2 := by
  have consulted : Dimmed s (s.consult t .shadow i).2 := .of_fields (by simp)
  unfold State.readShadow
  dsimp only
  split
  · exact s.readActive_dimmed t i
  · split
    · exact .refl s
    · split
      · exact consulted
      · exact consulted.trans (State.noteCorrected_dimmed ..)
      · exact consulted.trans (State.setTable_dimmed _ rfl)
  · split
    · exact consulted
    · exact consulted.trans (State.noteCorrected_dimmed ..)
    · exact consulted.trans (State.setTable_dimmed _ rfl)

theorem State.readShadows_dimmed (t : Table) (l : List Nat) : ∀ s : State, Dimmed s (s.readShadows t l).2 := by
  induction l with
  | nil => exact Dimmed.refl
  | cons i is ih => exact fun s => (s.readShadow_dimmed t i).trans (ih _)

theorem tableRead_dimmed (args : List Byte) (s : State) : Dimmed s (tableRead args s).2 := by
  unfold tableRead
  split
  · exact .refl s
  · next t b first count _ =>
    split
    · exact .refl s
    · cases b with
      | active => exact dimmed_readStable.readResults ..
      | shadow => exact State.readShadows_dimmed ..

theorem tableWrite_dimmed (args : List Byte) (s : State) : Dimmed s (tableWrite args s).2 := by
  have opened (t : Table) : Dimmed s (s.openShadow t) := by
    unfold State.openShadow
    split
    · exact (dimmed_readStable.readEntries t _ s).trans (State.setTable_dimmed _ rfl)
    · exact .refl s
  have stored (u : State) (t : Table) (first : Nat) (values : List Word) : Dimmed u (u.storeShadow t first values) := by
    unfold State.storeShadow
    split
    · exact u.setTable_dimmed rfl
    · exact .refl u
  unfold tableWrite
  split
  · exact .refl s
  · split
    · exact .refl s
    · split
      · exact .refl s
      · split
        · exact .refl s
        · exact (opened _).trans (stored ..)

theorem State.stageOne_dimmed (t : Table) (l : List Nat) : ∀ s : State, Dimmed s (s.stageOne t l).2 := by
  induction l with
  | nil => exact Dimmed.refl
  | cons i is ih =>
    intro s
    have first := s.readShadow_dimmed t i
    unfold State.stageOne
    dsimp only
    split
    · exact first
    · exact first.trans (ih _)

theorem tableCommit_dimmed (args : List Byte) (s : State) : Dimmed s (tableCommit args s).2 := by
  unfold tableCommit
  split
  · exact .refl s
  · next t _ _ =>
    have staged := State.stageOne_dimmed t (List.range t.size) s
    split
    · exact .refl s
    · split
      · exact .refl s
      · split
        · exact .refl s
        · exact .refl s
        · unfold State.validateShadow
          dsimp only
          split
          · exact staged
          · split
            · exact staged
            · exact staged.trans (State.setTable_dimmed _ rfl)

theorem tableAbandon_dimmed (args : List Byte) (s : State) : Dimmed s (tableAbandon args s).2 := by
  unfold tableAbandon
  split
  · exact .refl s
  · exact s.setTable_dimmed rfl

theorem abandonShadows_dimmed (l : List Table) : ∀ s : State, Dimmed s (l.foldl State.abandonShadow s) := by
  induction l with
  | nil => exact Dimmed.refl
  | cons t ts ih => exact fun s => Dimmed.trans (t := s.abandonShadow t) (s.setTable_dimmed rfl) (ih _)

theorem ceilingLock_dimmed (args : List Byte) (s : State) : Dimmed s (ceilingLock args s).2 := by
  unfold ceilingLock
  split
  · split
    · exact .refl s
    · exact (abandonShadows_dimmed _ s).trans (.of_marks rfl (by simp))
  · exact .refl s

/-! ## The Management Agent -/

theorem driftSet_dimmed (args : List Byte) (s : State) : Dimmed s (driftSet args s).2 := by
  unfold driftSet
  split
  · exact .refl s
  · exact .of_fields (by simp)

theorem trimNudge_dimmed (args : List Byte) (s : State) : Dimmed s (trimNudge args s).2 := by
  unfold trimNudge
  split
  · exact .refl s
  · split
    · exact .refl s
    · exact .of_fields (by simp)

theorem execSave_dimmed (head : MgmtHead) (args : List Byte) (s : State) : Leads (execSave head args s) (Dimmed s) := by
  have arrived := s.arriveMgmt_dimmed head 0x0F args
  refine leads_next.2 ?_
  split
  · refine arrived.trans (.ite (.ite (State.reply_dimmed ..) ?_) (State.reply_dimmed ..))
    exact .of_fields ⟨rfl, rfl, rfl, rfl, rfl, rfl, rfl⟩
  · exact arrived

theorem State.endSave_dimmed (s : State) (run : SaveRun) (a : Answer) : Dimmed s (s.endSave run a) := by
  unfold State.endSave
  dsimp only
  split
  · exact .of_fields (by simp)
  · exact .of_fields (by simp)

theorem State.writeItem_dimmed (s : State) (run : SaveRun) : Dimmed s (s.writeItem run) :=
  .of_fields ⟨rfl, rfl, rfl, rfl, rfl, rfl, rfl⟩

theorem State.saveTable_dimmed (s : State) (run : SaveRun) (t : Table) : Dimmed s (s.saveTable run t) :=
  (dimmed_readStable.readEntries t (List.range t.size) s).trans (State.writeItem_dimmed ..)

theorem execSaveWriteSuccess_dimmed (s : State) : Leads (execSaveWriteSuccess s) (Dimmed s) := by
  refine leads_next.2 ?_
  split
  · next run _ =>
    refine Dimmed.trans (t := { s with flash := s.flash.written run.writing })
      (.of_fields (by simp)) ?_
    unfold State.saveNext
    split
    · exact State.saveTable_dimmed ..
    · split
      · exact State.saveTable_dimmed ..
      · exact State.writeItem_dimmed ..
    · exact State.writeItem_dimmed ..
    · exact State.endSave_dimmed ..
  · exact .refl s

theorem execSaveWriteFailure_dimmed (s : State) : Leads (execSaveWriteFailure s) (Dimmed s) := by
  refine leads_next.2 ?_
  split
  · exact s.endSave_dimmed ..
  · exact .refl s

end Sys2Proof.Machine
end

section
/-! SUPPORT. The ticks of the level, the stream's changes and the ceiling: each keeps the invariant of the level and the
stream, and only a tick raises L (R72, R73, R75, R93 to R96, R112 to R118). -/

namespace Sys2Proof.Machine

/-! ## Ticks (R73) -/

/-- A value read of an active entry is the one that the bank holds. -/
theorem State.readEntry_value_eq {s : State} {t : Table} {i v : Nat} (h : (s.readEntry t i).1 = some v) :
    v = entry (s.table t).active i := by
  rcases s.readEntry_value t i with none | some
  · simp [none] at h
  · exact (Option.some.inj (some.symm.trans h)).symm

/-- L rises toward a target above it, which no forced-dark condition leaves. -/
theorem State.raiseLevel_light {s t : State} (fit : LightFit s) (below : s.dimming.level < s.dimming.target)
    (dimming : t.dimming = s.dimming) (unconfigured : t.unconfigured = s.unconfigured) (faults : t.faults = s.faults)
    (stream : t.stream = s.stream) {l : Nat} (bound : l ≤ s.dimming.target) : LightFit (t.raiseLevel l) := by
  have lit : s.forcedDark = false := by
    by_contra dark
    have zero := fit.dark (by simpa using dark)
    omega
  have none : Lit (t.raiseLevel l) := by
    have conditions : (t.raiseLevel l).forcedDark = false :=
      (State.forcedDark_congr unconfigured (by rw [← faults]) (by rw [← stream])).trans lit
    refine ⟨⟨?_, fun on => ?_, fun on => ?_⟩, conditions⟩
    · show l ≤ t.dimming.ceiling
      rw [dimming]
      exact bound.trans fit.target
    · simp [State.forcedDark_of_unconfigured on] at conditions
    · simp [State.forcedDark_of_cabinetDark on] at conditions
  refine ⟨none.toLevelFit, ?_, ?_, ?_⟩
  · show t.dimming.target ≤ t.dimming.ceiling
    rw [dimming]
    exact fit.target
  · rw [none.lit, ← lit, fit.mode]
    show _ ↔ t.dimming.mode = _
    rw [dimming]
  · simp [none.lit]

/-- What a tick does: L rises toward the target by at most S_up, or it dims. -/
theorem State.levelTick_cases (s : State) : Dimmed s s.levelTick ∨ (Dims s (s.readEntry .limits 0).2 ∧
    s.dimming.level < s.dimming.target ∧ (LightFit s → LightFit s.levelTick) ∧
    s.levelTick = (s.readEntry .limits 0).2.raiseLevel
      (min s.dimming.target (s.dimming.level + entry (s.table .limits).active 0))) := by
  unfold State.levelTick
  split
  · next below =>
    dsimp only
    split
    · next up value =>
      obtain ⟨dimming, marks, -⟩ := State.readEntry_some value
      refine .inr ⟨(s.readEntry_dimmed .limits 0).toDims, below, fun fit => ?_, ?_⟩
      · exact State.raiseLevel_light fit below dimming (by simp [State.unconfigured, marks]) (by simp) (by simp)
          (Nat.min_le_left ..)
      · rw [State.readEntry_value_eq value]
    · exact .inl (s.readEntry_dimmed ..)
  · split
    · next above =>
      dsimp only
      split
      · next down value =>
        obtain ⟨dimming, -⟩ := State.readEntry_some value
        exact .inl ((s.readEntry_dimmed .limits 1).trans (State.lowerLevel_dimmed (by rw [dimming]; omega)))
      · exact .inl (s.readEntry_dimmed ..)
    · exact .inl (.refl s)

theorem State.levelTick_le (s : State) :
    s.levelTick.dimming.level ≤ s.dimming.level + entry (s.table .limits).active 0 := by
  rcases s.levelTick_cases with dimmed | ⟨-, -, -, rises⟩
  · exact dimmed.lower.trans (Nat.le_add_right ..)
  · rw [rises]
    exact Nat.min_le_right ..

theorem State.levelTick_fit {s : State} (fit : DimFit s) (started : s.started = true) : DimFit s.levelTick := by
  rcases s.levelTick_cases with dimmed | ⟨read, -, light, rises⟩
  · exact dimmed.fit fit
  · have held := s.readEntry_dimmed .limits 0
    obtain ⟨bound, same⟩ := fit.ceiling
    have light := light fit.light
    rw [rises] at light ⊢
    refine ⟨light, ⟨(held.ceiling.trans_le bound : _), held.clock.trans (same.trans held.ceiling.symm)⟩, ?_, fun off => ?_⟩
    · show TimersFit (s.readEntry .limits 0).2.stream (s.readEntry .limits 0).2.started
      rw [held.stream, held.started]
      exact fit.timers
    · have off : (s.readEntry .limits 0).2.started = false := off
      rw [held.started, started] at off
      cases off

/-- The model's test of a local tick is the one of R72. -/
theorem Stream.tickCounts_iff (s : State) : s.stream.tickCounts = true ↔ s.localTickCounts := by
  unfold Stream.tickCounts State.localTickCounts
  cases ticks : s.stream.ticks with
  | nil => simp
  | cons delivered rest => cases state : s.stream.state <;> simp

/-! ## The start and the end of an override (R79 to R81) -/

theorem State.setOverride_dimmed (s : State) (o : Option Override) : Dimmed s (s.setOverride o) := by
  refine Dimmed.trans (t := { s with dimming := { s.dimming with override := o } }) ?_ (State.recompute_dimmed _)
  exact ⟨.of_fields ⟨rfl, rfl, rfl, rfl, rfl⟩, rfl, fun fit =>
    ⟨⟨fit.level, fit.unconfigured, fit.cabinetDark⟩, fit.target, fit.mode, fit.dark⟩⟩

theorem execOverrideMinute_dimmed (s : State) : Leads (execOverrideMinute s) (Dimmed s) := by
  refine leads_next.2 ((s.take_dimmed .overrideMinute).trans ?_)
  split
  · exact .refl _
  · refine .ite (State.setOverride_dimmed ..) ⟨.of_fields ⟨rfl, rfl, rfl, rfl, rfl⟩, rfl, fun fit => ?_⟩
    exact ⟨⟨fit.level, fit.unconfigured, fit.cabinetDark⟩, fit.target, fit.mode, fit.dark⟩

theorem execOverrideExpiry_dimmed (s : State) : Leads (execOverrideExpiry s) (Dimmed s) :=
  leads_next.2 (.ite (s.setOverride_dimmed none) (.refl s))

theorem levelOverride_dimmed (args : List Byte) (s : State) : Dimmed s (levelOverride args s).2 := by
  unfold levelOverride
  split
  · exact .refl s
  · exact s.setOverride_dimmed _

theorem overrideEnd_dimmed (args : List Byte) (s : State) : Dimmed s (overrideEnd args s).2 := by
  unfold overrideEnd
  split
  · exact .ite (s.setOverride_dimmed none) (.refl s)
  · exact .refl s

/-! ## The stream (R112 to R118) -/

/-- A change of the timers and of the last SYNC alone leaves the light. -/
theorem State.setTimers_light {s : State} (fit : LightFit s) {x : Stream} (same : x.state = s.stream.state) :
    LightFit { s with stream := x } := fit.congr rfl rfl rfl (by rw [same])

theorem State.setTimers_dims (s : State) (x : Stream) : Dims s { s with stream := x } :=
  .of_fields ⟨rfl, rfl, rfl, rfl, rfl⟩

theorem State.startTimeout_dims (s : State) : Dims s s.startTimeout :=
  (s.readOrDefault_dimmed .limits 7).toDims.trans (State.setTimers_dims ..)

theorem State.startTimeout_stream (s : State) : ∃ x, s.startTimeout.stream = { s.stream with timeout := some x } :=
  ⟨s.timer (s.readOrDefault .limits 7).1, by simp [State.startTimeout]⟩

theorem State.startTimeout_light {s : State} (fit : LightFit s) : LightFit s.startTimeout :=
  State.setTimers_light ((s.readOrDefault_dimmed .limits 7).light fit) rfl

theorem State.startLocalTick_dims (s : State) (c : Count) : Dims s (s.startLocalTick c) :=
  (s.readOrDefault_dimmed .limits 9).toDims.trans (State.setTimers_dims ..)

theorem State.startLocalTick_stream (s : State) (c : Count) :
    ∃ x, (s.startLocalTick c).stream = { s.stream with localTick := some x } :=
  ⟨⟨c, (s.readOrDefault .limits 9).1⟩, by simp [State.startLocalTick]⟩

theorem State.startLocalTick_light {s : State} (fit : LightFit s) (c : Count) : LightFit (s.startLocalTick c) :=
  State.setTimers_light ((s.readOrDefault_dimmed .limits 9).light fit) rfl

theorem State.setStream_dims (s : State) (x : StreamState) : Dims s (s.setStream x) := by
  unfold State.setStream
  dsimp only
  split
  · exact s.setTimers_dims _
  · exact (s.setTimers_dims _).trans (State.recompute_dims _)

theorem State.setStream_stream (s : State) (x : StreamState) : (s.setStream x).stream = { s.stream with state := x } := by
  unfold State.setStream
  dsimp only
  split
  · rfl
  · simp

/-- T is recomputed where a forced-dark condition starts or ends. -/
theorem State.setStream_light {s : State} (fit : LightFit s) (x : StreamState) : LightFit (s.setStream x) := by
  unfold State.setStream
  dsimp only
  split
  · next same => exact fit.congr rfl rfl rfl same.symm
  · exact State.recompute_light ⟨fit.level, fit.unconfigured, fit.cabinetDark⟩

theorem State.enterDarkening_dims (s : State) : Dims s s.enterDarkening := by
  have entered := (s.setStream_dims .darkening).trans (State.startLocalTick_dims _ s.now)
  unfold State.enterDarkening
  dsimp only
  split
  · exact entered.trans (State.setStream_dims ..)
  · exact entered

theorem State.enterDarkening_stream (s : State) : ∃ x y, (y = .darkening ∨ y = .dark) ∧
    s.enterDarkening.stream = { s.stream with localTick := some x, state := y } := by
  obtain ⟨x, ticking⟩ := (s.setStream .darkening).startLocalTick_stream s.now
  rw [State.setStream_stream] at ticking
  unfold State.enterDarkening
  dsimp only
  split
  · exact ⟨x, .dark, .inr rfl, by rw [State.setStream_stream, ticking]⟩
  · exact ⟨x, .darkening, .inl rfl, ticking⟩

theorem State.enterDarkening_light {s : State} (fit : LightFit s) : LightFit s.enterDarkening := by
  have entered := State.startLocalTick_light (State.setStream_light fit .darkening) s.now
  unfold State.enterDarkening
  dsimp only
  split
  · exact State.setStream_light entered .dark
  · exact entered

/-! ## Steps that do not raise L -/

/-- L is not higher, and the invariant of the level and the stream is kept beside that of the banks. -/
structure Steady (s t : State) : Prop where
  lower : t.dimming.level ≤ s.dimming.level
  fit : BankInvariant s → DimFit s → DimFit t

theorem Dimmed.steady {s t : State} (h : Dimmed s t) : Steady s t := ⟨h.lower, fun _ => h.fit⟩

theorem Steady.refl (s : State) : Steady s s := (Dimmed.refl s).steady

theorem Dimmed.steady_trans {s t u : State} (h : Dimmed s t) (banks : BankInvariant s → BankInvariant t)
    (k : Steady t u) : Steady s u :=
  ⟨k.lower.trans h.lower, fun i fit => k.fit (banks i) (h.fit fit)⟩

theorem Steady.hand {s t : State} (h : Steady s t) (c : Instr) : Steady s (t.hand c) :=
  ⟨h.lower, fun i fit => (t.hand_dimmed c).fit (h.fit i fit)⟩

theorem Steady.ite {s t u : State} {c : Prop} [Decidable c] (h : c → Steady s t) (k : ¬ c → Steady s u) :
    Steady s (if c then t else u) := by
  split
  · exact h ‹_›
  · exact k ‹_›

theorem State.take_steady {s : State} {c : Instr} {t : State} (k : Steady (s.take c) t) : Steady s t :=
  (s.take_dimmed c).steady_trans (fun i => ((s.take_kept c).safe.2 i).1) k

/-- A step that keeps L, C and the light, and takes the stream to where its timers fit. -/
theorem Dims.steady {s t : State} (h : Dims s t) (light : LightFit s → LightFit t)
    (timers : DimFit s → TimersFit t.stream t.started)
    (waits : DimFit s → s.started = false → t.stream.state = s.stream.state) : Steady s t :=
  ⟨h.lower, fun _ fit => h.fit fit (light fit.light) (timers fit) (waits fit)⟩

/-- A part that is not dark by the stream has started. -/
theorem DimFit.started {s : State} (fit : DimFit s) (h : s.stream.state ≠ .dark) : s.started = true := by
  by_contra off
  exact h (fit.waits (by simpa using off)).stream

theorem execStreamSync_steady (s : State) : Leads (execStreamSync s) (Steady s) := by
  refine leads_next.2 (State.take_steady (.ite (fun started => ?_) fun _ => .refl _))
  generalize s.take .streamSync = s at started ⊢
  have timed : Dims s { s with stream := { s.stream with lastSync := some s.now } }.startTimeout :=
    (s.setTimers_dims _).trans (State.startTimeout_dims _)
  have light (fit : LightFit s) : LightFit { s with stream := { s.stream with lastSync := some s.now } }.startTimeout :=
    State.startTimeout_light (State.setTimers_light fit rfl)
  obtain ⟨x, stream⟩ := { s with stream := { s.stream with lastSync := some s.now } }.startTimeout_stream
  dsimp only at stream ⊢
  generalize { s with stream := { s.stream with lastSync := some s.now } }.startTimeout = u at timed light stream ⊢
  refine .ite (fun live => ?_) fun lost => Steady.hand ?_ _
  · refine timed.steady light (fun fit => ?_) fun _ _ => by rw [stream]
    obtain ⟨timeout, hold, localTick⟩ := fit.timers
    rw [stream] at live ⊢
    rw [timed.started]
    exact ⟨iff_of_true (by simp) live, hold, localTick⟩
  · refine Dims.steady (timed.trans ((State.setTimers_dims ..).trans (State.setStream_dims ..)))
      (fun fit => State.setStream_light
        (State.setTimers_light (x := { u.stream with hold := none, localTick := none }) (light fit) rfl) _)
      (fun fit => ?_) fun _ off => ?_
    · rw [State.setStream_stream]
      exact ⟨by simp [stream], by simp, by simp⟩
    · rw [started] at off
      cases off

theorem execSyncTimeoutExpiry_steady (s : State) : Leads (execSyncTimeoutExpiry s) (Steady s) := by
  refine leads_next.2 (.ite (fun due => Steady.hand ?_ _) fun _ => .refl s)
  obtain ⟨live, -⟩ := due
  have read := (s.setTimers_dims { s.stream with timeout := none }).trans (State.readOrDefault_dimmed _ .limits 8).toDims
  have light (fit : LightFit s) : LightFit ({ s with stream := { s.stream with timeout := none } }.readOrDefault .limits 8).2 :=
    (State.readOrDefault_dimmed _ .limits 8).light (State.setTimers_light fit rfl)
  have stream : ({ s with stream := { s.stream with timeout := none } }.readOrDefault .limits 8).2.stream =
      { s.stream with timeout := none } := by simp
  generalize { s with stream := { s.stream with timeout := none } }.readOrDefault .limits 8 = r at read light stream ⊢
  have started (fit : DimFit s) : s.started = true := fit.started (by simp [live])
  have waits {x : StreamState} (fit : DimFit s) (off : s.started = false) : x = s.stream.state := by
    simp [started fit] at off
  refine .ite (fun _ => ?_) fun _ => ?_
  · obtain ⟨x, y, dark, entered⟩ := r.2.enterDarkening_stream
    refine (read.trans (State.enterDarkening_dims _)).steady (fun fit => State.enterDarkening_light (light fit))
      (fun fit => ?_) waits
    have hold := fit.timers.hold
    rw [(read.trans (State.enterDarkening_dims _)).started, entered, stream, started fit]
    simp only [live, reduceCtorEq, iff_false, ne_eq, not_not] at hold
    rcases dark with rfl | rfl <;> exact ⟨by simp, by simp [hold], by simp⟩
  · refine (read.trans ((State.setTimers_dims ..).trans (State.setStream_dims ..))).steady
      (fun fit => State.setStream_light
        (State.setTimers_light (x := { r.2.stream with hold := some (r.2.timer (r.1 * 1000)) }) (light fit) rfl) _)
      (fun fit => ?_) waits
    have localTick := fit.timers.localTick
    rw [State.setStream_stream, stream]
    simp only [live, reduceCtorEq, or_self, and_false, iff_false, ne_eq, not_not] at localTick
    exact ⟨by simp, by simp, by simp [localTick]⟩

theorem execHoldExpiry_steady (s : State) : Leads (execHoldExpiry s) (Steady s) := by
  refine leads_next.2 (.ite (fun due => ?_) fun _ => .refl s)
  obtain ⟨holding, -⟩ := due
  have dims := (s.setTimers_dims { s.stream with hold := none }).trans (State.enterDarkening_dims _)
  have started (fit : DimFit s) : s.started = true := fit.started (by simp [holding])
  obtain ⟨x, y, dark, entered⟩ := { s with stream := { s.stream with hold := none } }.enterDarkening_stream
  refine dims.steady (fun fit => State.enterDarkening_light (State.setTimers_light fit rfl)) (fun fit => ?_)
    fun fit off => by simp [started fit] at off
  have timeout := fit.timers.timeout
  rw [dims.started, entered, started fit]
  simp only [holding, reduceCtorEq, iff_false, ne_eq, not_not] at timeout
  rcases dark with rfl | rfl <;> exact ⟨by simp [timeout], by simp, by simp⟩

theorem execLocalTickExpiry_steady (s : State) : Leads (execLocalTickExpiry s) (Steady s) := by
  refine leads_next.2 ?_
  split
  · exact .refl s
  · next timer running =>
    refine .ite (fun _ => ?_) fun _ => .refl s
    have delivered : Dims s s.deliverLocalTick := .of_fields ⟨rfl, rfl, rfl, rfl, rfl⟩
    have light (fit : LightFit s) : LightFit s.deliverLocalTick := fit.congr rfl rfl rfl rfl
    have dims := delivered.trans (State.startLocalTick_dims _ (timer.start + BitVec.ofNat 32 timer.duration))
    obtain ⟨x, stream⟩ := s.deliverLocalTick.startLocalTick_stream (timer.start + BitVec.ofNat 32 timer.duration)
    refine dims.steady (fun fit => State.startLocalTick_light (light fit) _) (fun fit => ?_) fun _ _ => by rw [stream]; rfl
    obtain ⟨timeout, hold, localTick⟩ := fit.timers
    rw [dims.started, stream]
    exact ⟨timeout, hold, iff_of_true (by simp) (localTick.mp (by simp [running]))⟩

theorem execLZeroNotice_steady (s : State) : Leads (execLZeroNotice s) (Steady s) := by
  refine leads_next.2 (State.take_steady (.ite (fun darkening => ?_) fun _ => .refl _))
  generalize s.take .lZeroNotice = s at darkening ⊢
  refine (s.setStream_dims .dark).steady (fun fit => State.setStream_light fit _) (fun fit => ?_) fun fit off => ?_
  · obtain ⟨timeout, hold, localTick⟩ := fit.timers
    rw [State.setStream_stream, (s.setStream_dims .dark).started]
    simp only [darkening, reduceCtorEq, iff_false, ne_eq, not_not] at timeout hold localTick
    exact ⟨by simp [timeout], by simp [hold], by simpa using localTick⟩
  · simp [fit.started (by simp [darkening])] at off

end Sys2Proof.Machine
end

section
/-! SUPPORT. The ceiling C whatever the storage shows: an evaluation stays within 1024, and its event keeps the invariant of
the level and the stream (R75, R83, R93 to R96). -/

namespace Sys2Proof.Machine

/-! ## What the banks hold (R62, R92) -/

/-- The levels that an evaluation of C can read. -/
structure CeilingsFit (s : State) : Prop where
  unset : entry (s.table .limits).active 3 ≤ 1024
  default : entry (s.table .schedule).active 1 ≤ 1024
  entries : ∀ j, j < entry (s.table .schedule).active 0 → entry (s.table .schedule).active (4 + 3 * j) ≤ 1024

theorem limits_valid {b : List Word} (h : validate .limits b = none) (len : b.length = Table.limits.size) :
    entry b 3 ≤ 1024 := by
  have range := ok_of_firstFailing_none b 0 h 3 (b.getD 3 0)
    (by rw [List.getD_eq_getElem?_getD, List.getElem?_eq_getElem (by rw [len]; decide)]; rfl)
  simpa [limitsInRange, entry] using range

theorem schedule_valid {b : List Word} (h : validate .schedule b = none) :
    entry b 1 ≤ 1024 ∧ ∀ j, j < entry b 0 → entry b (4 + 3 * j) ≤ 1024 := by
  have check := firstFailure_eq_none h
  have count : entry b 0 ≤ 24 := by simpa using check (decide (entry b 0 ≤ 24), 0) (by simp)
  refine ⟨by simpa using check (decide (entry b 1 ≤ 1024), 1) (by simp), fun j hj => ?_⟩
  have last := check (decide (entry b (4 + 3 * j) ≤ 1024), 4 + 3 * j) (by
    rw [if_pos count]
    refine List.mem_append_right _ (List.mem_append_left _ (List.mem_flatMap.2 ⟨j, List.mem_range.2 hj, ?_⟩))
    simp [scheduleEntryChecks])
  simpa using last

theorem TablesFit.ceilings {s : State} (h : TablesFit s) : CeilingsFit s := by
  obtain ⟨limits, len, -⟩ := h .limits
  obtain ⟨schedule, -⟩ := h .schedule
  obtain ⟨default, entries⟩ := schedule_valid schedule
  exact ⟨limits_valid limits len, default, entries⟩

theorem CeilingsFit.of_kept {s t : State} (h : CeilingsFit s) (k : Kept s t) : CeilingsFit t := by
  constructor
  · simpa only [k.active] using h.unset
  · simpa only [k.active] using h.default
  · simpa only [k.active] using h.entries

/-! ## What reads find -/

/-- Reads of a list of entries yield, each, nothing or the entry that the bank holds. -/
theorem State.readEntries_values (t : Table) (l : List Nat) : ∀ s : State,
    List.Forall₂ (fun i v => v = none ∨ v = some (entry (s.table t).active i)) l (s.readEntries t l).1 := by
  induction l with
  | nil => exact fun _ => .nil
  | cons i is ih =>
    intro s
    refine .cons (s.readEntry_value t i) ?_
    have rest := ih (s.readEntry t i).2
    rwa [(s.readEntry_kept t i).active t] at rest

/-- A value that is read is at most the bound. -/
def AtMost (c : Nat) (v : Option Nat) : Prop := ∀ x, v = some x → x ≤ c

theorem atMost_of_read {c x : Nat} {v : Option Nat} (h : v = none ∨ v = some x) (bound : x ≤ c) : AtMost c v := by
  intro y hy
  rcases h with rfl | rfl
  · cases hy
  · exact Option.some.inj hy ▸ bound

theorem AtMost.getD {c d : Nat} {v : Option Nat} (h : AtMost c v) (default : d ≤ c) : v.getD d ≤ c := by
  cases v with
  | none => exact default
  | some x => exact h x rfl

/-- The ceilings of the SCHEDULE entries that values read from entry i on give. -/
theorem scheduleEntries_atMost {c : Nat} {b : List Word} (n : Nat) : ∀ (i : Nat) (vs : List (Option Nat)),
    (∀ j, i ≤ j → j < i + n → entry b (4 + 3 * j) ≤ c) →
    List.Forall₂ (fun i v => v = none ∨ v = some (entry b i)) (List.range' (2 + 3 * i) (3 * n)) vs →
    ∀ e ∈ scheduleEntries vs, AtMost c e.ceiling := by
  induction n with
  | zero =>
    intro i vs _ read e he
    obtain rfl : vs = [] := List.forall₂_nil_left_iff.1 read
    simp [scheduleEntries] at he
  | succ n ih =>
    intro i vs bound read
    rw [show 3 * (n + 1) = 3 * n + 1 + 1 + 1 from by omega, List.range'_succ, List.range'_succ, List.range'_succ] at read
    obtain ⟨start, _, -, afterStart, rfl⟩ := List.forall₂_cons_left_iff.1 read
    obtain ⟨days, _, -, afterDays, rfl⟩ := List.forall₂_cons_left_iff.1 afterStart
    obtain ⟨ceiling, rest, found, others, rfl⟩ := List.forall₂_cons_left_iff.1 afterDays
    rw [show 2 + 3 * i + 1 + 1 + 1 = 2 + 3 * (i + 1) from by omega] at others
    rw [show 2 + 3 * i + 1 + 1 = 4 + 3 * i from by omega] at found
    intro e he
    simp only [scheduleEntries, List.mem_cons] at he
    rcases he with rfl | he
    · exact atMost_of_read found (bound i (Nat.le_refl i) (by omega))
    · exact ih (i + 1) rest (fun j lo hi => bound j (by omega) (by omega)) others e he

/-! ## The evaluation (R93 to R95) -/

theorem latestCandidate_mem {w m : Nat} {es : List ScheduleEntry} : ∀ (best : Option (Nat × ScheduleEntry)) (k : Nat)
    (b : Nat × ScheduleEntry), latestCandidate w m best k es = some b → best = some b ∨ b.2 ∈ es := by
  induction es with
  | nil => exact fun _ _ _ h => .inl h
  | cons e es ih =>
    intro best k b h
    simp only [latestCandidate] at h
    rcases ih _ _ b h with found | later
    · rcases best_step found with before | ⟨-, rfl⟩
      · exact .inl before
      · exact .inr (by simp)
    · exact .inr (by simp [later])

theorem substituteCeiling_le {c : Nat} {dflt : Option Nat} {es : List ScheduleEntry} (default : AtMost c dflt)
    (entries : ∀ e ∈ es, AtMost c e.ceiling) : substituteCeiling dflt es ≤ c := by
  rcases substituteCeiling_spec dflt es with ⟨found | ⟨e, he, found⟩, -⟩ | ⟨-, zero⟩
  · exact default _ found
  · exact entries e he _ found
  · omega

theorem ceilingOf_le {c w m : Nat} {dflt : Option Nat} {es : List ScheduleEntry} (default : AtMost c dflt)
    (entries : ∀ e ∈ es, AtMost c e.ceiling) : (ceilingOf w m dflt es).1 ≤ c := by
  have substitute := substituteCeiling_le default entries
  unfold ceilingOf
  dsimp only
  generalize found : latestCandidate w m none 0 es = best
  split
  · exact (Nat.min_le_right ..).trans substitute
  · cases best with
    | none => exact default.getD substitute
    | some b =>
      rcases latestCandidate_mem none 0 b found with none | mem
      · cases none
      · exact (entries b.2 mem).getD substitute

/-- The evaluation of C is within 1024 whatever its reads find. -/
theorem State.scheduledCeiling_le {s : State} (fit : CeilingsFit s) : s.scheduledCeiling.1.1 ≤ 1024 := by
  have count := s.readEntry_value .schedule 0
  have kept := s.readEntry_kept .schedule 0
  unfold State.scheduledCeiling
  dsimp only
  split
  · exact (atMost_of_read (State.readEntry_value _ .limits 3) ((fit.of_kept kept).unset)).getD (Nat.zero_le _)
  · next n value =>
    obtain rfl : entry (s.table .schedule).active 0 = n := by
      rcases count with none | some
      · simp [none] at value
      · exact Option.some.inj (some.symm.trans value)
    have read := State.readEntries_values .schedule ((List.range (1 + 3 * entry (s.table .schedule).active 0)).map (· + 1))
      (s.readEntry .schedule 0).2
    rw [kept.active] at read
    have list (n : Nat) : (List.range (1 + 3 * n)).map (· + 1) = 1 :: List.range' 2 (3 * n) := by
      rw [Nat.add_comm, List.range_succ_eq_map]
      simp [List.range'_eq_map_range, Nat.add_comm, Nat.add_left_comm]
    generalize (State.readEntries _ .schedule _) = r at read ⊢
    rw [list] at read
    obtain ⟨dflt, rest, first, read, values⟩ := List.forall₂_cons_left_iff.1 read
    rw [values]
    refine ceilingOf_le (atMost_of_read first fit.default) (scheduleEntries_atMost _ 0 rest (fun j _ hj => ?_) read)
    exact fit.entries j (by omega)

theorem State.unsetCeiling_le {s : State} (fit : CeilingsFit s) : s.unsetCeiling.1.1 ≤ 1024 := by
  unfold State.unsetCeiling
  dsimp only
  split
  · next u value => exact atMost_of_read (s.readEntry_value .limits 3) fit.unset u value
  · exact Nat.zero_le _

theorem State.scheduledCeiling_dimmed (s : State) : Dimmed s s.scheduledCeiling.2 := by
  have count := s.readEntry_dimmed .schedule 0
  unfold State.scheduledCeiling
  dsimp only
  split
  · exact count.trans (State.readEntry_dimmed ..)
  · exact count.trans (dimmed_readStable.readEntries ..)

/-- What an evaluation does: its reads, and C and its source set to a value within 1024. -/
theorem State.evaluateCeiling_cases (s : State) : ∃ u c source, Dimmed s u ∧ (CeilingsFit s → c ≤ 1024) ∧
    s.evaluateCeiling = { u with time := { u.time with ceiling := c, source := source } } := by
  unfold State.evaluateCeiling
  dsimp only
  split
  · exact ⟨_, _, _, s.scheduledCeiling_dimmed, State.scheduledCeiling_le, rfl⟩
  · exact ⟨_, _, _, s.readEntry_dimmed .limits 3, State.unsetCeiling_le, rfl⟩

/-! ## A change of C (R75) -/

/-- What a change of C leaves before T is recomputed. -/
structure Clamped (s t : State) (c : Nat) : Prop where
  lower : t.dimming.level ≤ s.dimming.level
  ceiling : t.dimming.ceiling = c
  clock : t.time.ceiling = s.time.ceiling
  started : t.started = s.started
  port : t.link.upU = s.link.upU
  stream : t.stream = s.stream
  light : LightFit s → LevelFit t

theorem State.clampLevel_clamped (s : State) (c : Nat) : Clamped s (s.clampLevel c) c := by
  unfold State.clampLevel
  dsimp only
  split
  · next above =>
    have tables := State.lowerLevel_tables { s with dimming := { s.dimming with ceiling := c } } c
    refine ⟨?_, by simp, by simp, by simp, by simp, by simp, fun fit => ⟨by simp, fun on => ?_, fun on => ?_⟩⟩
    · simpa using above.le
    · have zero := fit.unconfigured ((State.unconfigured_congr tables).symm.trans on)
      omega
    · have zero := fit.cabinetDark (by simpa using on)
      omega
  · next below =>
    exact ⟨Nat.le_refl _, rfl, rfl, rfl, rfl, rfl, fun fit => ⟨Nat.le_of_not_lt below, fit.unconfigured, fit.cabinetDark⟩⟩

/-- An evaluation of C as an event (R96): L is not raised, and C is within 1024 and the same at both blocks. -/
theorem State.ceilingEvent_steady (s : State) : Steady s s.ceilingEvent := by
  obtain ⟨u, c, source, read, bound, evaluated⟩ := s.evaluateCeiling_cases
  unfold State.ceilingEvent
  rw [evaluated]
  dsimp only
  split
  · next same =>
    refine Dimmed.steady ⟨⟨read.lower, read.ceiling, same, read.started, read.port⟩, read.stream, fun fit => ?_⟩
    exact (read.light fit).congr rfl rfl rfl rfl
  · have clamped := State.clampLevel_clamped { u with time := { u.time with ceiling := c, source := source } } c
    unfold State.ceilingChange
    generalize State.clampLevel _ c = v at clamped
    have aimed := v.recompute_dims
    refine ⟨aimed.lower.trans (clamped.lower.trans read.lower), fun banks fit => ?_⟩
    have stream : v.recompute.stream = s.stream := v.recompute_stream.trans (clamped.stream.trans read.stream)
    have started : v.recompute.started = s.started := aimed.started.trans (clamped.started.trans read.started)
    refine ⟨State.recompute_light (clamped.light ((read.light fit.light).congr rfl rfl rfl rfl)), ⟨?_, ?_⟩, ?_, fun off => ?_⟩
    · rw [aimed.ceiling, clamped.ceiling]
      exact bound ((bankInvariant_iff s).1 banks).1.ceilings
    · rw [aimed.clock, aimed.ceiling, clamped.ceiling, clamped.clock]
    · rw [stream, started]
      exact fit.timers
    · obtain ⟨port, dark, zero⟩ := fit.waits (started ▸ off)
      refine ⟨aimed.port (clamped.port.trans (read.port port)), by rw [stream, dark], ?_⟩
      exact Nat.le_zero.mp (zero ▸ aimed.lower.trans (clamped.lower.trans read.lower))

theorem Steady.trans {s t u : State} (h : Steady s t) (banks : BankInvariant s → BankInvariant t) (k : Steady t u) :
    Steady s u :=
  ⟨k.lower.trans h.lower, fun i fit => k.fit (banks i) (h.fit i fit)⟩

theorem execMinuteEventCeiling_steady (s : State) : Leads (execMinuteEventCeiling s) (Steady s) :=
  leads_next.2 (State.take_steady (.ite (fun _ => State.ceilingEvent_steady _) fun _ => .refl _))

/-- TIME-SET (R89): the clock is set, and C evaluated. -/
theorem timeSet_steady (args : List Byte) (s : State) : Steady s (timeSet args s).2 := by
  unfold timeSet
  split
  · exact .refl s
  · next weekday minute ms _ =>
    let u : State := { s with time := { s.time with weekday := weekday, minute := minute, ms := ms, clockSet := true } }
    have set : Dimmed s u := .of_fields ⟨rfl, rfl, rfl, rfl, rfl, rfl, rfl⟩
    have told : Dimmed u (if s.time.clockSet then u else u.hand (.conditionDelivery .clockUnset false)) :=
      .ite (.refl u) (u.hand_dimmed _)
    have kept : BankKept u (if s.time.clockSet then u else u.hand (.conditionDelivery .clockUnset false)) :=
      (Kept.ite (.refl u) (u.hand_kept _)).toBankKept
    have banks : BankKept s u := .of_fields ⟨rfl, rfl, rfl, rfl⟩
    exact (set.trans told).steady_trans (fun i => ((banks.trans kept).safe i).1) (State.ceilingEvent_steady _)

end Sys2Proof.Machine
end

section
/-! SUPPORT. The swaps keep the invariant of the level and the stream (R174): a cause of UNCONFIGURED can end there, and then
T is recomputed. -/

namespace Sys2Proof.Machine

/-! ## The end of UNCONFIGURED -/

/-- The causes of UNCONFIGURED can end; L, T, C, the stream and the other conditions are as they were. -/
structure Mended (s t : State) : Prop where
  dimming : t.dimming = s.dimming
  clock : t.time.ceiling = s.time.ceiling
  started : t.started = s.started
  port : t.link.upU = s.link.upU
  stream : t.stream = s.stream
  cabinetDark : t.faults.flags.cabinetDark = s.faults.flags.cabinetDark
  unconfigured : t.unconfigured = true → s.unconfigured = true

theorem Mended.trans {s t u : State} (h : Mended s t) (k : Mended t u) : Mended s u :=
  ⟨k.dimming.trans h.dimming, k.clock.trans h.clock, k.started.trans h.started, k.port.trans h.port,
    k.stream.trans h.stream, k.cabinetDark.trans h.cabinetDark, fun on => h.unconfigured (k.unconfigured on)⟩

/-- A state with the same tables but for the missing LAYOUT, which can have come. -/
theorem Mended.of_fields {s t : State} (banks : t.tables.banks = s.tables.banks)
    (missing : t.tables.layoutMissing = true → s.tables.layoutMissing = true) (h : t.dimming = s.dimming ∧
      t.faults.flags.cabinetDark = s.faults.flags.cabinetDark ∧ t.time.ceiling = s.time.ceiling ∧ t.stream = s.stream ∧
      t.started = s.started ∧ t.link.upU = s.link.upU) : Mended s t := by
  obtain ⟨dimming, cabinetDark, clock, stream, started, port⟩ := h
  refine ⟨dimming, clock, started, port, stream, cabinetDark, fun on => ?_⟩
  simp only [State.unconfigured, State.table, banks, Bool.or_eq_true] at on ⊢
  exact Or.imp_left (Or.imp_left (Or.imp_left missing)) on

theorem Mended.refl (s : State) : Mended s s := ⟨rfl, rfl, rfl, rfl, rfl, rfl, id⟩

theorem Mended.ite {s t u : State} {c : Prop} [Decidable c] (h : Mended s t) (k : Mended s u) :
    Mended s (if c then t else u) := by
  split <;> assumption

theorem State.hand_mended (s : State) (c : Instr) : Mended s (s.hand c) := .of_fields rfl id (by simp)

/-- The bank that becomes active carries no bad mark. -/
theorem State.swapped_mended (s : State) (t : Table) (bank : List Word) :
    Mended s (s.setTable t ((s.table t).swapped bank)) := by
  refine ⟨by simp, by simp, by simp, by simp, by simp, by simp, fun on => ?_⟩
  have marks {x : Table} (h : (!((s.setTable t ((s.table t).swapped bank)).table x).bad.isEmpty) = true) :
      (!(s.table x).bad.isEmpty) = true := by
    by_cases e : x = t
    · simp [e, TableRec.swapped] at h
    · simpa [e] using h
  simp only [State.unconfigured, State.setTable_tables_layoutMissing, Bool.or_eq_true] at on ⊢
  exact on.imp (Or.imp (Or.imp_right marks) marks) marks

theorem State.layoutTold_mended (s : State) : Mended s s.layoutTold := by
  have told : Mended s { s with tables := { s.tables with layoutMissing := false } } :=
    .of_fields rfl nofun ⟨rfl, rfl, rfl, rfl, rfl, rfl⟩
  unfold State.layoutTold State.endStoreInvalid
  refine told.trans (.ite ?_ (.refl _))
  exact Mended.trans (t := { s with
    tables := { s.tables with layoutMissing := false }, agent := { s.agent with storeInvalid := false } })
    (.of_fields rfl id ⟨rfl, rfl, rfl, rfl, rfl, rfl⟩) (State.hand_mended ..)

/-- T is recomputed where UNCONFIGURED has ended. -/
theorem Mended.recomputed {s t : State} (h : Mended s t) :
    Dimmed s (if s.unconfigured && !t.unconfigured then t.recompute else t) := by
  have dims : Dims s t := .of_fields ⟨by rw [h.dimming], by rw [h.dimming], h.clock, h.started, h.port⟩
  split
  · refine ⟨dims.trans t.recompute_dims, t.recompute_stream.trans h.stream, fun fit => State.recompute_light ⟨?_, ?_, ?_⟩⟩
    · rw [h.dimming]
      exact fit.level
    · rw [h.dimming]
      exact fun on => fit.unconfigured (h.unconfigured on)
    · rw [h.dimming, h.cabinetDark]
      exact fit.cabinetDark
  · next same =>
    refine ⟨dims, h.stream, fun fit => fit.congr h.dimming ?_ h.cabinetDark (by rw [h.stream])⟩
    cases before : s.unconfigured with
    | true => simpa [before] using same
    | false =>
      by_contra on
      simp [h.unconfigured (by simpa using on)] at before

/-! ## The blocks that act (R174, step 7) -/

/-- The Drive Port, the words sent, the frame store and the trims are none of the light's. -/
theorem State.setDrive_dimmed (s : State) (out : List Output) (d : Drive) (c : Capture) (l : List Int) :
    Dimmed s { s with out := out, drive := d, capture := c, trims := l } :=
  .of_fields ⟨rfl, rfl, rfl, rfl, rfl, rfl, rfl⟩

theorem State.takeGeometry_dimmed (s : State) : Dimmed s s.takeGeometry := by
  have read := dimmed_readStable.readEntries .layout ((List.range 7).map (· + 4)) s
  unfold State.takeGeometry
  dsimp only
  generalize s.readEntries .layout _ = r at read ⊢
  exact read.trans (r.2.setDrive_dimmed r.2.out _ r.2.capture r.2.trims)

theorem State.actAtSwap_steady (s : State) (t : Table) : Steady s (s.actAtSwap t) := by
  cases t with
  | layout =>
    have read := s.takeGeometry_dimmed
    unfold State.actAtSwap State.driveLayoutSwap
    dsimp only
    generalize s.takeGeometry = g at read ⊢
    exact (read.trans (Dimmed.trans (State.setDrive_dimmed g ..) (dimmed_stable.faultLayoutSwap _))).steady
  | ambient => exact s.recompute_dimmed.steady
  | schedule => exact s.ceilingEvent_steady
  | limits =>
    exact s.ceilingEvent_steady.trans (fun i => (s.ceilingEvent_kept.safe.2 i).1)
      ((State.recompute_dimmed _).trans (dimmed_stable.faultLimitsSwap _)).steady
  | policy => exact (dimmed_stable.faultPolicySwap s).steady
  | gamma | calibration | groups => exact .refl s

/-! ## A swap and a SYNC at the Table Store -/

/-- A posted bank that becomes active is valid, and its table is not under the lock (R172, R174, R176). -/
theorem State.swapped_bankSafe {s : State} {t : Table} {bank : List Word} {e : Word}
    (posted : (s.table t).shadow = .posted bank e) : BankSafe s (s.setTable t ((s.table t).swapped bank)) := by
  refine State.setTable_bankSafe fun fit => ?_
  obtain ⟨-, -, -, waiting, -, clean⟩ := fit t
  obtain ⟨valid, len, -⟩ := waiting bank e posted
  have unlocked : s.tables.lock = true → t.lockable = true → False := fun l x => by
    simpa [posted] using clean l x
  exact ⟨⟨valid, len, .nil, by simp [TableRec.swapped], by simp [TableRec.swapped], fun _ _ => rfl⟩,
    fun l x => (unlocked l x).elim⟩

theorem State.swapTable_steady {s : State} {t : Table} {bank : List Word} {e : Word}
    (posted : (s.table t).shadow = .posted bank e) : Steady s (s.swapTable t bank) := by
  let u := (s.setTable t ((s.table t).swapped bank)).endTableEcc t (s.table t).bad
  let v := if t = .layout then u.layoutTold else u
  have ended : Mended s u := (s.swapped_mended t bank).trans (.ite (.refl _) (State.hand_mended ..))
  have told : Mended s v := ended.trans (.ite u.layoutTold_mended (.refl u))
  refine told.recomputed.steady_trans (fun i => ?_) (State.actAtSwap_steady _ t)
  have kept := (State.endTableEcc_kept (s.setTable t ((s.table t).swapped bank)) t (s.table t).bad).trans
    ((Kept.ite (c := t = .layout) u.layoutTold_kept (.refl u)).trans
      (.ite (c := (s.unconfigured && !v.unconfigured) = true) v.recompute_kept (.refl v)))
  exact (kept.safe.2 (State.swapped_bankSafe posted i).1).1

theorem State.swapIfDue_steady (frame : Word) (s : State) (t : Table) : Steady s (s.swapIfDue frame t) := by
  unfold State.swapIfDue
  split
  · next posted => exact .ite (fun _ => State.swapTable_steady posted) fun _ => .refl s
  · exact .refl s

theorem execTableStoreSync_steady (frame : Word) (s : State) : Leads (execTableStoreSync frame s) (Steady s) := by
  have swaps (l : List Table) : ∀ u : State, u.started = true → Steady u (l.foldl (State.swapIfDue frame) u) := by
    induction l with
    | nil => exact fun u _ => .refl u
    | cons t ts ih =>
      intro u on
      obtain ⟨safe, started⟩ := State.swapIfDue_safe on frame t
      exact (u.swapIfDue_steady frame t).trans (fun i => (safe.2 i).1) (ih _ started)
  exact leads_next.2 (State.take_steady (.ite (fun on => swaps Table.all _ on) fun _ => .refl _))

end Sys2Proof.Machine
end

section
/-! SUPPORT. The resets and start-up bring L to 0, and leave a state that fits its dark stream, with C within 1024 (R83,
R123, R180, R189 to R191). -/

namespace Sys2Proof.Machine

/-! ## Ports that come up (R1, R191) -/

/-- The ports of a part that has started are none of the light's. -/
theorem DimFit.of_started {s t : State} (fit : DimFit s) (on : s.started = true) (h : t.tables = s.tables ∧
    t.dimming = s.dimming ∧ t.faults.flags.cabinetDark = s.faults.flags.cabinetDark ∧ t.time.ceiling = s.time.ceiling ∧
    t.stream = s.stream ∧ t.started = s.started) : DimFit t := by
  obtain ⟨tables, dimming, cabinetDark, clock, stream, started⟩ := h
  obtain ⟨bound, held⟩ := fit.ceiling
  refine ⟨fit.light.congr dimming (State.unconfigured_congr tables) cabinetDark (by rw [stream]), ⟨?_, ?_⟩, ?_, fun off => ?_⟩
  · rw [dimming]
    exact bound
  · rw [clock, dimming, held]
  · rw [stream, started]
    exact fit.timers
  · rw [started, on] at off
    cases off

/-- A step of a part that has started, at its ports alone. -/
theorem State.raise_steady {s t : State} (on : s.started = true) (h : t.tables = s.tables ∧ t.dimming = s.dimming ∧
    t.faults.flags.cabinetDark = s.faults.flags.cabinetDark ∧ t.time.ceiling = s.time.ceiling ∧ t.stream = s.stream ∧
    t.started = s.started) : Steady s t :=
  ⟨by rw [h.2.1], fun _ fit => fit.of_started on h⟩

theorem State.raiseU_steady {s : State} (on : s.started = true) : Steady s s.raiseU :=
  State.raise_steady on (by simp [State.raiseU])

theorem State.raiseD_steady {s : State} (on : s.started = true) : Steady s s.raiseD :=
  State.raise_steady on (by simp [State.raiseD])

theorem State.setPartner_steady (s : State) (u d : Bool) :
    Steady s { s with link := { s.link with partnerU := u, partnerD := d } } :=
  Dimmed.steady (.of_fields ⟨rfl, rfl, rfl, rfl, rfl, rfl, rfl⟩)

theorem execLinkUp_steady (p : Port) (s : State) : Leads (execLinkUp p s) (Steady s) := by
  have raised {u t : State} (link : u.started = true → Steady u t) {b : Bool} (seen : Steady s u)
      (banks : BankInvariant s → BankInvariant u) : Steady s (if u.started && b then t else u) := by
    refine .ite (fun up => seen.trans banks (link ?_)) fun _ => seen
    exact (Bool.and_eq_true_iff.1 up).1
  cases p with
  | u => exact leads_next.2 (raised State.raiseU_steady (s.setPartner_steady true s.link.partnerD)
      (BankKept.safe (.of_fields ⟨rfl, rfl, rfl, rfl⟩) · |>.1))
  | d => exact leads_next.2 (raised State.raiseD_steady (s.setPartner_steady s.link.partnerU true)
      (BankKept.safe (.of_fields ⟨rfl, rfl, rfl, rfl⟩) · |>.1))

theorem State.raisePorts_fields (s : State) : s.raisePorts.tables = s.tables ∧ s.raisePorts.dimming = s.dimming ∧
    s.raisePorts.faults.flags.cabinetDark = s.faults.flags.cabinetDark ∧ s.raisePorts.time.ceiling = s.time.ceiling ∧
    s.raisePorts.stream = s.stream ∧ s.raisePorts.started = s.started := by
  unfold State.raisePorts State.raiseU State.raiseD
  dsimp only
  split <;> split <;> simp

/-! ## The blocks begin (R189, R191) -/

/-- L is 0 and fits its conditions, the dark stream one of them. -/
structure DarkFit (s : State) : Prop where
  light : LightFit s
  stream : s.stream.state = .dark
  zero : s.dimming.level = 0

theorem Dimmed.dark {s t : State} (h : Dimmed s t) (fit : DarkFit s) : DarkFit t :=
  ⟨h.light fit.light, h.stream ▸ fit.stream, Nat.le_zero.mp (fit.zero ▸ h.lower)⟩

/-- What the blocks leave when they begin. -/
structure Begun (s t : State) : Prop where
  lower : t.dimming.level ≤ s.dimming.level
  dark : DarkFit s → DarkFit t
  ceiling : CeilingsFit s → CeilingFit t
  stream : ∃ x, t.stream = { s.stream with localTick := some x }
  started : t.started = s.started
  port : s.link.upU = false → t.link.upU = false

theorem State.handTableEcc_dimmed (l : List Table) : ∀ s : State, Dimmed s (s.handTableEcc l) := by
  induction l with
  | nil => exact Dimmed.refl
  | cons t ts ih => exact fun s => (s.hand_dimmed _).trans (ih _)

theorem State.handConditions_dimmed (s : State) (marked : List Table) : Dimmed s (s.handConditions marked) := by
  have clock : Dimmed s (if s.time.clockSet then s else s.hand (.conditionDelivery .clockUnset true)) :=
    .ite (.refl s) (s.hand_dimmed _)
  have marks := clock.trans (State.handTableEcc_dimmed marked _)
  exact marks.trans (.ite (State.hand_dimmed ..) (.refl _))

theorem State.lightModules_dimmed (s : State) : Dimmed s s.lightModules := .of_fields ⟨rfl, rfl, rfl, rfl, rfl, rfl, rfl⟩

/-- C takes the value of an evaluation at both blocks. -/
theorem State.resetCeiling_cases (s : State) : ∃ u c source, Dimmed s u ∧ (CeilingsFit s → c ≤ 1024) ∧ s.resetCeiling =
    { u with time := { u.time with ceiling := c, source := source }, dimming := { u.dimming with ceiling := c } } := by
  obtain ⟨u, c, source, read, bound, evaluated⟩ := s.evaluateCeiling_cases
  refine ⟨u, c, source, read, bound, ?_⟩
  rw [State.resetCeiling, evaluated]

/-- In the dark, C can take any value. -/
theorem DarkFit.setCeiling {s : State} (h : DarkFit s) (x : TimeBase) (c : Nat) :
    DarkFit { s with time := x, dimming := { s.dimming with ceiling := c } } := by
  have forced : s.forcedDark = true := State.forcedDark_of_stream (by rw [h.stream]; rfl)
  exact ⟨.of_dark forced h.zero (h.light.dark forced) (h.light.mode.mp forced), h.stream, h.zero⟩

theorem State.startLocalTick_dark {s : State} (h : DarkFit s) (c : Count) : DarkFit (s.startLocalTick c) := by
  obtain ⟨x, ticks⟩ := s.startLocalTick_stream c
  exact ⟨State.startLocalTick_light h.light c, by rw [ticks]; exact h.stream,
    Nat.le_zero.mp (h.zero ▸ (s.startLocalTick_dims c).lower)⟩

theorem State.beginBlocks_begun (s : State) (marked : List Table) : Begun s (s.beginBlocks marked) := by
  have begun : Dimmed s (if s.unconfigured then s.beginUnconfigured else s) := by
    split
    · exact State.beginUnconfigured_dimmed ‹_› rfl rfl rfl rfl rfl
    · exact .refl s
  have kept : Kept s (if s.unconfigured then s.beginUnconfigured else s) := .ite s.beginUnconfigured_kept (.refl s)
  unfold State.beginBlocks
  dsimp only
  generalize (if s.unconfigured then s.beginUnconfigured else s) = u at begun kept
  obtain ⟨w, c, source, read, bound, evaluated⟩ := u.resetCeiling_cases
  rw [evaluated]
  let r : State := { w with time := { w.time with ceiling := c, source := source }, dimming := { w.dimming with ceiling := c } }
  have placed : Dimmed r r.takeGeometry.lightModules := r.takeGeometry_dimmed.trans (State.lightModules_dimmed _)
  change Begun s ((r.takeGeometry.lightModules.startLocalTick r.takeGeometry.lightModules.now).handConditions marked)
  generalize r.takeGeometry.lightModules = v at placed
  have ticking := v.startLocalTick_dims v.now
  obtain ⟨x, ticks⟩ := v.startLocalTick_stream v.now
  have told := State.handConditions_dimmed (v.startLocalTick v.now) marked
  have dims : Dims r _ := placed.toDims.trans (ticking.trans told.toDims)
  refine ⟨dims.lower.trans (read.lower.trans begun.lower), fun fit => ?_, fun fit => ⟨?_, ?_⟩, ⟨x, ?_⟩,
    dims.started.trans (read.started.trans begun.started), fun down => dims.port (read.port (begun.port down))⟩
  · have dark : DarkFit w := read.dark (begun.dark fit)
    exact told.dark (State.startLocalTick_dark (placed.dark (dark.setCeiling _ c)) _)
  · rw [dims.ceiling]
    exact bound (fit.of_kept kept)
  · rw [dims.clock, dims.ceiling]
  · have same : r.stream = s.stream := read.stream.trans begun.stream
    rw [told.stream, ticks, placed.stream, same]

/-! ## Power-on reset and pin reset -/

theorem lightFit_reset {s : State} (dimming : s.dimming = .reset) (stream : s.stream = .reset) : LightFit s :=
  .of_dark (State.forcedDark_of_stream (by rw [stream]; rfl)) (by rw [dimming]; rfl) (by rw [dimming]; rfl)
    (by rw [dimming]; rfl)

/-- A part at its reset values, before start-up. -/
theorem DimFit.of_reset {s : State} (dimming : s.dimming = .reset) (stream : s.stream = .reset)
    (clock : s.time.ceiling = 0) (off : s.started = false) (port : s.link.upU = false) : DimFit s := by
  refine ⟨lightFit_reset dimming stream, ⟨?_, ?_⟩, ?_, fun _ => ⟨port, ?_, ?_⟩⟩
  · rw [dimming]
    exact Nat.zero_le _
  · rw [clock, dimming]
    rfl
  · rw [stream, off]
    exact ⟨by simp [Stream.reset], by simp [Stream.reset], by simp [Stream.reset]⟩
  · rw [stream]
    rfl
  · rw [dimming]
    rfl

theorem State.powerOn_steady (s : State) : Steady s s.powerOn :=
  ⟨Nat.zero_le _, fun _ _ => .of_reset rfl rfl rfl rfl rfl⟩

theorem State.pin_steady (s : State) : Steady s s.pin :=
  ⟨Nat.zero_le _, fun _ _ => .of_reset rfl rfl rfl rfl rfl⟩

/-! ## Soft reset (R189) -/

theorem State.softCleared_ceilings {s : State} (fit : CeilingsFit s) : CeilingsFit s.softCleared := by
  constructor
  · rw [State.softCleared_table]
    exact fit.unset
  · rw [State.softCleared_table]
    exact fit.default
  · rw [State.softCleared_table]
    exact fit.entries

theorem State.soft_begun (s : State) : Begun s.softCleared s.soft := s.softCleared.beginBlocks_begun s.markedTables

theorem State.soft_dark (s : State) : DarkFit s.soft := s.soft_begun.dark ⟨lightFit_reset rfl rfl, rfl, rfl⟩

theorem State.soft_fit {s : State} (on : s.started = true) (fit : CeilingsFit s) : DimFit s.soft := by
  have begun := s.soft_begun
  obtain ⟨x, stream⟩ := begun.stream
  have started : s.soft.started = true := begun.started.trans on
  refine ⟨s.soft_dark.light, begun.ceiling (State.softCleared_ceilings fit), ?_, fun off => ?_⟩
  · rw [stream, started]
    exact ⟨by simp [State.softCleared, Stream.reset], by simp [State.softCleared, Stream.reset],
      by simp [State.softCleared, Stream.reset]⟩
  · rw [started] at off
    cases off

/-- A request is taken at port U. -/
theorem State.arriveMgmt_up {s : State} {h : MgmtHead} {code : Byte} {args : List Byte}
    (taken : (s.arriveMgmt h code args).1 = true) : s.link.upU = true := by
  by_contra down
  rw [State.arriveMgmt, if_neg down] at taken
  cases taken

theorem execSoftReset_steady (head : MgmtHead) (args : List Byte) (s : State) :
    Leads (execSoftReset head args s) (Steady s) := by
  have arrived := s.arriveMgmt_dimmed head 0x10 args
  have kept := s.arriveMgmt_kept head 0x10 args
  have up := State.arriveMgmt_up (s := s) (h := head) (code := 0x10) (args := args)
  unfold execSoftReset
  generalize s.arriveMgmt head 0x10 args = r at arrived kept up
  refine leads_next.2 (.ite (fun taken => .ite (fun _ => ?_) fun _ => ?_) fun _ => arrived.steady)
  · generalize answered : r.2.reply head 0x10 ⟨.ok, .empty⟩ = u
    have replied : Dimmed s u := answered ▸ arrived.trans (State.reply_dimmed ..)
    have keptU : Kept s u := answered ▸ kept.trans (State.reply_kept ..)
    refine ⟨?_, fun banks fit => ?_⟩
    · rw [u.soft_dark.zero]
      exact Nat.zero_le _
    · have on : s.started = true := by
        by_contra off
        simpa [up taken] using (fit.waits (by simpa using off)).port
      exact (State.soft_fit (replied.started.trans on) (((bankInvariant_iff s).1 banks).1.ceilings.of_kept keptU))
  · exact (arrived.trans (State.reply_dimmed ..)).steady

/-! ## Start-up (R190, R191) -/

theorem State.decideLock_dimmed (s : State) : Dimmed s s.decideLock :=
  (s.readEntry_dimmed .limits 10).trans (.of_marks rfl (by simp [State.decideLock]))

theorem State.decideLock_ceilings {s : State} (fit : CeilingsFit s) : CeilingsFit s.decideLock := by
  have active (x : Table) : (s.decideLock.table x).active = (s.table x).active := (s.readEntry_kept .limits 10).active x
  constructor
  · rw [active]
    exact fit.unset
  · rw [active]
    exact fit.default
  · rw [active]
    exact fit.entries

/-- What the loading of the store leaves. -/
theorem State.loadStore_fields (s : State) : s.loadStore.dimming = s.dimming ∧ s.loadStore.time = s.time ∧
    s.loadStore.stream = s.stream ∧ s.loadStore.started = s.started ∧ s.loadStore.link = s.link ∧
    s.loadStore.faults = s.faults := by
  obtain ⟨banks, missing, agent, loaded, -⟩ := s.loadStore_frame
  rw [loaded]
  exact ⟨rfl, rfl, rfl, rfl, rfl, rfl⟩

/-- The state in which start-up has begun every block. -/
def State.begunUp (s : State) : State := s.loadStore.decideLock.beginBlocks s.loadStore.markedTables

theorem State.startUp_eq (s : State) : s.startUp = State.raisePorts { s.begunUp with started := true } := rfl

theorem State.begunUp_begun (s : State) : Begun s.loadStore.decideLock s.begunUp := State.beginBlocks_begun ..

theorem State.begunUp_lower (s : State) : s.begunUp.dimming.level ≤ s.dimming.level := by
  obtain ⟨dimming, -⟩ := s.loadStore_fields
  calc s.begunUp.dimming.level ≤ s.loadStore.decideLock.dimming.level := s.begunUp_begun.lower
    _ ≤ s.loadStore.dimming.level := s.loadStore.decideLock_dimmed.lower
    _ = s.dimming.level := by rw [dimming]

theorem State.begunUp_fit {s : State} (off : s.started = false) (banks : BankInvariant s) (fit : DimFit s) :
    DimFit { s.begunUp with started := true } := by
  obtain ⟨dimming, time, stream, started, link, faults⟩ := s.loadStore_fields
  obtain ⟨port, dark, zero⟩ := fit.waits off
  have loaded : DarkFit s.loadStore := by
    refine ⟨.of_dark (State.forcedDark_of_stream (by rw [stream, dark]; rfl)) ?_ ?_ ?_, by rw [stream, dark], ?_⟩
    · rw [dimming, zero]
    · rw [dimming]
      exact fit.light.dark (State.forcedDark_of_stream (by rw [dark]; rfl))
    · rw [dimming]
      exact fit.light.mode.mp (State.forcedDark_of_stream (by rw [dark]; rfl))
    · rw [dimming, zero]
  have ceilings : CeilingsFit s.loadStore := ((bankInvariant_iff _).1 (s.loadStore_safe.2 banks).1).1.ceilings
  have begun := s.begunUp_begun
  obtain ⟨x, ticks⟩ := begun.stream
  have lit := begun.dark (s.loadStore.decideLock_dimmed.dark loaded)
  refine ⟨lit.light.congr rfl rfl rfl rfl, ?_, ?_, nofun⟩
  · obtain ⟨bound, held⟩ := begun.ceiling (State.decideLock_ceilings ceilings)
    exact ⟨bound, held⟩
  · obtain ⟨timeout, hold, -⟩ := fit.timers
    show TimersFit s.begunUp.stream true
    rw [ticks, s.loadStore.decideLock_dimmed.stream, stream]
    exact ⟨timeout, hold, by simp [dark]⟩

theorem State.startUp_steady {s : State} (off : s.started = false) : Steady s s.startUp := by
  have raised := State.raisePorts_fields { s.begunUp with started := true }
  rw [State.startUp_eq]
  refine ⟨?_, fun banks fit => (State.begunUp_fit off banks fit).of_started rfl raised⟩
  obtain ⟨-, dimming, -⟩ := raised
  rw [dimming]
  exact s.begunUp_lower

theorem execStartUpComplete_steady (s : State) : Leads (execStartUpComplete s) (Steady s) :=
  leads_next.2 (.ite (fun _ => .refl s) fun off => State.startUp_steady (by simpa using off))

end Sys2Proof.Machine
end

section
/-! The laws of the level: L rises only at ticks (R73), and every command keeps the invariant of the level and the stream. -/

namespace Sys2Proof.Machine

/-! ## Ticks -/

/-- The command is a tick of the level in this state (R72). -/
def TickTaken (c : Instr) (s : State) : Prop :=
  (∃ lux valid, c = .dimmingSync lux valid ∧ s.stream.state = .live) ∨ (c = .dimmingLocalTick ∧ s.localTickCounts)

/-- L rises only at a tick and by at most S_up, and the invariant of the level and the stream is kept. -/
structure Levelled (tick : Prop) (s t : State) : Prop where
  rises : s.dimming.level < t.dimming.level →
    tick ∧ t.dimming.level ≤ s.dimming.level + entry (s.table .limits).active 0
  fit : BankInvariant s → DimFit s → DimFit t

theorem Steady.levelled {tick : Prop} {s t : State} (h : Steady s t) : Levelled tick s t :=
  ⟨fun higher => absurd higher (Nat.not_lt.2 h.lower), h.fit⟩

/-- A tick taken in a state that a step which does not raise L has left. -/
theorem State.levelTick_levelled {tick : Prop} (taken : tick) {s u : State} (before : Steady s u)
    (active : (u.table .limits).active = (s.table .limits).active) (started : DimFit s → u.started = true) :
    Levelled tick s u.levelTick where
  rises _ := by
    have bound := u.levelTick_le
    rw [active] at bound
    exact ⟨taken, bound.trans (Nat.add_le_add_right before.lower _)⟩
  fit banks fit := State.levelTick_fit (before.fit banks fit) (started fit)

theorem execDimmingSync_levelled (lux : Word) (valid : Bool) (s : State) :
    Leads (execDimmingSync lux valid s) (Levelled (TickTaken (.dimmingSync lux valid) s) s) := by
  have taken := s.take_dimmed (.dimmingSync lux valid)
  have takenKept := s.take_kept (.dimmingSync lux valid)
  have stream : (s.take (.dimmingSync lux valid)).stream = s.stream := by simp
  unfold execDimmingSync
  generalize s.take (.dimmingSync lux valid) = u at taken takenKept stream
  refine leads_next.2 ?_
  split
  · next on =>
    let r : State := { u with dimming := { u.dimming with lux := lux, luxValid := valid } }
    let e : Instr := .faultEvaluationDelivery [⟨.ambientInvalid, none, !valid, .absent⟩]
    have read : Dimmed u r := ⟨.of_fields ⟨rfl, rfl, rfl, rfl, rfl⟩, rfl, fun fit =>
      ⟨⟨fit.level, fit.unconfigured, fit.cabinetDark⟩, fit.target, fit.mode, fit.dark⟩⟩
    have aimed : Dimmed s (r.hand e).recompute := taken.trans (read.trans ((r.hand_dimmed e).trans (State.recompute_dimmed _)))
    show Levelled _ s (if (r.hand e).recompute.stream.state = .live then _ else _)
    split
    · next live =>
      refine State.levelTick_levelled (.inl ⟨lux, valid, rfl, by rwa [aimed.stream] at live⟩) aimed.steady ?_
        fun _ => aimed.started.trans (taken.started ▸ on)
      have kept := (r.hand_kept e).trans (State.recompute_kept _)
      exact (kept.active .limits).trans (takenKept.active .limits)
    · exact aimed.steady.levelled
  · exact taken.steady.levelled

/-- A local tick that counts is taken by a part that has started. -/
theorem DimFit.started_of_counts {s : State} (fit : DimFit s) (counts : s.localTickCounts) : s.started = true := by
  obtain ⟨delivered, waiting⟩ := counts
  refine fit.started fun dark => ?_
  cases ticks : s.stream.ticks with
  | nil => simp [dark] at waiting; exact waiting ticks
  | cons x rest => simpa [dark] using (delivered x rest ticks).2

theorem State.dropTick_steady (s : State) (l : List StreamState) : Steady s { s with stream := { s.stream with ticks := l } } := by
  refine Dims.steady (.of_fields ⟨rfl, rfl, rfl, rfl, rfl⟩) (fun fit => fit.congr rfl rfl rfl rfl) (fun fit => ?_)
    fun _ _ => rfl
  obtain ⟨timeout, hold, localTick⟩ := fit.timers
  exact ⟨timeout, hold, localTick⟩

theorem execDimmingLocalTick_levelled (s : State) :
    Leads (execDimmingLocalTick s) (Levelled (TickTaken .dimmingLocalTick s) s) := by
  have taken := s.take_kept .dimmingLocalTick
  have same : (s.take .dimmingLocalTick).stream = s.stream := by simp
  have before := State.take_steady ((s.take .dimmingLocalTick).dropTick_steady (s.take .dimmingLocalTick).stream.ticks.tail)
  unfold execDimmingLocalTick
  generalize s.take .dimmingLocalTick = u at taken same before
  refine leads_next.2 ?_
  split
  · next counts =>
    rw [same] at counts
    have counted := (Stream.tickCounts_iff s).mp counts
    exact State.levelTick_levelled (.inr ⟨rfl, counted⟩) before (taken.active .limits)
      fun fit => taken.started.trans (fit.started_of_counts counted)
  · exact before.levelled

/-! ## Every command -/

theorem Leads.levelled_of_dimmed {tick : Prop} {o : Host.Outcome State Fault Refusal} {s : State} (h : Leads o (Dimmed s)) :
    Leads o (Levelled tick s) := fun t e => (h t e).steady.levelled

theorem Leads.levelled {tick : Prop} {o : Host.Outcome State Fault Refusal} {s : State} (h : Leads o (Steady s)) :
    Leads o (Levelled tick s) := fun t e => (h t e).levelled

/-- A request that carries out a change of C. -/
theorem State.request_steady {carryOut : State → Answer × State} (h : ∀ u, Steady u (carryOut u).2)
    (kept : ∀ u, BankKept u (carryOut u).2) (s : State) (head : MgmtHead) (code : Byte) (args : List Byte) :
    Steady s (s.request head code args carryOut) := by
  have arrived := s.arriveMgmt_dimmed head code args
  have banks := s.arriveMgmt_kept head code args
  unfold State.request
  dsimp only
  split
  · refine arrived.steady_trans (fun i => (banks.safe.2 i).1) ((h _).trans (fun i => ((kept _).safe i).1) ?_)
    exact (State.reply_dimmed ..).steady
  · exact arrived.steady

/-- Every command raises L only at a tick, and keeps the invariant of the level and the stream. -/
theorem exec_levelled (c : Instr) (s : State) : Leads (exec c s) (Levelled (TickTaken c s) s) := by
  cases c with
  | powerOnReset => exact leads_next.2 s.powerOn_steady.levelled
  | pinReset => exact leads_next.2 s.pin_steady.levelled
  | startUpComplete => exact Leads.levelled (execStartUpComplete_steady s)
  | linkUp p => exact Leads.levelled (execLinkUp_steady p s)
  | linkDown p => exact Leads.levelled_of_dimmed (execLinkDown_dimmed p s)
  | frameCheckFailure p => exact Leads.levelled_of_dimmed (execFrameCheckFailure_dimmed p s)
  | frameAborted p => exact leads_next.2 (Steady.refl s).levelled
  | syncFrame frame content lux flags => exact Leads.levelled_of_dimmed (execSyncFrame_dimmed frame content lux flags s)
  | frameCaptureSync frame content => exact Leads.levelled_of_dimmed (execFrameCaptureSync_dimmed frame content s)
  | dimmingSync lux valid => exact execDimmingSync_levelled lux valid s
  | tableStoreSync frame => exact Leads.levelled (execTableStoreSync_steady frame s)
  | streamSync => exact Leads.levelled (execStreamSync_steady s)
  | sweepCountSync =>
    exact leads_next.2 (State.take_steady (.ite (fun _ => (State.sweepCounted_dimmed _).steady) fun _ => .refl _)).levelled
  | sweepTick => exact leads_next.2 (Dimmed.ite s.sweepTick_dimmed (.refl s)).steady.levelled
  | pixelFrame line column samples pad =>
    exact Leads.levelled_of_dimmed (execPixelFrame_dimmed line column samples pad s)
  | enumFrame counter => exact Leads.levelled_of_dimmed (execEnumFrame_dimmed counter s)
  | mgmtNotTaken head code args => exact leads_next.2 (s.arriveMgmt_dimmed head code args).steady.levelled
  | holdFrame pause => exact Leads.levelled_of_dimmed (execHoldFrame_dimmed pause s)
  | forwardedReply body => exact Leads.levelled_of_dimmed (execForwardedReply_dimmed body s)
  | forwardedRecord rec =>
    exact leads_next.2 (Dimmed.ite (s.arriveRecord_dimmed .forwarded rec) (.refl s)).steady.levelled
  | forwardedFrameSent => exact Leads.levelled_of_dimmed (execForwardedFrameSent_dimmed s)
  | holdFrameSent => exact Leads.levelled_of_dimmed (execHoldFrameSent_dimmed s)
  | replySent => exact Leads.levelled_of_dimmed (execReplySent_dimmed s)
  | reportSent => exact Leads.levelled_of_dimmed (execReportSent_dimmed s)
  | millisecondStep => exact Leads.levelled_of_dimmed (execMillisecondStep_dimmed s)
  | secondEventLink => exact Leads.levelled_of_dimmed (execSecondEventLink_dimmed s)
  | summaryCountAdvance => exact Leads.levelled_of_dimmed (execSummaryCountAdvance_dimmed s)
  | minuteEventCeiling => exact Leads.levelled (execMinuteEventCeiling_steady s)
  | overrideMinute => exact Leads.levelled_of_dimmed (execOverrideMinute_dimmed s)
  | overrideExpiry => exact Leads.levelled_of_dimmed (execOverrideExpiry_dimmed s)
  | syncTimeoutExpiry => exact Leads.levelled (execSyncTimeoutExpiry_steady s)
  | holdExpiry => exact Leads.levelled (execHoldExpiry_steady s)
  | localTickExpiry => exact Leads.levelled (execLocalTickExpiry_steady s)
  | dimmingLocalTick => exact execDimmingLocalTick_levelled s
  | sweepCountLocalTick =>
    exact leads_next.2 (State.take_steady (.ite (fun _ => (State.sweepCounted_dimmed _).steady) fun _ => .refl _)).levelled
  | lZeroNotice => exact Leads.levelled (execLZeroNotice_steady s)
  | moduleComputation => exact Leads.levelled_of_dimmed (execModuleComputation_dimmed s)
  | pollResult m number opens shorts temperature =>
    exact Leads.levelled_of_dimmed (execPollResult_dimmed m number opens shorts temperature s)
  | faultEvaluationDelivery evaluations =>
    exact Leads.levelled_of_dimmed (execFaultEvaluationDelivery_dimmed evaluations s)
  | conditionDelivery condition present =>
    exact Leads.levelled_of_dimmed (execConditionDelivery_dimmed condition present s)
  | tableEccDelivery table present => exact Leads.levelled_of_dimmed (execTableEccDelivery_dimmed table present s)
  | restoreWindowExpiry => exact Leads.levelled_of_dimmed (execRestoreWindowExpiry_dimmed s)
  | localReportDelivery reports => exact Leads.levelled_of_dimmed (execLocalReportDelivery_dimmed reports s)
  | holdRefreshExpiry => exact Leads.levelled_of_dimmed (execHoldRefreshExpiry_dimmed s)
  | inboundHoldExpiry => exact Leads.levelled_of_dimmed (execInboundHoldExpiry_dimmed s)
  | saveWriteSuccess => exact Leads.levelled_of_dimmed (execSaveWriteSuccess_dimmed s)
  | saveWriteFailure => exact Leads.levelled_of_dimmed (execSaveWriteFailure_dimmed s)
  | unknownRequest head code args =>
    exact leads_next.2 (State.request_dimmed (fun u => .refl u) s head _ args).steady.levelled
  | identify head args =>
    exact leads_next.2 (State.request_dimmed (fun u => .refl u) s head _ args).steady.levelled
  | statusRead head args =>
    exact leads_next.2 (State.request_dimmed (fun u => .refl u) s head _ args).steady.levelled
  | tableWrite head args =>
    exact leads_next.2 (State.request_dimmed (tableWrite_dimmed args) s head _ args).steady.levelled
  | tableRead head args =>
    exact leads_next.2 (State.request_dimmed (tableRead_dimmed args) s head _ args).steady.levelled
  | tableCommit head args =>
    exact leads_next.2 (State.request_dimmed (tableCommit_dimmed args) s head _ args).steady.levelled
  | tableAbandon head args =>
    exact leads_next.2 (State.request_dimmed (tableAbandon_dimmed args) s head _ args).steady.levelled
  | ceilingLock head args =>
    exact leads_next.2 (State.request_dimmed (ceilingLock_dimmed args) s head _ args).steady.levelled
  | timeSet head args =>
    exact leads_next.2 (State.request_steady (timeSet_steady args) (fun u => (timeSet_safe args u).2) s head _ args).levelled
  | driftSet head args =>
    exact leads_next.2 (State.request_dimmed (driftSet_dimmed args) s head _ args).steady.levelled
  | levelOverride head args =>
    exact leads_next.2 (State.request_dimmed (levelOverride_dimmed args) s head _ args).steady.levelled
  | overrideEnd head args =>
    exact leads_next.2 (State.request_dimmed (overrideEnd_dimmed args) s head _ args).steady.levelled
  | trimNudge head args =>
    exact leads_next.2 (State.request_dimmed (trimNudge_dimmed args) s head _ args).steady.levelled
  | faultRead head args =>
    exact leads_next.2 (State.request_dimmed (faultRead_dimmed args) s head _ args).steady.levelled
  | faultClear head args =>
    exact leads_next.2 (State.request_dimmed (dimmed_stable.faultClear args) s head _ args).steady.levelled
  | save head args => exact Leads.levelled_of_dimmed (execSave_dimmed head args s)
  | softReset head args => exact Leads.levelled (execSoftReset_steady head args s)

/-- Every command completes. -/
theorem exec_next (c : Instr) (s : State) : ∃ t, exec c s = .next t := by
  cases c with
  | linkUp p => cases p <;> exact ⟨_, rfl⟩
  | linkDown p => cases p <;> exact ⟨_, rfl⟩
  | frameCheckFailure p => cases p <;> exact ⟨_, rfl⟩
  | _ => exact ⟨_, rfl⟩

/-- Settles O31: of every command, the ticks alone raise L, by at most S_up. -/
theorem levelRisesOnlyAtTicks : Obligations.LevelRisesOnlyAtTicks := by
  intro c s
  obtain ⟨t, done⟩ := exec_next c s
  exact ⟨t, done, (exec_levelled c s t done).rises⟩

/-- Settles O58: the banks are kept by O57, the light, C and the stream's timers by each command. -/
theorem levelInvariantIsKept : Obligations.LevelInvariantIsKept := by
  intro s t i h
  obtain ⟨banks, fit⟩ := (levelInvariant_iff s).1 i
  refine (levelInvariant_iff t).2 ⟨(bankInvariantIsKept s t banks h).1, ?_⟩
  unfold step at h
  split at h
  · cases h
    exact fit
  · next c rest _ =>
    have popped : Dimmed s { s with pending := rest } := .of_fields ⟨rfl, rfl, rfl, rfl, rfl, rfl, rfl⟩
    have kept : BankKept s { s with pending := rest } := .of_fields ⟨rfl, rfl, rfl, rfl⟩
    exact (exec_levelled c _ t h).fit (kept.safe banks).1 (popped.fit fit)

end Sys2Proof.Machine
end

section
/-! SUPPORT. The commands of the Dimming Controller and the minute event of the ceiling, while the storage shows no error. -/

namespace Sys2Proof.Machine

/-- A tick while the storage shows no error is that of R73. -/
theorem State.levelTick_ticked {s : State} (quiet : s.storage = []) : Ticked s s.levelTick := by
  unfold State.levelTick
  simp only [State.readEntry_quiet quiet]
  refine ⟨fun below up value => ?_, fun above down value => ?_, fun same => ?_⟩
  · rw [if_pos below, value]
    rfl
  · rw [if_neg (Nat.not_lt.2 above.le), if_pos above, value]
    exact s.lowerLevel_lowered _
  · rw [if_neg (Nat.not_lt.2 same.ge), if_neg (Nat.not_lt.2 same.le)]

/-- Settles O27: the reading is recorded, T recomputed from it, and L ticks while the stream is LIVE. -/
theorem dimmingSyncFollowsTheLight : Obligations.DimmingSyncFollowsTheLight := by
  intro lux valid s on quiet ambient
  let u : State := { s with
    dimming := { s.dimming with lux := lux, luxValid := valid }
    handed := s.handed.erase (.dimmingSync lux valid) ++
      [.faultEvaluationDelivery [⟨.ambientInvalid, none, !valid, .absent⟩]] }
  have aimed : Recomputed u u.recompute := State.recompute_recomputed quiet ambient
  have stream : u.recompute.stream = s.stream := u.recompute_stream
  have still : u.recompute.storage = [] := by
    rw [State.recompute_quiet (s := u) quiet]
    exact quiet
  have run : exec (.dimmingSync lux valid) s =
      .next (if s.started then if u.recompute.stream.state = .live then u.recompute.levelTick else u.recompute
        else s.take (.dimmingSync lux valid)) := rfl
  rw [if_pos on] at run
  refine ⟨_, run, u.recompute, aimed, fun live => ?_, fun lost => ?_⟩
  · rw [if_pos (by rw [stream, live])]
    exact State.levelTick_ticked still
  · rw [if_neg (by rwa [stream])]

/-- Settles O28: a local tick that counts is a tick, and any other is only taken from its queue. -/
theorem localTicksMoveTheLevelInDarkening : Obligations.LocalTicksMoveTheLevelInDarkening := by
  intro s quiet u
  have run : exec .dimmingLocalTick s = .next (if s.stream.tickCounts then u.levelTick else u) := rfl
  refine ⟨fun counts => ?_, fun none => ?_⟩
  · rw [if_pos ((Stream.tickCounts_iff s).mpr counts)] at run
    exact ⟨_, run, State.levelTick_ticked (s := u) quiet⟩
  · rw [if_neg fun counts => none ((Stream.tickCounts_iff s).mp counts)] at run
    exact run

/-- The override record is set and T recomputed (R79 to R81). -/
theorem State.setOverride_set {s : State} (quiet : s.storage = []) (ambient : validate .ambient (s.table .ambient).active = none)
    (o : Option Override) : OverrideSet s o (s.setOverride o) :=
  State.recompute_recomputed (s := { s with dimming := { s.dimming with override := o } }) quiet ambient

/-- Settles O29: a minute event takes a minute of the override, and its last minute or its expiry makes the record absent. -/
theorem overridesCountDown : Obligations.OverridesCountDown := by
  intro s quiet ambient u
  have minute : exec .overrideMinute s = .next (match s.dimming.override with
    | none => u
    | some o =>
      if o.minutes ≤ 1 then u.setOverride none
      else { u with dimming := { s.dimming with override := some ⟨o.level, o.minutes - 1⟩ } }) := rfl
  have expiry : exec .overrideExpiry s = .next (if s.dimming.override.isSome then s.setOverride none else s) := rfl
  refine ⟨fun absent => ?_, fun o held => ?_⟩
  · rw [minute, expiry, absent]
    exact ⟨rfl, rfl⟩
  · rw [held] at minute expiry
    dsimp only at minute
    refine ⟨fun more => ?_, fun last => ?_, _, expiry, State.setOverride_set quiet ambient none⟩
    · rw [minute, if_neg (Nat.not_le.2 more)]
    · rw [if_pos last] at minute
      exact ⟨_, minute, State.setOverride_set (s := u) quiet ambient none⟩

/-- Settles O37: the event is an evaluation of C, which a part that has not started does not make. -/
theorem minuteEventEvaluatesTheCeiling : Obligations.MinuteEventEvaluatesTheCeiling := by
  intro s quiet ambient u
  have run : exec .minuteEventCeiling s = .next (if s.started then u.ceilingEvent else u) := rfl
  refine ⟨fun on => ?_, fun off => ?_⟩
  · rw [if_pos on] at run
    exact ⟨_, run, State.ceilingEvent_spec (s := u) quiet ambient⟩
  · rw [run, off]
    rfl

end Sys2Proof.Machine
end

section
/-! SUPPORT. One read of an active entry, for each outcome that the storage can show (R166, R169), and the counted events of
the sweep (R104, R105). -/

namespace Sys2Proof.Machine

/-! ## An entry that is withdrawn (R76, R166, R169) -/

/-- In the dark, T at 0 with its mode and source is what a recomputation gives (R70). -/
theorem State.darkTarget_recomputed {s : State} (dark : s.forcedDark = true) : Recomputed s s.darkTarget := by
  refine ⟨fun _ => ⟨fun override => ?_, fun override usable => ?_, fun override unusable => ?_⟩, fun lit => ?_⟩
  · have source : s.selectSource = .override := by simp [State.selectSource, Option.isSome_iff_ne_none, override]
    rw [State.darkTarget, source]
  · have source : s.selectSource = .auto := by simp [State.selectSource, override, usable]
    rw [State.darkTarget, source]
  · have source : s.selectSource = .fallback := by
      simp only [State.selectSource, override, Option.isSome_none, Bool.false_eq_true, if_false, Bool.and_eq_true,
        List.isEmpty_iff, if_neg unusable]
    rw [State.darkTarget, source]
  · rw [dark] at lit
    cases lit

/-- An uncorrectable error withdraws the entry. -/
theorem State.markBad_withdrawn (s : State) (t : Table) (i : Nat) : Withdrawn s t i (s.markBad t i) := by
  rw [State.markBad_eq]
  refine ⟨fun essential configured => ?_, fun none => ?_⟩
  · have begun : (s.withMark t i).unconfigured = true := State.unconfigured_of_marked essential (by simp [State.withMark])
    have dark : ((s.withMark t i).lowerLevel 0).forcedDark = true :=
      (State.lowerLevel_forcedDark _ 0).trans (State.forcedDark_of_unconfigured begun)
    have capture : ((s.withMark t i).lowerLevel 0).capture = s.capture := State.lowerLevel_capture ..
    rw [if_pos (by simp [configured, begun])]
    refine ⟨_, _, State.lowerLevel_lowered _ 0, State.darkTarget_recomputed dark, ?_⟩
    rw [← capture]
    rfl
  · have same : (!s.unconfigured && (s.withMark t i).unconfigured) = false := by
      rcases none with other | before
      · simp [State.withMark_other (by simpa using other)]
      · simp [before]
    rw [same]
    rfl

/-! ## One read -/

/-- What a read of an unmarked entry yields and leaves, for the one error that the storage shows. -/
theorem State.readActive_entryRead {s : State} {t : Table} {i : Nat} {o : StorageOutcome} (unmarked : i ∉ (s.table t).bad)
    (error : s.storage = [⟨t, .active, i, o⟩]) :
    ∃ r : ReadResult, EntryRead { s with storage := [] } t .active i o r.marked (s.readActive t i).2 ∧
      (s.readActive t i).1 = r := by
  have consult : s.consult t .active i = (o, { s with storage := [] }) := by simp [State.consult, error, popOutcome]
  have consulted (u : State) : u.consulted t .active = .active := by simp [State.consulted]
  rw [State.readActive, if_neg unmarked, consult]
  cases o with
  | sound => exact ⟨_, ⟨rfl, rfl⟩, rfl⟩
  | correctable =>
    refine ⟨_, ⟨rfl, ?_⟩, rfl⟩
    rw [consulted]
    rfl
  | uncorrectable =>
    refine ⟨_, ⟨rfl, fun _ => State.markBad_withdrawn .., fun shadow => ?_⟩, rfl⟩
    rw [consulted] at shadow
    cases shadow

/-! ## The sweep -/

theorem State.sweepTick_swept (s : State) : Swept s s.sweepTick := by
  unfold Swept State.sweepTick State.sweepSilence
  cases s.drive.inFlight with
  | none => simp [State.sweepSend, State.emit, State.now]
  | some p => rfl

/-- What a counted event comes to with 2^n as the bound of the count. -/
def State.countedAt (w : State) (n : Nat) : State :=
  if 2 ^ n ≤ w.drive.sweepCount + 1 then { w with drive := { w.drive with sweepCount := 0 } }.sweepTick
  else { w with drive := { w.drive with sweepCount := w.drive.sweepCount + 1 } }

theorem State.sweepCounted_eq (s : State) :
    s.sweepCounted = (s.readEntry .policy 39).2.countedAt ((s.readEntry .policy 39).1.getD 0) := rfl

/-- Below 2^n the event is counted; at 2^n it is a sweep tick, and the count begins anew. -/
theorem State.countedAt_spec {c : Instr} {s w : State} {n : Nat} (run : exec c s = .next (w.countedAt n)) :
    (w.drive.sweepCount + 1 < 2 ^ n →
      exec c s = .next { w with drive := { w.drive with sweepCount := w.drive.sweepCount + 1 } }) ∧
    (2 ^ n ≤ w.drive.sweepCount + 1 → Completes c s (Swept { w with drive := { w.drive with sweepCount := 0 } })) := by
  unfold State.countedAt at run
  refine ⟨fun below => ?_, fun reached => ?_⟩
  · rwa [if_neg (Nat.not_le.2 below)] at run
  · rw [if_pos reached] at run
    exact ⟨_, run, State.sweepTick_swept _⟩

/-- The counted events are taken from their queue and counted. -/
theorem exec_counted {c : Instr} {s : State} (on : s.started = true) (counted : c = .sweepCountSync ∨ c = .sweepCountLocalTick) :
    exec c s = .next ({ s with handed := s.handed.erase c } : State).sweepCounted := by
  rcases counted with rfl | rfl
  · exact congrArg Host.Outcome.next (if_pos on)
  · exact congrArg Host.Outcome.next (if_pos on)

/-- The number that a read yields for its caller, with 0 where the entry is bad. -/
theorem ReadResult.value_marked (r : ReadResult) :
    (r.value.map BitVec.toNat).getD 0 = if r.marked.2 = .bad then 0 else r.marked.1.toNat := by
  cases r <;> rfl

/-- Settles O24: a counted event reads n and is counted up to 2^n; a read that finds an error has its effects first. -/
theorem countedEventsBringSweepTicks : Obligations.CountedEventsBringSweepTicks := by
  intro s on
  refine ⟨fun c counted => ⟨fun quiet => ?_, fun o error unmarked => ?_⟩, ?_⟩
  · have run := exec_counted on counted
    rw [State.sweepCounted_eq, State.readEntry_quiet (s := { s with handed := s.handed.erase c }) quiet] at run
    exact State.countedAt_spec run
  · obtain ⟨r, read, found⟩ := State.readActive_entryRead (s := { s with handed := s.handed.erase c }) unmarked error
    refine ⟨r.marked, _, read, State.countedAt_spec ?_⟩
    rw [exec_counted on counted, State.sweepCounted_eq, ← ReadResult.value_marked, ← found]
    rfl
  · exact ⟨_, congrArg Host.Outcome.next (if_pos on), State.sweepTick_swept s⟩

end Sys2Proof.Machine
end

section
/-! SUPPORT. The blanked count through an event of the Fault Monitor (R138, R139, R142): where each module has its state, the
freeing of a record leaves the count, and an admission does not raise it; and CABINET_DARK then follows the count. -/

namespace Sys2Proof.Machine

/-! ## Which modules are counted -/

/-- A BLANK record acts on the module (R138). -/
def State.Blanks (s : State) (m : Nat) : Prop :=
  ∃ r ∈ s.faults.records, ActsOn r m ∧ s.presentOrDefault .policy (27 + r.kind.code) = 2

theorem moduleStatusOf_isDark (as : List Action) (waiting : Bool) :
    (moduleStatusOf as waiting).isDark = true ↔ blanks as = true ∨ waiting = true := by
  unfold moduleStatusOf
  cases blanks as with
  | true => simp [ModuleStatus.isDark]
  | false =>
    cases waiting with
    | true => simp [ModuleStatus.isDark]
    | false => cases derates as <;> simp [ModuleStatus.isDark, ModuleStatus.lit]

theorem ModuleDerived.isDark_iff {s : State} {m : Nat} {x : ModuleStatus} (h : ModuleDerived s m x) :
    x.isDark = true ↔ s.Blanks m ∨ m ∈ s.faults.restoreQueue := by
  obtain ⟨blank, wait, derate, lit⟩ := h
  rw [ModuleStatus.isDark_iff]
  by_cases two : s.Blanks m
  · simp [two, blank two]
  · by_cases waits : m ∈ s.faults.restoreQueue
    · simp [waits, wait two waits]
    · refine iff_of_false (fun dark => ?_) (by simp [two, waits])
      by_cases one : ∃ r ∈ s.faults.records, ActsOn r m ∧ s.presentOrDefault .policy (27 + r.kind.code) = 1
      · simp [(derate two waits one).1] at dark
      · simp [lit two waits one] at dark

theorem ModuleDerived.blanked {s : State} {m : Nat} {x : ModuleStatus} (h : ModuleDerived s m x) (blank : s.Blanks m) :
    x.state = .blanked := h.1 blank

/-- A derived module is counted where it blanks, was BLANKED, or waits. -/
theorem State.deriveModule_count {s : State} (quiet : s.storage = []) {m : Nat}
    (same : ∀ x, s.faults.modules[m]? = some x →
      (x.isDark = true ↔ s.Blanks m ∨ x.state = .blanked ∨ m ∈ s.faults.restoreQueue)) :
    (s.deriveModule m).faults.blankedCount = s.faults.blankedCount := by
  rw [State.deriveModule_quiet quiet]
  unfold Faults.blankedCount Faults.derived
  by_cases exist : m < s.faults.modules.length
  · have old := same _ (List.getElem?_eq_getElem exist)
    have was : s.faults.isBlanked m = true ↔ s.faults.modules[m].state = .blanked := by
      simp [Faults.isBlanked, List.getElem?_eq_getElem exist]
    have new : (moduleStatusOf (s.actionsOf m) ((restoreQueueOf s.faults.restoreQueue m (s.faults.isBlanked m)
        (blanks (s.actionsOf m))).contains m)).isDark = s.faults.modules[m].isDark := by
      rw [Bool.eq_iff_iff, moduleStatusOf_isDark, old, List.contains_iff_mem, mem_restoreQueueOf, ← was,
        State.blanks_actionsOf]
      show s.Blanks m ∨ _ ↔ _
      rw [← Bool.not_eq_true, State.blanks_actionsOf]
      change s.Blanks m ∨ (m ≠ m ∧ m ∈ s.faults.restoreQueue) ∨ (m = m ∧ ¬ s.Blanks m ∧ _) ↔ _
      tauto
    have counted : s.faults.modules[m].isDark = true → 0 < s.faults.modules.countP ModuleStatus.isDark :=
      fun dark => List.countP_pos_iff.2 ⟨_, List.getElem_mem exist, dark⟩
    rw [List.countP_set exist, new]
    split
    · next dark =>
      have := counted dark
      omega
    · rfl
  · rw [List.set_eq_of_length_le (by omega)]

/-! ## The operations of an event -/

section

variable {w : Work}

/-- The freeing of a record leaves the blanked count: its module stays BLANKED or waits (R139). -/
theorem Work.free_count (quiet : w.st.storage = []) (derived : AllDerived w.st) (r : FaultRecord) :
    (w.free r).st.faults.blankedCount = w.st.faults.blankedCount := by
  rcases w.free_cases r with ⟨-, free⟩ | ⟨m, -, free⟩
  · rw [free]
    rfl
  · rw [free]
    refine State.deriveModule_count (s := (w.drop r).st) quiet fun x hx => ?_
    have own := derived m x hx
    have fewer : (w.drop r).st.Blanks m → w.st.Blanks m :=
      fun ⟨q, hq, acts⟩ => ⟨q, (List.mem_filter.1 hq).1, acts⟩
    rw [own.isDark_iff]
    show _ ↔ _ ∨ _ ∨ m ∈ w.st.faults.restoreQueue
    constructor
    · rintro (blank | waits)
      · exact .inr (.inl (own.blanked blank))
      · exact .inr (.inr waits)
    · rintro (blank | was | waits)
      · exact .inl (fewer blank)
      · exact own.isDark_iff.1 ((ModuleStatus.isDark_iff x).2 (.inl was))
      · exact .inr waits

theorem Work.makeRoom_count (quiet : w.st.storage = []) (derived : AllDerived w.st) :
    w.makeRoom.st.faults.blankedCount = w.st.faults.blankedCount := by
  unfold Work.makeRoom
  split
  · rfl
  · split
    · next r _ => exact Work.free_count (w := w.sayRecord .cleared r) quiet derived r
    · split
      · next r _ => exact Work.free_count quiet derived r
      · rfl

theorem Work.raise_count (quiet : w.st.storage = []) (derived : AllDerived w.st) (k : FaultKind) (d : Detail) :
    (w.raise k d).st.faults.blankedCount = w.st.faults.blankedCount := by
  rw [← Work.makeRoom_count quiet derived]
  rcases w.raise_cases k d with ⟨n, -, faults, -⟩ | ⟨-, same⟩
  · rw [faults]
    rfl
  · rw [same]

theorem Work.clear_count (w : Work) (k : FaultKind) : (w.clear k).st.faults.blankedCount = w.st.faults.blankedCount := by
  rcases w.clear_cases k with ⟨-, same⟩ | ⟨r, -, cleared⟩
  · rw [same]
  · rw [cleared]
    rfl

theorem Work.turnDark_count (quiet : w.st.storage = []) (b : Bool) :
    (w.turnDark b).st.faults.blankedCount = w.st.faults.blankedCount := by
  rw [Work.turnDark_faults quiet]
  rfl

/-- The evaluation of CABINET_DARK leaves the blanked count, even where its record evicts one (R136, R139). -/
theorem Work.evaluateDark_count (quiet : w.st.storage = []) (fit : w.st.faults.SlotsFit) (derived : AllDerived w.st) :
    w.evaluateDark.st.faults.blankedCount = w.st.faults.blankedCount := by
  rcases Work.evaluateDark_cases quiet with ⟨same, -⟩ | ⟨-, -, start⟩ | ⟨-, -, stop⟩
  · rw [same]
  · have turned := Work.turnDark_moves quiet true
    rw [start, Work.raise_count (turned.only.storage.trans quiet) (turned.derived fit derived),
      Work.turnDark_count quiet]
  · rw [stop, Work.clear_count, Work.turnDark_count quiet]

theorem Work.evaluateDark_darkExact (quiet : w.st.storage = []) (fit : w.st.faults.SlotsFit) (derived : AllDerived w.st) :
    w.evaluateDark.st.DarkExact := by
  unfold State.DarkExact
  rw [Work.evaluateDark_flag quiet, (Work.evaluateDark_moves quiet).only.darkAt, Work.evaluateDark_count quiet fit derived]

/-- An admission does not raise the blanked count: the module that it takes was counted (R140). -/
theorem Work.admitOne_count (quiet : w.st.storage = []) (derived : AllDerived w.st) {m : Nat} {ms : List Nat}
    (queue : w.st.faults.restoreQueue = m :: ms) :
    (w.admitOne m).st.faults.blankedCount ≤ w.st.faults.blankedCount := by
  have quiet' : (w.setFaults { w.faults with
    restoreQueue := w.faults.restoreQueue.tail, history := w.faults.history ++ [w.st.now] }).st.storage = [] := quiet
  unfold Faults.blankedCount Work.admitOne Work.say
  dsimp only
  rw [State.deriveModule_quiet quiet']
  exact countP_set_le (fun y hy => (derived m y hy).isDark_of_waiting (by simp [queue])) _

end

/-! ## What follows the transitions -/

/-- A work in which each module has its state, while the storage shows no error. -/
structure Work.Orderly (w : Work) : Prop where
  quiet : w.st.storage = []
  fit : w.st.faults.SlotsFit
  derived : AllDerived w.st

theorem Work.Orderly.moves {w w' : Work} (h : w.Orderly) (moves : w.Moves w') : w'.Orderly :=
  ⟨moves.only.storage.trans h.quiet, (moves.fit h.fit).1, moves.derived h.fit h.derived⟩

/-- The count is not raised, and CABINET_DARK follows it where it did before. -/
structure Work.Fades (w w' : Work) : Prop where
  count : w'.st.faults.blankedCount ≤ w.st.faults.blankedCount
  exact : w.st.DarkExact → w'.st.DarkExact

theorem Work.Fades.refl (w : Work) : w.Fades w := ⟨Nat.le_refl _, id⟩

theorem Work.Orderly.admitAll (n : Nat) : ∀ {w : Work}, w.Orderly → w.Moves (w.admitAll n) ∧ w.Fades (w.admitAll n) := by
  induction n with
  | zero => exact fun {w} _ => ⟨.refl w, .refl w⟩
  | succ n ih =>
    intro w h
    rw [Work.admitAll]
    split
    · next m ms queue =>
      split
      · have admitted := (Work.admit_steps h.quiet queue).moves
        have one := h.moves admitted
        have evaluated := Work.evaluateDark_moves one.quiet
        obtain ⟨onward, rest⟩ := ih (one.moves evaluated)
        refine ⟨admitted.trans (evaluated.trans onward), ?_,
          fun _ => rest.exact (Work.evaluateDark_darkExact one.quiet one.fit one.derived)⟩
        calc _ ≤ (w.admitOne m).evaluateDark.st.faults.blankedCount := rest.count
          _ = (w.admitOne m).st.faults.blankedCount := Work.evaluateDark_count one.quiet one.fit one.derived
          _ ≤ w.st.faults.blankedCount := Work.admitOne_count h.quiet h.derived queue
      · exact ⟨.refl w, .refl w⟩
    · exact ⟨.refl w, .refl w⟩

/-- The end of an event: the count is not raised, and CABINET_DARK follows it where it did for the count before the
transitions (R142). -/
theorem Work.Orderly.settle {w : Work} (h : w.Orderly) (before : Nat) :
    (w.settle before).st.faults.blankedCount ≤ w.st.faults.blankedCount ∧
      ((w.st.faults.blankedCount = before → w.st.DarkExact) → (w.settle before).st.DarkExact) := by
  have recorded (v : Work) : v.recordConditions.st.faults.blankedCount = v.st.faults.blankedCount := by
    obtain ⟨extra, -, st⟩ := v.recordConditions_records
    rw [st]
    rfl
  obtain ⟨moves, first⟩ := h.admitAll historyMax
  have one := h.moves moves
  unfold Work.settle
  dsimp only
  rw [recorded]
  split
  · next same =>
    obtain ⟨-, second⟩ := one.admitAll historyMax
    exact ⟨second.count.trans first.count,
      fun exact => Work.recordConditions_exact (second.exact (first.exact (exact same)))⟩
  · have evaluated := Work.evaluateDark_moves one.quiet
    obtain ⟨-, second⟩ := (one.moves evaluated).admitAll historyMax
    refine ⟨second.count.trans ?_, fun _ => Work.recordConditions_exact
      (second.exact (Work.evaluateDark_darkExact one.quiet one.fit one.derived))⟩
    rw [Work.evaluateDark_count one.quiet one.fit one.derived]
    exact first.count

end Sys2Proof.Machine
end

section
/-! SUPPORT. The transitions of the fault table (R130 to R136, R144) while the storage shows no error: each leaves CABINET_DARK
and its ACTIVE record, gives every module its state, and changes nothing outside the Fault Monitor. -/

namespace Sys2Proof.Machine

/-! ## Records replaced -/

theorem Faults.SlotsFit.mem_replace {f : Faults} (h : f.SlotsFit) {q r r' : FaultRecord} (hr : r ∈ f.records)
    (slot : r'.slot = r.slot) : q ∈ (f.replace r').records ↔ (q ∈ f.records ∧ q ≠ r) ∨ q = r' := by
  unfold Faults.replace
  simp only [List.mem_map, slot]
  constructor
  · rintro ⟨a, ha, rfl⟩
    split
    · exact .inr rfl
    · next other => exact .inl ⟨ha, fun e => other (e ▸ rfl)⟩
  · rintro (⟨hq, ne⟩ | rfl)
    · exact ⟨q, hq, if_neg fun e => ne (h.eq_of_slot hq hr e)⟩
    · exact ⟨r, hr, if_pos rfl⟩

theorem Faults.replace_slots {f : Faults} {r' : FaultRecord} :
    (f.replace r').records.map FaultRecord.slot = f.records.map FaultRecord.slot := by
  unfold Faults.replace
  rw [List.map_map]
  refine List.map_congr_left fun q _ => ?_
  simp only [Function.comp_apply]
  split
  · next same => exact same.symm
  · rfl

theorem Faults.slotsFit_iff {f : Faults} :
    f.SlotsFit ↔ (f.records.map FaultRecord.slot).Nodup ∧ ∀ n ∈ f.records.map FaultRecord.slot, n < 64 := by
  unfold Faults.SlotsFit List.Nodup
  rw [List.pairwise_map]
  simp

theorem Faults.full_iff {f : Faults} : f.full ↔ ∀ n, n < 64 → n ∈ f.records.map FaultRecord.slot := by
  simp [Faults.full]

/-- The state of a module depends on the kinds alone of the records that act on it. -/
theorem ModuleDerived.congr_kinds {s t : State} {m : Nat} {x : ModuleStatus} (h : ModuleDerived s m x)
    (policy : ∀ i, t.presentOrDefault .policy i = s.presentOrDefault .policy i)
    (kinds : ∀ p : FaultKind → Prop, (∃ r ∈ t.faults.records, ActsOn r m ∧ p r.kind) ↔
      ∃ r ∈ s.faults.records, ActsOn r m ∧ p r.kind)
    (queue : m ∈ t.faults.restoreQueue ↔ m ∈ s.faults.restoreQueue) : ModuleDerived t m x := by
  have all (p : FaultKind → Prop) : (∀ r ∈ t.faults.records, ActsOn r m → p r.kind) ↔
      ∀ r ∈ s.faults.records, ActsOn r m → p r.kind := by
    have none := not_congr (kinds fun k => ¬ p k)
    push Not at none
    exact none
  have acts (a : Nat) := kinds fun k => s.presentOrDefault .policy (27 + k.code) = a
  have least := kinds fun k => s.presentOrDefault .policy (27 + k.code) = 1 ∧ x.derate = s.presentOrDefault .policy (31 + k.code)
  have most := all fun k => s.presentOrDefault .policy (27 + k.code) = 1 → x.derate ≤ s.presentOrDefault .policy (31 + k.code)
  unfold ModuleDerived at h ⊢
  simp only [policy, acts, least, most, queue]
  exact h

/-! ## The relation -/

/-- What the transitions of an event leave of a work under way. -/
structure Work.Shifts (w w' : Work) : Prop where
  st : w'.st = { w.st with faults := w'.st.faults }
  reports : w.reports <+: w'.reports
  dark : w'.st.faults.flags.cabinetDark = w.st.faults.flags.cabinetDark
  freed : w.freed = true → w'.freed = true
  full : w.st.faults.full → w'.st.faults.full ∨ w'.freed = true
  fit : w'.st.faults.SlotsFit
  derived : AllDerived w'.st
  fresh : ∀ r, Holds w'.st.faults none .cabinetDark r → Holds w.st.faults none .cabinetDark r

/-- The ACTIVE record of CABINET_DARK stays, besides. -/
structure Work.Turns (w w' : Work) : Prop extends Work.Shifts w w' where
  held : ∀ r, Holds w.st.faults none .cabinetDark r → r.state = .active → Holds w'.st.faults none .cabinetDark r

/-- The restore history stays, besides. -/
structure Work.Turned (w w' : Work) : Prop extends Work.Turns w w' where
  history : w'.st.faults.history = w.st.faults.history

theorem Work.Orderly.shifts {w w' : Work} (h : w.Orderly) (t : w.Shifts w') : w'.Orderly :=
  ⟨by rw [t.st]; exact h.quiet, t.fit, t.derived⟩

theorem Work.Orderly.turns {w w' : Work} (h : w.Orderly) (t : w.Turns w') : w'.Orderly := h.shifts t.toShifts

theorem Work.Orderly.refl {w : Work} (h : w.Orderly) : w.Turned w :=
  ⟨⟨⟨rfl, List.prefix_refl _, rfl, id, .inl, h.fit, h.derived, fun _ hr => hr⟩, fun _ hr _ => hr⟩, rfl⟩

theorem Work.Shifts.trans {u v w : Work} (h : u.Shifts v) (k : v.Shifts w) : u.Shifts w where
  st := by rw [k.st, h.st]
  reports := h.reports.trans k.reports
  dark := k.dark.trans h.dark
  freed f := k.freed (h.freed f)
  full f := (h.full f).elim k.full fun freed => .inr (k.freed freed)
  fit := k.fit
  derived := k.derived
  fresh r hr := h.fresh r (k.fresh r hr)

theorem Work.Turned.trans {u v w : Work} (h : u.Turned v) (k : v.Turned w) : u.Turned w where
  toShifts := h.toShifts.trans k.toShifts
  held r hr active := k.held r (h.held r hr active) active
  history := k.history.trans h.history

section

variable {w w' : Work}

/-- A change of the Fault Monitor that leaves its records, its modules and CABINET_DARK. -/
theorem Work.Orderly.same (h : w.Orderly) {f : Faults} (st : w'.st = { w.st with faults := f })
    (reports : w.reports <+: w'.reports) (freed : w'.freed = w.freed) (dark : f.flags.cabinetDark = w.st.faults.flags.cabinetDark)
    (records : f.records = w.st.faults.records) (modules : f.modules = w.st.faults.modules)
    (queue : f.restoreQueue = w.st.faults.restoreQueue) : w.Turns w' := by
  have faults : w'.st.faults = f := by rw [st]
  have holds (r : FaultRecord) : Holds f none .cabinetDark r ↔ Holds w.st.faults none .cabinetDark r := by
    rw [Holds, Holds, records]
  have fit := h.fit
  refine ⟨⟨by rw [st], reports, by rw [faults, dark], fun k => freed.trans k, fun full => .inl ?_, ?_, ?_, ?_⟩, ?_⟩
  · rw [faults, Faults.full, records]
    exact full
  · rw [faults]
    unfold Faults.SlotsFit at fit ⊢
    rwa [records]
  · rw [st]
    exact h.derived.of_same rfl (fun r m => by rw [records]) queue modules
  · rw [faults]
    exact fun r => (holds r).1
  · rw [faults]
    exact fun r hr _ => (holds r).2 hr

/-- A report is handed over. -/
theorem Work.Orderly.sayRecord (h : w.Orderly) (k : ReportKind) (r : FaultRecord) : w.Turned (w.sayRecord k r) :=
  ⟨h.same (f := w.st.faults) rfl (List.prefix_append ..) rfl rfl rfl rfl rfl, rfl⟩

theorem Work.Orderly.setFlap (h : w.Orderly) (m : Nat) (k : FaultKind) (n : Nat) :
    w.Turned (w.setFaults (w.faults.setFlap m k n)) :=
  ⟨h.same rfl (List.prefix_refl _) rfl rfl rfl rfl rfl, rfl⟩

/-- A record leaves the table with whatever stands in its slot, and its module is derived. -/
theorem Work.Orderly.free_shifts (h : w.Orderly) {r : FaultRecord}
    (own : ∀ q ∈ w.st.faults.records, q.slot = r.slot → ∀ m, ActsOn q m → ActsOn r m) :
    w.Shifts (w.free r) ∧ (w.free r).st.faults.history = w.st.faults.history ∧
      ∀ q, q ∈ (w.free r).st.faults.records ↔ q ∈ w.st.faults.records ∧ q.slot ≠ r.slot := by
  have mem (q : FaultRecord) : q ∈ (w.drop r).st.faults.records ↔ q ∈ w.st.faults.records ∧ q.slot ≠ r.slot := by
    simp [Work.drop_faults, Faults.remove]
  have acting {m : Nat} (no : ¬ ActsOn r m) (q : FaultRecord) :
      q ∈ (w.drop r).st.faults.records ∧ ActsOn q m ↔ q ∈ w.st.faults.records ∧ ActsOn q m := by
    rw [mem]
    exact ⟨fun ⟨hq, acts⟩ => ⟨hq.1, acts⟩, fun ⟨hq, acts⟩ => ⟨⟨hq, fun e => no (own q hq e m acts)⟩, acts⟩⟩
  have fit : (w.drop r).st.faults.SlotsFit := h.fit.remove _
  rcases w.free_cases r with ⟨no, free⟩ | ⟨m, scope, free⟩
  · rw [free]
    refine ⟨⟨rfl, List.prefix_refl _, rfl, fun _ => rfl, fun _ => .inr rfl, fit, ?_,
      fun q hq => ⟨((mem q).1 hq.1).1, hq.2⟩⟩, rfl, mem⟩
    exact h.derived.of_same rfl (fun q k => acting (no k) q) rfl rfl
  · have quiet : (w.drop r).st.storage = [] := h.quiet
    have records := State.deriveModule_records quiet m
    obtain ⟨flags, -, -, -, history, -⟩ := State.deriveModule_fields quiet m
    rw [free]
    have left (q : FaultRecord) : q ∈ ((w.drop r).st.deriveModule m).faults.records ↔
        q ∈ w.st.faults.records ∧ q.slot ≠ r.slot := by
      rw [records]
      exact mem q
    refine ⟨⟨State.deriveModule_only quiet m, List.prefix_refl _, congrArg ConditionFlags.cabinetDark flags, fun _ => rfl,
      fun _ => .inr rfl, ?_, ?_, fun q hq => ⟨((left q).1 hq.1).1, hq.2⟩⟩, history, left⟩
    · unfold Faults.SlotsFit at fit ⊢
      rwa [records]
    · refine State.deriveModule_derived quiet fun k x ne hx => (h.derived k x hx).congr (fun _ => rfl) (acting ?_) Iff.rfl
      exact fun acts => ne (by simpa [scope] using acts.1.symm)

/-- A record of the table is freed that is not the ACTIVE one of CABINET_DARK. -/
theorem Work.Orderly.free_mem (h : w.Orderly) {r : FaultRecord} (hr : r ∈ w.st.faults.records)
    (other : ¬ (r.kind = .cabinetDark ∧ r.state = .active)) : w.Turned (w.free r) := by
  have same {q : FaultRecord} (hq : q ∈ w.st.faults.records) (e : q.slot = r.slot) : q = r := h.fit.eq_of_slot hq hr e
  obtain ⟨shifts, history, left⟩ := h.free_shifts fun q hq e m acts => same hq e ▸ acts
  refine ⟨⟨shifts, fun q hq active => ⟨(left q).2 ⟨hq.1, fun e => ?_⟩, hq.2⟩⟩, history⟩
  obtain rfl := same hq.1 e
  exact other ⟨hq.2.2, active⟩

/-- A record of the table is freed with its CLEARED report. -/
theorem Work.Orderly.clearRecord (h : w.Orderly) {r : FaultRecord} (hr : r ∈ w.st.faults.records)
    (other : ¬ (r.kind = .cabinetDark ∧ r.state = .active)) : w.Turned ((w.sayRecord .cleared r).free r) := by
  have said := h.sayRecord .cleared r
  exact said.trans ((h.turns said.toTurns).free_mem hr other)

theorem Work.Orderly.makeRoom (h : w.Orderly) : w.Turned w.makeRoom := by
  unfold Work.makeRoom
  split
  · exact h.refl
  · split
    · next r found =>
      have clearing : r.state = .clearing := by simpa using List.find?_some found
      exact h.clearRecord (List.mem_of_find?_eq_some found) (by simp [clearing])
    · split
      · next r found =>
        have suspect : r.state = .suspect := by simpa using List.find?_some found
        exact h.free_mem (List.mem_of_find?_eq_some found) (by simp [suspect])
      · exact ⟨h.same rfl (List.prefix_refl _) rfl rfl rfl rfl rfl, rfl⟩

/-- A record that acts on no module yet is placed. -/
theorem Work.Orderly.place (h : w.Orderly) {r : FaultRecord} (idle : ∀ m, ¬ ActsOn r m) (other : r.kind ≠ .cabinetDark) :
    w.Turned (w.place r).2 := by
  unfold Work.place
  split
  · next n found =>
    have free := Faults.freeSlot_some found
    refine ⟨⟨⟨rfl, List.prefix_refl _, rfl, id, fun full => absurd full free.not_full, h.fit.place free r,
      h.derived.of_same rfl (fun q m => ?_) rfl rfl, fun q hq => ?_⟩,
      fun q hq _ => ⟨List.mem_append_left _ hq.1, hq.2⟩⟩, rfl⟩
    · simp only [Work.setFaults, Work.faults, List.mem_append, List.mem_singleton, or_and_right]
      refine or_iff_left ?_
      rintro ⟨rfl, acts⟩
      exact idle m acts
    · rcases List.mem_append.1 hq.1 with old | new
      · exact ⟨old, hq.2⟩
      · obtain rfl := List.mem_singleton.1 new
        exact absurd hq.2.2 other
  · exact h.refl

theorem Work.Orderly.create (h : w.Orderly) {r : FaultRecord} (idle : ∀ m, ¬ ActsOn r m) (other : r.kind ≠ .cabinetDark) :
    w.Turned (w.create r).2 :=
  h.makeRoom.trans ((h.turns h.makeRoom.toTurns).place idle other)

/-- A record that has been created stands in the table, in the slot given to it. -/
theorem Work.create_some {r q : FaultRecord} (h : (w.create r).1 = some q) :
    q ∈ (w.create r).2.st.faults.records ∧ ∃ n, q = { r with slot := n } := by
  unfold Work.create Work.place at h ⊢
  split at h
  · obtain rfl := Option.some.inj h
    exact ⟨List.mem_append_right _ (List.mem_singleton.2 rfl), _, rfl⟩
  · cases h

/-- What a replacement by a record of the same slot, scope and kind leaves, but for the module that it acts on. -/
theorem Work.Orderly.replace_rest (h : w.Orderly) {r r' : FaultRecord} (hr : r ∈ w.st.faults.records)
    (slot : r'.slot = r.slot) (kind : r'.kind = r.kind) {m : Nat} (acts : ActsOn r' m ↔ ActsOn r m) {x : ModuleStatus}
    (hx : w.st.faults.modules[m]? = some x) : ModuleDerived (w.setFaults (w.faults.replace r')).st m x := by
  refine (h.derived m x hx).congr_kinds (fun _ => rfl) (fun p => ?_) Iff.rfl
  constructor
  · rintro ⟨q, hq, actsQ, pq⟩
    rcases (h.fit.mem_replace hr slot).1 hq with ⟨old, -⟩ | rfl
    · exact ⟨q, old, actsQ, pq⟩
    · exact ⟨r, hr, acts.1 actsQ, kind ▸ pq⟩
  · rintro ⟨q, hq, actsQ, pq⟩
    by_cases e : q = r
    · exact ⟨r', (h.fit.mem_replace hr slot).2 (.inr rfl), acts.2 (e ▸ actsQ), by rw [kind, ← e]; exact pq⟩
    · exact ⟨q, (h.fit.mem_replace hr slot).2 (.inl ⟨hq, e⟩), actsQ, pq⟩

theorem Work.Orderly.replace_fit (h : w.Orderly) (r' : FaultRecord) : (w.faults.replace r').SlotsFit := by
  rw [Faults.slotsFit_iff, Faults.replace_slots, ← Faults.slotsFit_iff]
  exact h.fit

/-- CABINET_DARK's record stays where a record of another kind is replaced. -/
theorem Work.Orderly.holds_replace (h : w.Orderly) {r r' : FaultRecord} (hr : r ∈ w.st.faults.records)
    (slot : r'.slot = r.slot) (kind : r'.kind = r.kind) (other : r.kind ≠ .cabinetDark) (q : FaultRecord) :
    Holds (w.faults.replace r') none .cabinetDark q ↔ Holds w.st.faults none .cabinetDark q := by
  unfold Holds
  rw [show q ∈ (w.faults.replace r').records ↔ _ from h.fit.mem_replace hr slot]
  constructor
  · rintro ⟨⟨hq, -⟩ | rfl, pair⟩
    · exact ⟨hq, pair⟩
    · exact absurd (kind ▸ pair.2) other
  · rintro ⟨hq, pair⟩
    exact ⟨.inl ⟨hq, fun e => other (e ▸ pair.2)⟩, pair⟩

/-- A record is replaced by one that acts on the same module, or is of the cabinet. -/
theorem Work.Orderly.replace (h : w.Orderly) {r r' : FaultRecord} (hr : r ∈ w.st.faults.records) (slot : r'.slot = r.slot)
    (scope : r'.scope = r.scope) (kind : r'.kind = r.kind) (other : r.kind ≠ .cabinetDark)
    (acts : r'.state.acts = r.state.acts ∨ r.scope = none) : w.Turned (w.setFaults (w.faults.replace r')) := by
  have holds := h.holds_replace hr slot kind other
  have same (m : Nat) : ActsOn r' m ↔ ActsOn r m := by
    unfold ActsOn
    rw [scope, ← RecordState.acts_iff, ← RecordState.acts_iff]
    rcases acts with acts | none
    · rw [acts]
    · simp [none]
  refine ⟨⟨⟨rfl, List.prefix_refl _, rfl, id, fun full => .inl ?_, h.replace_fit r',
    fun m x hx => h.replace_rest hr slot kind (same m) hx, fun q => (holds q).1⟩, fun q hq _ => (holds q).2 hq⟩, rfl⟩
  rw [Faults.full_iff] at full ⊢
  show ∀ n, n < 64 → n ∈ (w.faults.replace r').records.map FaultRecord.slot
  rw [Faults.replace_slots]
  exact full

/-- A record of a module is replaced by any of its own, and its module is derived. -/
theorem Work.Orderly.replace_derive (h : w.Orderly) {r r' : FaultRecord} (hr : r ∈ w.st.faults.records)
    (slot : r'.slot = r.slot) (scope : r'.scope = r.scope) (kind : r'.kind = r.kind) (other : r.kind ≠ .cabinetDark) {m : Nat}
    (own : r.scope = some m) (k : ReportKind) :
    w.Turned (((w.setFaults (w.faults.replace r')).sayRecord k r).deriveScope r.scope) := by
  have holds := h.holds_replace hr slot kind other
  let v := w.setFaults (w.faults.replace r')
  have quiet : v.st.storage = [] := h.quiet
  have records := State.deriveModule_records quiet m
  obtain ⟨flags, -, -, -, history, -⟩ := State.deriveModule_fields quiet m
  have fit := h.replace_fit r'
  rw [own]
  refine ⟨⟨⟨State.deriveModule_only quiet m, List.prefix_append .., congrArg ConditionFlags.cabinetDark flags, id,
    fun full => .inl ?_, ?_, ?_, fun q hq => (holds q).1 ⟨?_, hq.2⟩⟩, fun q hq _ => ⟨?_, hq.2⟩⟩, history⟩
  · show (v.st.deriveModule m).faults.full
    rw [Faults.full_iff] at full ⊢
    rw [records]
    show ∀ n, n < 64 → n ∈ (w.faults.replace r').records.map FaultRecord.slot
    rw [Faults.replace_slots]
    exact full
  · show (v.st.deriveModule m).faults.SlotsFit
    unfold Faults.SlotsFit at fit ⊢
    rwa [records]
  · refine State.deriveModule_derived quiet fun i x ne hx => h.replace_rest hr slot kind ?_ hx
    refine iff_of_false (fun acts => ne ?_) fun acts => ne ?_
    · simpa [scope, own] using acts.1.symm
    · simpa [own] using acts.1.symm
  · have hq' : q ∈ (v.st.deriveModule m).faults.records := hq.1
    rwa [records] at hq'
  · show q ∈ (v.st.deriveModule m).faults.records
    rw [records]
    exact ((holds q).2 hq).1

end

end Sys2Proof.Machine
end

section
/-! SUPPORT. The transitions that evaluations, conditions, TABLE_ECC and FAULT-CLEAR bring, as transitions of the fault
table. -/

namespace Sys2Proof.Machine

section

variable {w : Work}

/-! ## Evaluations (R130 to R132) -/

theorem FaultKind.other_of_debounced {k : FaultKind} (h : k.debounced = true) : k ≠ .cabinetDark := by
  rintro rfl
  cases h

theorem Work.readConfirm_quiet (quiet : w.st.storage = []) (k : FaultKind) :
    w.readConfirm k = (w.st.confirmCount k, w) := by
  unfold Work.readConfirm
  rw [State.readOrDefault_quiet quiet]
  rfl

theorem Work.readRelease_quiet (quiet : w.st.storage = []) (k : FaultKind) :
    w.readRelease k = (w.st.releaseCount k, w) := by
  unfold Work.readRelease
  rw [State.readOrDefault_quiet quiet]
  rfl

/-- A record that enters ACTIVE or LATCHED acts on its module from then on. -/
theorem Work.Orderly.enterActive (h : w.Orderly) {r : FaultRecord} (hr : r ∈ w.st.faults.records)
    (other : r.kind ≠ .cabinetDark) : w.Turned (w.enterActive r) := by
  unfold Work.enterActive
  split
  · next own =>
    have replaced := h.replace hr (r' := { r with state := .active }) rfl rfl rfl other (.inr own)
    exact replaced.trans ((h.turns replaced.toTurns).sayRecord .raised r)
  · next m own =>
    have counted := h.setFlap m r.kind (min flapLatch (w.faults.flap m r.kind + 1))
    have orderly := h.turns counted.toTurns
    have entered (x : RecordState) (k : ReportKind) :=
      orderly.replace_derive hr (r' := { r with state := x }) rfl rfl rfl other own k
    dsimp only
    split
    · exact counted.trans (entered .latched .latched)
    · exact counted.trans (entered .active .raised)

/-- An evaluation that does not detect the fault of an acting record. -/
theorem Work.Orderly.miss (h : w.Orderly) {r : FaultRecord} (hr : r ∈ w.st.faults.records) (other : r.kind ≠ .cabinetDark)
    (acts : r.state.acts = true) (n : Nat) : w.Turned (w.miss r n) := by
  unfold Work.miss
  rw [Work.readRelease_quiet h.quiet]
  dsimp only
  split
  · exact h.clearRecord hr fun dark => other dark.1
  · exact h.replace hr (r' := { r with state := .clearing, misses := n }) rfl rfl rfl other (.inl acts.symm)

/-- A detection of a pair without a record. -/
theorem Work.Orderly.firstDetection (h : w.Orderly) {e : Evaluation} (other : e.kind ≠ .cabinetDark) (n : Nat) :
    w.Turned (match (w.create (newRecord e w.st.stamp)).1 with
      | some r => if n ≤ 1 then (w.create (newRecord e w.st.stamp)).2.enterActive r else (w.create (newRecord e w.st.stamp)).2
      | none => (w.create (newRecord e w.st.stamp)).2) := by
  have created : w.Turned (w.create (newRecord e w.st.stamp)).2 := h.create (fun m acts => acts.2 rfl) other
  split
  · next r found =>
    obtain ⟨mem, slot, rfl⟩ := Work.create_some found
    split
    · exact created.trans ((h.turns created.toTurns).enterActive mem other)
    · exact created
  · exact created

theorem Work.Orderly.debounce (h : w.Orderly) {e : Evaluation} (debounced : e.kind.debounced = true) :
    w.Turned (w.debounce e) := by
  have other := FaultKind.other_of_debounced debounced
  unfold Work.debounce
  dsimp only
  split
  · split
    · rw [Work.readConfirm_quiet h.quiet]
      exact h.firstDetection other _
    · exact h.refl
  · next r found =>
    obtain ⟨hr, scope, kind⟩ := Faults.recordOf_some found
    have own : r.kind ≠ .cabinetDark := kind ▸ other
    have replaced {r' : FaultRecord} (slot : r'.slot = r.slot) (scope : r'.scope = r.scope) (kind : r'.kind = r.kind)
        (acts : r'.state.acts = r.state.acts) := h.replace hr slot scope kind own (.inl acts)
    split
    · next suspect _ =>
      have hit := replaced (r' := r.detect w.st.stamp e.detail) rfl rfl rfl rfl
      have mem : r.detect w.st.stamp e.detail ∈ (w.setFaults (w.faults.replace (r.detect w.st.stamp e.detail))).st.faults.records :=
        (h.fit.mem_replace (r' := r.detect w.st.stamp e.detail) hr rfl).2 (.inr rfl)
      rw [Work.readConfirm_quiet h.quiet]
      dsimp only
      split
      · exact hit.trans ((h.turns hit.toTurns).enterActive mem own)
      · exact hit
    · exact h.free_mem hr fun dark => own dark.1
    · exact replaced (r' := r.detect w.st.stamp e.detail) rfl rfl rfl rfl
    · next active _ => exact h.miss hr own (by rw [active]; rfl) 1
    · next clearing _ =>
      exact replaced (r' := { r.detect w.st.stamp e.detail with state := .active, misses := 0 }) rfl rfl rfl
        (by rw [clearing]; rfl)
    · next clearing _ => exact h.miss hr own (by rw [clearing]; rfl) _
    · exact h.refl

/-! ## Conditions (R133, R134) -/

theorem Work.Orderly.raise (h : w.Orderly) {k : FaultKind} (other : k ≠ .cabinetDark) (d : Detail) :
    w.Turned (w.raise k d) := by
  have created : w.Turned (w.create (Sys2Proof.Machine.conditionRecord k d w.st.stamp)).2 :=
    h.create (fun m acts => by cases acts.1) other
  unfold Work.raise
  dsimp only
  split
  · exact created.trans ((h.turns created.toTurns).sayRecord .raised _)
  · exact created

theorem Work.Orderly.clear (h : w.Orderly) {k : FaultKind} (other : k ≠ .cabinetDark) : w.Turned (w.clear k) := by
  unfold Work.clear
  split
  · next r found =>
    obtain ⟨hr, -, kind⟩ := Faults.recordOf_some found
    exact h.clearRecord hr fun dark => other (kind ▸ dark.1)
  · exact h.refl

/-- A record of a condition is replaced in its state. -/
theorem Work.Orderly.replace_condition (h : w.Orderly) {k : FaultKind} (other : k ≠ .cabinetDark) {r r' : FaultRecord}
    (found : w.faults.conditionRecord k = some r) (slot : r'.slot = r.slot) (scope : r'.scope = r.scope)
    (kind : r'.kind = r.kind) : w.Turned (w.setFaults (w.faults.replace r')) := by
  obtain ⟨hr, none, own⟩ := Faults.recordOf_some found
  exact h.replace hr slot scope kind (own ▸ other) (.inr none)

theorem Work.Orderly.refresh (h : w.Orderly) {k : FaultKind} (other : k ≠ .cabinetDark) : w.Turned (w.refresh k) := by
  unfold Work.refresh
  split
  · next r found => exact h.replace_condition other found (r' := r.detect w.st.stamp r.detail) rfl rfl rfl
  · exact h.refl

theorem Condition.kind_other {x : Condition} (h : x ≠ .cabinetDark) : x.kind ≠ .cabinetDark := by
  cases x <;> simp [Condition.kind] at h ⊢

/-- CABINET_DARK alone acts at the Dimming Controller. -/
theorem Work.tellDimming_other {x : Condition} (other : x ≠ .cabinetDark) (w : Work) (b : Bool) : w.tellDimming x b = w := by
  cases x with
  | cabinetDark => exact absurd rfl other
  | _ => rfl

/-- The flag of a condition other than CABINET_DARK is set or cleared. -/
theorem Work.Orderly.flag (h : w.Orderly) {x : Condition} (other : x ≠ .cabinetDark) (b : Bool) :
    w.Turned ((w.setFlag x b).tellDimming x b) := by
  have dark : (w.faults.flags.set x b).cabinetDark = w.st.faults.flags.cabinetDark := by
    cases x with
    | cabinetDark => exact absurd rfl other
    | _ => rfl
  rw [Work.tellDimming_other other]
  exact ⟨h.same rfl (List.prefix_refl _) rfl dark rfl rfl rfl, rfl⟩

theorem Work.Orderly.condition (h : w.Orderly) {x : Condition} (other : x ≠ .cabinetDark) (present : Bool) :
    w.Turned (w.condition x present) := by
  have own := Condition.kind_other other
  have flagged (b : Bool) := h.flag other b
  unfold Work.condition
  split
  · exact (flagged true).trans ((h.turns (flagged true).toTurns).raise own .absent)
  · exact h.refresh own
  · exact (flagged false).trans ((h.turns (flagged false).toTurns).clear own)
  · exact h.refl

theorem Work.Orderly.setAffected (h : w.Orderly) (ts : List Table) :
    w.Turned (w.setFaults { w.faults with affected := ts }) := ⟨h.same rfl (List.prefix_refl _) rfl rfl rfl rfl rfl, rfl⟩

theorem Work.Orderly.setEccDetail (h : w.Orderly) (t : Table) : w.Turned (w.setEccDetail t) := by
  unfold Work.setEccDetail
  split
  · next r found => exact h.replace_condition (by decide) found (r' := { r with detail := .table t }) rfl rfl rfl
  · exact h.refl

theorem Work.Orderly.eccNew (h : w.Orderly) (t : Table) : w.Turned (w.eccNew t) := by
  have added := h.setAffected (affectedWith w.faults.affected t)
  have orderly := h.turns added.toTurns
  unfold Work.eccNew
  dsimp only
  split
  · next r found =>
    have replaced := orderly.replace_condition (by decide) found (r' := r.detect w.st.stamp (.table t)) rfl rfl rfl
    exact added.trans (replaced.trans ((orderly.turns replaced.toTurns).sayRecord .raised _))
  · exact added.trans (orderly.raise (by decide) _)

theorem Work.Orderly.eccEnd (h : w.Orderly) (t : Table) : w.Turned (w.eccEnd t) := by
  have left := h.setAffected (w.faults.affected.filter (· != t))
  have orderly := h.turns left.toTurns
  have named (x : Table) := orderly.setEccDetail x
  unfold Work.eccEnd
  dsimp only
  split
  · exact left.trans ((named t).trans ((orderly.turns (named t).toTurns).clear (by decide)))
  · exact left.trans (named _)

theorem Work.Orderly.tableEcc (h : w.Orderly) (t : Table) (present : Bool) : w.Turned (w.tableEcc t present) := by
  unfold Work.tableEcc
  split
  · split
    · exact h.refl
    · split
      · exact h.refresh (by decide)
      · exact h.eccNew t
  · split
    · exact h.eccEnd t
    · exact h.refl

end

end Sys2Proof.Machine
end

section
/-! SUPPORT. Changes of the fault table carried through whole (R124, R137, R142): what they leave at the Dimming Controller,
that CABINET_DARK follows the blanked count, and what becomes of its record. -/

namespace Sys2Proof.Machine

/-! ## The Dimming Controller -/

/-- What the changes of an event leave outside the Fault Monitor, and what they tell the Dimming Controller. -/
structure Work.Tells (w w' : Work) : Prop where
  only : OnlyFaults w.st w'.st
  reports : w.reports <+: w'.reports
  handed : ∃ n, w'.st.handed = w.st.handed ++ List.replicate n .lZeroNotice ∧
    (w'.st.dimming.level = w.st.dimming.level ∨ (w'.st.dimming.level = 0 ∧ (w.st.dimming.level ≠ 0 → 0 < n)))
  dimming : w'.st.dimming = { w.st.dimming with
    level := w'.st.dimming.level, target := w'.st.dimming.target
    mode := w'.st.dimming.mode, source := w'.st.dimming.source }
  started : w.st.faults.flags.cabinetDark = false → w'.st.faults.flags.cabinetDark = true → w'.st.dimming.level = 0
  told : (w'.st.dimming = w.st.dimming ∧ w'.st.faults.flags.cabinetDark = w.st.faults.flags.cabinetDark) ∨ w'.st.Aimed

theorem Work.Moves.tells {w w' : Work} (h : w.Moves w') : w.Tells w' :=
  ⟨h.only, h.reports, h.handed, h.dimming, h.started, h.told⟩

theorem Work.Shifts.dimming {w w' : Work} (h : w.Shifts w') : w'.st.dimming = w.st.dimming := by rw [h.st]

theorem Work.Shifts.handed {w w' : Work} (h : w.Shifts w') : w'.st.handed = w.st.handed := by rw [h.st]

theorem Work.Shifts.tells {w w' : Work} (h : w.Shifts w') : w.Tells w' where
  only := by
    unfold OnlyFaults
    rw [h.dimming, h.handed]
    exact h.st
  reports := h.reports
  handed := ⟨0, by simp [h.handed], .inl (by rw [h.dimming])⟩
  dimming := by rw [h.dimming]
  started off on := by
    rw [h.dark, off] at on
    cases on
  told := .inl ⟨h.dimming, h.dark⟩

theorem Work.Tells.trans {u v w : Work} (h : u.Tells v) (k : v.Tells w) : u.Tells w where
  only := h.only.trans k.only
  reports := h.reports.trans k.reports
  handed := by
    obtain ⟨n, given, before⟩ := h.handed
    obtain ⟨m, more, after⟩ := k.handed
    refine ⟨n + m, by rw [more, given, List.append_assoc, List.replicate_append_replicate], ?_⟩
    omega
  dimming := by rw [k.dimming, h.dimming]
  started off on := by
    obtain ⟨_, -, level⟩ := k.handed
    cases dark : v.st.faults.flags.cabinetDark with
    | false => exact k.started dark on
    | true =>
      have zero := h.started off dark
      omega
  told := by
    rcases k.told with ⟨dimming, dark⟩ | aimed
    · rcases h.told with ⟨dimming', dark'⟩ | aimed
      · exact .inl ⟨dimming.trans dimming', dark.trans dark'⟩
      · exact .inr (aimed.of_same k.only dimming dark)
    · exact .inr aimed

/-- A state that is another to the Dimming Controller, with as many notices handed over, whatever else is. -/
structure DimmingAlike (s t : State) : Prop where
  tables : t.tables = s.tables
  stream : t.stream = s.stream
  dimming : t.dimming = s.dimming
  dark : t.faults.flags.cabinetDark = s.faults.flags.cabinetDark
  notices : t.handed.count .lZeroNotice = s.handed.count .lZeroNotice

/-- Where an event changes CABINET_DARK, the Dimming Controller is as a recomputation leaves it, but for L. -/
theorem Work.Tells.darkTold {u w : Work} (h : u.Tells w) {s t : State} (begins : DimmingAlike s u.st)
    (ends : DimmingAlike w.st t) (quiet : s.storage = []) (valid : validate .ambient (s.table .ambient).active = none) :
    DarkTold s t := by
  obtain ⟨n, handed, level⟩ := h.handed
  have shape := h.dimming
  rw [begins.dimming] at level shape
  intro change
  rw [ends.dark] at change
  refine ⟨?_, fun _ => ?_, fun on => ?_⟩
  · have aimed : w.st.Aimed := h.told.resolve_left fun same => change (same.2.trans begins.dark)
    refine ⟨_, State.recompute_recomputed (s := { s with faults := t.faults }) quiet valid, ?_⟩
    have aim : State.aim { s with faults := t.faults } = w.st.aim :=
      State.aim_congr (begins.tables.symm.trans h.only.tables.symm) (begins.stream.symm.trans h.only.stream.symm) ends.dark
        (by rw [shape]) (by rw [shape]) (by rw [shape]) (by rw [shape])
    rw [State.recompute_quiet (s := { s with faults := t.faults }) quiet, aim, ← aimed, ends.dimming]
    simp only [State.setAim]
    rw [shape]
  · rw [ends.dimming]
    exact level.imp_right And.left
  · rw [ends.dark] at on
    have off : u.st.faults.flags.cabinetDark = false := by
      rw [begins.dark]
      exact Bool.eq_false_iff.2 fun same => change (on.trans same.symm)
    have zero := h.started off on
    refine ⟨by rw [ends.dimming, zero], fun lit => ?_⟩
    have notices : 0 < n := by
      rcases level with same | ⟨-, given⟩
      · exact absurd (same.symm.trans zero) lit
      · exact given lit
    rw [ends.notices, handed, ← begins.notices, List.count_append, List.count_replicate_self]
    omega

/-! ## The record of CABINET_DARK -/

/-- What the changes of an event leave of the record of CABINET_DARK. -/
structure Work.Darks (w w' : Work) : Prop where
  sound : w.DarkSound → w'.DarkSound
  seen : w.DarkSound → w.DarkSeen → w'.DarkSeen
  reports : w.reports <+: w'.reports
  cleared : w.DarkSound → ∀ r, Holds w.st.faults none .cabinetDark r → r.state = .active →
    Holds w'.st.faults none .cabinetDark r ∨ ⟨.cleared, some .cabinetDark, none, r.detail⟩ ∈ w'.reports

theorem Work.Darkens.darks {w w' : Work} (h : w.Darkens w') : w.Darks w' :=
  ⟨h.sound, h.seen, h.reports, fun sound r hr _ => h.cleared sound r hr⟩

theorem Work.Darks.trans {u v w : Work} (h : u.Darks v) (k : v.Darks w) : u.Darks w where
  sound s := k.sound (h.sound s)
  seen s d := k.seen (h.sound s) (h.seen s d)
  reports := h.reports.trans k.reports
  cleared s r hr active := by
    rcases h.cleared s r hr active with held | told
    · exact k.cleared (h.sound s) r held active
    · exact .inr (k.reports.mem told)

theorem Work.Shifts.sound {w w' : Work} (h : w.Shifts w') (sound : w.DarkSound) : w'.DarkSound :=
  ⟨h.fit, fun off q hq pair => sound.off (h.dark ▸ off) q (h.fresh q ⟨hq, pair⟩).1 pair,
    fun q r hq hr => sound.unique q r (h.fresh q hq) (h.fresh r hr)⟩

theorem Work.Turns.darks {w w' : Work} (h : w.Turns w') : w.Darks w' where
  sound := h.sound
  seen _ seen on := by
    rcases seen (h.dark ▸ on) with ⟨⟨r, hr, active⟩, raised⟩ | ⟨none, room⟩
    · exact .inl ⟨⟨r, h.held r hr active, active⟩, h.reports.mem raised⟩
    · refine .inr ⟨fun q hq pair => none q (h.fresh q ⟨hq, pair⟩).1 pair, ?_⟩
      rcases room with freed | full
      · exact .inl (h.freed freed)
      · exact (h.full full).symm
  reports := h.reports
  cleared _ r hr active := .inl (h.held r hr active)

/-- The record of CABINET_DARK after an event that ends with the recording of conditions. -/
theorem Work.Darks.darkRecorded {s : State} {w : Work} (darks : (Work.begun s).Darks w)
    (given : w.reports ≠ [] → ReportsGiven s w.reports w.closed) (done : w.freed = false)
    (sound : (Work.begun s).DarkSound) : DarkRecorded s w.closed := by
  refine ⟨fun off on => ?_, fun _ off => ⟨(darks.sound sound).off off, fun r hr active => ?_⟩⟩
  · have unseen : (Work.begun s).DarkSeen := fun on => by
      rw [show s.faults.flags.cabinetDark = true from on] at off
      cases off
    rcases darks.seen sound unseen on with ⟨record, raised⟩ | ⟨-, room⟩
    · exact .inr ⟨record, _, given (List.ne_nil_of_mem raised), raised⟩
    · exact .inl (room.resolve_left fun freed => by rw [done] at freed; cases freed)
  · rcases darks.cleared sound r hr active with held | told
    · exact absurd held.2 ((darks.sound sound).off off r held.1)
    · exact ⟨_, given (List.ne_nil_of_mem told), told⟩

/-- The notices and the reports of an event are handed over at its end. -/
theorem Work.Tells.reportsGiven {w w' : Work} (h : w.Tells w') (some : w'.reports ≠ []) :
    ReportsGiven w.st w'.reports w'.closed := by
  obtain ⟨n, handed, -⟩ := h.handed
  refine ⟨List.replicate n .lZeroNotice, fun c hc => (List.mem_replicate.1 hc).2, ?_⟩
  simp [Work.closed, State.reported, handed, some]

/-! ## A change carried through whole -/

/-- What changes that are each carried through whole leave of a work under way. -/
structure Work.Carries (w w' : Work) : Prop where
  orderly : w'.Orderly
  tells : w.Tells w'
  exact : w.st.DarkExact → w'.st.DarkExact
  done : w.freed = false → w'.freed = false

theorem Work.Orderly.stays {w : Work} (h : w.Orderly) : w.Carries w := ⟨h, (Work.Moves.refl w).tells, id, id⟩

theorem Work.Carries.trans {u v w : Work} (h : u.Carries v) (k : v.Carries w) : u.Carries w :=
  ⟨k.orderly, h.tells.trans k.tells, fun e => k.exact (h.exact e), fun d => k.done (h.done d)⟩

section

variable {w : Work} {f : Work → Work}

/-- The end of an event, from the transitions on. -/
theorem Work.settle_follows (w : Work) (before : Nat) : w.Follows (w.settle before) := .settle .refl before

theorem Work.Orderly.settled (h : w.Orderly) (before : Nat) : w.Moves (w.settle before) :=
  (w.settle_follows before).moves h.quiet

theorem Work.Orderly.carry (h : w.Orderly) (shifts : w.Shifts (f w)) : w.Carries (w.carry f) := by
  have shifted := h.shifts shifts
  have settled := shifted.settled w.faults.blankedCount
  refine ⟨shifted.moves settled, shifts.tells.trans settled.tells, fun exact => ?_, fun _ => Work.settle_freed _ _⟩
  refine (shifted.settle w.faults.blankedCount).2 fun same => ?_
  have only : OnlyFaults w.st (f w).st := shifts.tells.only
  unfold State.DarkExact at exact ⊢
  rw [shifts.dark, only.darkAt, exact, show w.st.faults.blankedCount = w.faults.blankedCount from rfl, same]

theorem Work.Orderly.carry_darks (h : w.Orderly) (turns : w.Turns (f w)) : w.Darks (w.carry f) :=
  turns.darks.trans ((Work.settle_follows _ _).darkens (h.turns turns).quiet).darks

/-- Where CABINET_DARK stands as before and no module is admitted, one change leaves the Dimming Controller. -/
theorem Work.Orderly.carry_dimming (h : w.Orderly) (turned : w.Turned (f w))
    (dark : (w.carry f).st.faults.flags.cabinetDark = w.st.faults.flags.cabinetDark)
    (history : (w.carry f).st.faults.history = w.st.faults.history) : (w.carry f).st.dimming = w.st.dimming :=
  (Work.settle_dimming (h.turns turned.toTurns).quiet (dark.trans turned.dark.symm)
    (history.trans turned.history.symm)).trans turned.dimming

end

end Sys2Proof.Machine
end

section
/-! SUPPORT. The events of the Fault Monitor that blocks hand over, and the restore window: CABINET_DARK after each (R70, R76,
R124, R140, R142). -/

namespace Sys2Proof.Machine

/-- The premises on the state that an event finds: each module has its state, and CABINET_DARK and its record follow the
blanked count. -/
structure State.Ready (s : State) : Prop where
  quiet : s.storage = []
  wf : s.faults.tableWf
  exact : s.DarkExact
  unrecorded : s.faults.flags.cabinetDark = false → HoldsNone s.faults none .cabinetDark
  derived : AllDerived s

theorem State.Ready.orderly {s : State} (h : s.Ready) : (Work.begun s).Orderly := ⟨h.quiet, .of_tableWf h.wf, h.derived⟩

theorem State.Ready.sound {s : State} (h : s.Ready) : (Work.begun s).DarkSound := .begun h.wf h.unrecorded

/-- What an event that begins in a state comes to; `one` says that it is at most one change of the fault table. -/
structure Work.Concludes (s : State) (w : Work) (one : Prop) : Prop where
  tells : (Work.begun s).Tells w
  exact : w.st.DarkExact
  recorded : DarkRecorded s w.closed
  kept : one → DimmingKept s w.closed

/-- What is to be shown of an event: `s` is the state that finds it, `v` that state with the command taken, `t` the state after it. -/
def EventShown (s v t : State) (one : Prop) : Prop :=
  t.faults.flags.cabinetDark = decide (s.darkAt ≤ t.blankedNow) ∧ DarkTold s t ∧ DarkRecorded v t ∧
    OnlyFaults { v with link := t.link, out := t.out } t ∧ (one → DimmingKept s t)

theorem Work.closed_notices (w : Work) : w.closed.handed.count .lZeroNotice = w.st.handed.count .lZeroNotice := by
  unfold Work.closed State.reported
  split <;> simp

/-- An event found by a state, whose command has been taken, and around which frames may have gone out. -/
theorem Work.Concludes.shown {s : State} {hs : List Instr} {l₁ l₂ : Link} {o₁ o₂ : List Output} {w : Work} {one : Prop}
    (h : w.Concludes { s with handed := hs, link := l₁, out := o₁ } one) (quiet : s.storage = [])
    (valid : validate .ambient (s.table .ambient).active = none)
    (notices : hs.count .lZeroNotice = s.handed.count .lZeroNotice) :
    EventShown s { s with handed := hs } { w.closed with link := l₂, out := o₂ } one := by
  refine ⟨?_, ?_, h.recorded, ?_, h.kept⟩
  · have exact := h.exact
    unfold State.DarkExact at exact
    rw [h.tells.only.darkAt] at exact
    rw [State.blankedNow_eq]
    exact exact
  · exact h.tells.darkTold ⟨rfl, rfl, rfl, rfl, notices⟩ ⟨rfl, rfl, rfl, rfl, w.closed_notices⟩ quiet valid
  · have only := Work.closed_only h.tells.only
    unfold OnlyFaults at only ⊢
    rw [only]
    rfl

/-! ## Changes carried through whole -/

theorem Work.Carries.concludes {s : State} {w : Work} {one : Prop} (carries : (Work.begun s).Carries w)
    (darks : (Work.begun s).Darks w) (ready : s.Ready) (kept : one → DimmingKept s w.closed) : w.Concludes s one :=
  ⟨carries.tells, carries.exact ready.exact,
    darks.darkRecorded (carries.tells.reportsGiven) (carries.done rfl) ready.sound, kept⟩

/-- An event that is one transition. -/
theorem State.Ready.carried {s : State} {f : Work → Work} (ready : s.Ready) (turned : (Work.begun s).Turned (f (Work.begun s)))
    (one : Prop) : ((Work.begun s).carry f).Concludes s one :=
  (ready.orderly.carry turned.toShifts).concludes (ready.orderly.carry_darks turned.toTurns) ready
    fun _ dark history => ready.orderly.carry_dimming turned dark history

/-- An evaluation is discarded, or carried through whole (R124). -/
theorem Work.evaluation_cases (w : Work) (e : Evaluation) :
    w.evaluation e = w ∨ w.evaluation e = w.carry fun w => w.debounce e := by
  unfold Work.evaluation
  split
  · split
    · exact .inr rfl
    · exact .inl rfl
  · exact .inr rfl

/-- Evaluations, each carried through whole (R124). -/
theorem Work.Orderly.evaluations {es : List Evaluation} : ∀ {w : Work}, w.Orderly →
    (∀ e ∈ es, e.kind.debounced = true) → w.Carries (es.foldl Work.evaluation w) ∧ w.Darks (es.foldl Work.evaluation w) := by
  induction es with
  | nil => exact fun {w} h _ => ⟨h.stays, (Work.Darkens.refl w).darks⟩
  | cons e es ih =>
    intro w h debounced
    have own := debounced e (by simp)
    have turned := h.debounce own
    have first : w.Carries (w.evaluation e) ∧ w.Darks (w.evaluation e) := by
      rcases w.evaluation_cases e with same | carried
      · rw [same]
        exact ⟨h.stays, (Work.Darkens.refl w).darks⟩
      · rw [carried]
        exact ⟨h.carry turned.toShifts, h.carry_darks turned.toTurns⟩
    obtain ⟨carries, darks⟩ := ih first.1.orderly fun e' he => debounced e' (by simp [he])
    exact ⟨first.1.trans carries, first.2.trans darks⟩

theorem State.Ready.evaluated {s : State} (ready : s.Ready) {es : List Evaluation} (debounced : ∀ e ∈ es, e.kind.debounced = true) :
    (es.foldl Work.evaluation (Work.begun s)).Concludes s (∀ e e' rest, es ≠ e :: e' :: rest) := by
  obtain ⟨carries, darks⟩ := ready.orderly.evaluations debounced
  refine carries.concludes darks ready fun one => ?_
  match es with
  | [] => exact fun _ _ => rfl
  | [e] =>
    rcases (Work.begun s).evaluation_cases e with same | carried
    · rw [List.foldl_cons, same]
      exact fun _ _ => rfl
    · rw [List.foldl_cons, carried]
      exact (ready.carried (ready.orderly.debounce (debounced e (by simp))) True).kept trivial
  | e :: e' :: rest => exact absurd rfl (one e e' rest)

/-! ## The restore window (R140) -/

/-- A state in which no event takes place. -/
theorem State.Ready.idle {s : State} (ready : s.Ready) (one : Prop) : (Work.begun s).Concludes s one :=
  ready.orderly.stays.concludes (Work.Darkens.refl _).darks ready fun _ _ _ => rfl

theorem Work.begun_closed (s : State) : (Work.begun s).closed = s := by
  simp [Work.closed, Work.begun, State.reported]

/-! ### The entries of the history -/

section

variable {w : Work}

theorem Work.free_history (quiet : w.st.storage = []) (r : FaultRecord) :
    (w.free r).st.faults.history = w.st.faults.history := by
  rcases w.free_cases r with ⟨-, free⟩ | ⟨m, -, free⟩
  · rw [free]
    rfl
  · rw [free]
    exact (State.deriveModule_fields (s := (w.drop r).st) quiet m).2.2.2.2.1

theorem Work.makeRoom_history (quiet : w.st.storage = []) : w.makeRoom.st.faults.history = w.st.faults.history := by
  unfold Work.makeRoom
  split
  · rfl
  · split
    · next r _ => exact Work.free_history (w := w.sayRecord .cleared r) quiet r
    · split
      · next r _ => exact Work.free_history quiet r
      · rfl

theorem Work.evaluateDark_history (quiet : w.st.storage = []) :
    w.evaluateDark.st.faults.history = w.st.faults.history := by
  rcases Work.evaluateDark_cases quiet with ⟨same, -⟩ | ⟨-, -, start⟩ | ⟨-, -, stop⟩
  · rw [same]
  · have room := Work.makeRoom_history ((Work.turnDark_moves quiet true).only.storage.trans quiet)
    rw [Work.turnDark_faults quiet] at room
    rw [start]
    rcases (w.turnDark true).raise_cases .cabinetDark .absent with ⟨n, -, faults, -⟩ | ⟨-, same⟩
    · rw [faults]
      exact room
    · rw [same]
      exact room
  · have faults := Work.turnDark_faults quiet false
    rw [stop]
    rcases (w.turnDark false).clear_cases .cabinetDark with ⟨-, same⟩ | ⟨r, -, cleared⟩
    · rw [same, faults]
    · rw [cleared, Work.drop_faults, Work.sayRecord_st, faults]
      rfl

theorem OnlyFaults.now {s t : State} (h : OnlyFaults s t) : t.now = s.now := by
  rw [h]
  rfl

/-- What follows the transitions of an event enters in the history nothing but the time of the event (R140). -/
theorem Work.Follows.admissions {v : Work} (quiet : w.st.storage = []) (h : w.Follows v) :
    ∃ n, v.st.faults.history = w.st.faults.history ++ List.replicate n w.st.now := by
  have still {u : Work} (h : w.Follows u) : u.st.storage = [] := (h.moves quiet).only.storage.trans quiet
  induction h with
  | refl => exact ⟨0, by simp⟩
  | dark h ih =>
    rw [Work.evaluateDark_history (still h)]
    exact ih
  | @admitOne u m ms h queue ih =>
    obtain ⟨n, history⟩ := ih
    refine ⟨n + 1, ?_⟩
    rw [Work.admit_history (still h), history, (h.moves quiet).only.now, List.append_assoc, List.replicate_succ']
  | @record u h ih =>
    obtain ⟨_, -, recorded⟩ := u.recordConditions_records
    rw [recorded]
    exact ih
  | @derive u m h ih =>
    rw [show (u.st.deriveModule m).faults.history = u.st.faults.history from
      (State.deriveModule_fields (still h) m).2.2.2.2.1]
    exact ih

end

theorem eq_of_cons_eq_concat {α : Type} {c x : α} {l : List α} (h : c :: l = l ++ [x]) : c = x := by
  induction l generalizing c with
  | nil => simpa using h
  | cons d l ih =>
    rw [List.cons_append, List.cons.injEq] at h
    exact h.1.trans (ih h.2)

/-- Where the oldest entry has left the history, entries made now do not stand for it. -/
theorem State.windowDue_changes {s : State} (due : s.windowDue = true) (n : Nat) :
    s.faults.history.tail ++ List.replicate n s.now ≠ s.faults.history := by
  unfold State.windowDue at due
  cases history : s.faults.history with
  | nil => simp [history] at due
  | cons c rest =>
    intro same
    have one : n = 1 := by
      have := congrArg List.length same
      simp at this
      omega
    subst one
    have now := eq_of_cons_eq_concat same.symm
    simp [history, now, restoreWindow] at due

/-- The oldest entry has left the history, and modules are admitted. -/
def State.windowPassed (s : State) : Work :=
  (Work.begun s).carry fun w => w.setFaults { w.faults with history := w.faults.history.tail }

theorem State.Ready.windowPassed {s : State} (ready : s.Ready) (due : s.windowDue = true) (one : Prop) :
    s.windowPassed.Concludes s one := by
  have turns : (Work.begun s).Turns ((Work.begun s).setFaults { s.faults with history := s.faults.history.tail }) :=
    ready.orderly.same rfl (List.prefix_refl _) rfl rfl rfl rfl rfl
  refine (ready.orderly.carry turns.toShifts).concludes (ready.orderly.carry_darks turns) ready fun _ _ history => ?_
  obtain ⟨n, entered⟩ := (Work.settle_follows _ s.faults.blankedCount).admissions (ready.orderly.turns turns).quiet
  exact absurd (entered.symm.trans history) (State.windowDue_changes due n)

end Sys2Proof.Machine
end

section
/-! SUPPORT. FAULT-CLEAR (R144): the LATCHED records of a request are freed one after another, each carried through whole, which
never raises the blanked count, so that CABINET_DARK can end in it and not start (R138, R139, R142). -/

namespace Sys2Proof.Machine

/-- A LATCHED record leaves the table with its CLEARED report, its flap counter at 0. -/
def Work.unlatch (r : FaultRecord) (w : Work) : Work :=
  let w := match r.scope with
    | some m => w.setFaults (w.faults.setFlap m r.kind 0)
    | none => w
  (w.sayRecord .cleared r).free r

theorem Work.clearLatched_eq (w : Work) (r : FaultRecord) : w.clearLatched r = w.carry (Work.unlatch r) := rfl

/-- What stands in a slot of `s` is still the record of `s`, or a record of the cabinet that has come since. -/
def Work.SlotKept (w : Work) (r : FaultRecord) : Prop :=
  ∀ q ∈ w.st.faults.records, q.slot = r.slot → q = r ∨ q.scope = none

/-- What the freeing of a LATCHED record leaves, before what follows it. -/
theorem Work.Orderly.unlatch {w : Work} (h : w.Orderly) {r : FaultRecord} (kept : w.SlotKept r) :
    w.Shifts (Work.unlatch r w) ∧ (Work.unlatch r w).st.faults.history = w.st.faults.history ∧
      (Work.unlatch r w).st.faults.blankedCount = w.st.faults.blankedCount ∧
      ∀ q, q ∈ (Work.unlatch r w).st.faults.records ↔ q ∈ w.st.faults.records ∧ q.slot ≠ r.slot := by
  have freed {v : Work} (turned : w.Turned v) (records : v.st.faults.records = w.st.faults.records)
      (modules : v.st.faults.modules = w.st.faults.modules) :
      w.Shifts ((v.sayRecord .cleared r).free r) ∧
        ((v.sayRecord .cleared r).free r).st.faults.history = w.st.faults.history ∧
        ((v.sayRecord .cleared r).free r).st.faults.blankedCount = w.st.faults.blankedCount ∧
        ∀ q, q ∈ ((v.sayRecord .cleared r).free r).st.faults.records ↔ q ∈ w.st.faults.records ∧ q.slot ≠ r.slot := by
    have orderly := h.turns turned.toTurns
    have said := orderly.sayRecord .cleared r
    have sayable := orderly.turns said.toTurns
    obtain ⟨shifts, history, left⟩ := sayable.free_shifts (r := r) fun q hq e m acts => by
      rcases kept q (records ▸ hq) e with rfl | none
      · exact acts
      · have own := acts.1
        rw [none] at own
        cases own
    refine ⟨turned.toShifts.trans (said.toShifts.trans shifts), history.trans turned.history, ?_, fun q => ?_⟩
    · rw [Work.free_count sayable.quiet sayable.derived]
      unfold Faults.blankedCount
      rw [Work.sayRecord_st, modules]
    · rw [left, Work.sayRecord_st, records]
  unfold Work.unlatch
  dsimp only
  split
  · next m _ => exact freed (h.setFlap m r.kind 0) rfl rfl
  · exact freed h.refl rfl rfl

/-- A FAULT-CLEAR under way that began in `s`, the LATCHED records `rs` of `s` still to be freed. -/
structure Work.Clearing (s : State) (rs : List FaultRecord) (w : Work) : Prop where
  orderly : w.Orderly
  tells : (Work.begun s).Tells w
  sound : w.DarkSound
  exact : w.st.DarkExact
  count : w.st.faults.blankedCount ≤ s.faults.blankedCount
  pending : ∀ r ∈ rs, w.SlotKept r
  cleared : ∀ r, Holds s.faults none .cabinetDark r → r.state = .active →
    Holds w.st.faults none .cabinetDark r ∨ ⟨.cleared, some .cabinetDark, none, r.detail⟩ ∈ w.reports
  history : s.faults.history <+: w.st.faults.history
  kept : w.st.faults.history = s.faults.history → w.st.dimming = s.dimming

theorem State.Ready.clearing {s : State} (ready : s.Ready) {rs : List FaultRecord} (stand : ∀ r ∈ rs, r ∈ s.faults.records) :
    (Work.begun s).Clearing s rs where
  orderly := ready.orderly
  tells := (Work.Moves.refl _).tells
  sound := ready.sound
  exact := ready.exact
  count := Nat.le_refl _
  pending r hr _ hq same := .inl (ready.orderly.fit.eq_of_slot hq (stand r hr) same)
  cleared _ hr _ := .inl hr
  history := List.prefix_refl _
  kept _ := rfl

/-- One LATCHED record is freed, and carried through. -/
theorem Work.Clearing.clearLatched {s : State} {r : FaultRecord} {rs : List FaultRecord} {w : Work}
    (h : w.Clearing s (r :: rs)) (fit : s.faults.SlotsFit) (stands : r ∈ s.faults.records) (latched : r.state = .latched) :
    (w.clearLatched r).Clearing s rs := by
  rw [Work.clearLatched_eq]
  obtain ⟨shifts, history, count, left⟩ := h.orderly.unlatch (h.pending r (by simp))
  have carries := h.orderly.carry shifts
  have shifted := h.orderly.shifts shifts
  have settled := shifted.settled w.faults.blankedCount
  have darkens := (Work.settle_follows (Work.unlatch r w) w.faults.blankedCount).darkens shifted.quiet
  have sound := shifts.sound h.sound
  refine ⟨carries.orderly, h.tells.trans carries.tells, darkens.sound sound, carries.exact h.exact, ?_, ?_, ?_, ?_, ?_⟩
  · exact ((shifted.settle _).1.trans count.le).trans h.count
  · intro r' hr' q hq same
    rcases (settled.fit shifted.fit).2.2 q hq with old | ⟨cabinet, -⟩
    · exact h.pending r' (by simp [hr']) q ((left q).1 old).1 same
    · exact .inr cabinet
  · intro r' holds active
    rcases h.cleared r' holds active with held | told
    · refine darkens.cleared sound r' ⟨(left r').2 ⟨held.1, fun same => ?_⟩, held.2⟩
      obtain rfl := fit.eq_of_slot holds.1 stands same
      rw [latched] at active
      cases active
    · exact .inr (carries.tells.reports.mem told)
  · exact h.history.trans (history ▸ settled.history)
  · intro same
    have before : w.st.faults.history = s.faults.history :=
      (h.history.eq_of_length_le (same ▸ (history ▸ settled.history).length_le)).symm
    have none : (w.carry (Work.unlatch r)).st.faults.history = (Work.unlatch r w).st.faults.history :=
      same.trans (before.symm.trans history.symm)
    obtain ⟨_, -, recorded⟩ := (Work.unlatch r w).recordConditions_records
    have end_ := Work.settle_of_history shifted.quiet none
    rw [if_pos (show (Work.unlatch r w).st.faults.blankedCount = w.faults.blankedCount from count)] at end_
    rw [Work.carry, end_, recorded]
    exact shifts.dimming.trans (h.kept before)

theorem Work.Clearing.all {s : State} (fit : s.faults.SlotsFit) {rs : List FaultRecord} : ∀ {w : Work}, w.Clearing s rs →
    (∀ r ∈ rs, r ∈ s.faults.records ∧ r.state = .latched) → (rs.foldl Work.clearLatched w).Clearing s [] := by
  induction rs with
  | nil => exact fun h _ => h
  | cons r rs ih =>
    intro w h latched
    obtain ⟨stands, own⟩ := latched r (by simp)
    exact ih (h.clearLatched fit stands own) fun r' hr' => latched r' (by simp [hr'])

/-- CABINET_DARK has not started, the blanked count being no higher. -/
theorem Work.Clearing.concludes {s : State} {w : Work} (h : w.Clearing s []) (ready : s.Ready) (one : Prop) :
    w.Concludes s one where
  tells := h.tells
  exact := h.exact
  recorded := by
    refine ⟨fun off on => ?_, fun _ off => ⟨h.sound.off off, fun r holds active => ?_⟩⟩
    · have now := h.exact
      have then_ := ready.exact
      unfold State.DarkExact at now then_
      rw [show w.st.faults.flags.cabinetDark = true from on, show w.st.darkAt = s.darkAt from h.tells.only.darkAt] at now
      rw [off] at then_
      have count := h.count
      have reached : s.darkAt ≤ w.st.faults.blankedCount := by simpa using now.symm
      have below : ¬ s.darkAt ≤ s.faults.blankedCount := by simpa using then_.symm
      omega
    · rcases h.cleared r holds active with held | told
      · exact absurd held.2 (h.sound.off off r held.1)
      · exact ⟨_, h.tells.reportsGiven (List.ne_nil_of_mem told), told⟩
  kept _ _ history := h.kept history

theorem State.Ready.clearedLatched {s : State} (ready : s.Ready) {rs : List FaultRecord}
    (latched : ∀ r ∈ rs, r ∈ s.faults.records ∧ r.state = .latched) (one : Prop) :
    (rs.foldl Work.clearLatched (Work.begun s)).Concludes s one :=
  ((ready.clearing fun r hr => (latched r hr).1).all ready.orderly.fit latched).concludes ready one

/-- FAULT-CLEAR is refused and changes nothing, or is an event in which LATCHED records are freed. -/
theorem faultClear_cases (args : List Byte) (s : State) :
    (faultClear args s).2 = s ∨ ∃ rs : List FaultRecord, (∀ r ∈ rs, r ∈ s.faults.records ∧ r.state = .latched) ∧
      (faultClear args s).2 = (rs.foldl Work.clearLatched (Work.begun s)).closed := by
  unfold faultClear
  split
  · exact .inl rfl
  · split
    · next r found =>
      split
      · next latched =>
        refine .inr ⟨[r], ?_, State.faultEvent_eq s fun w => w.clearLatched r⟩
        simpa using ⟨(Faults.recordOf_some found).1, latched⟩
      · exact .inl rfl
    · exact .inl rfl
  · refine .inr ⟨s.faults.latchedRecords, fun r hr => ?_,
      State.faultEvent_eq s fun w => s.faults.latchedRecords.foldl Work.clearLatched w⟩
    obtain ⟨stands, latched⟩ := List.mem_filter.1 hr
    exact ⟨Faults.mem_of_bySlot stands, by simpa using latched⟩

/-- Whatever FAULT-CLEAR does, it concludes an event. -/
theorem State.Ready.faultClear {s : State} (ready : s.Ready) (args : List Byte) (one : Prop) :
    ∃ w : Work, w.Concludes s one ∧ (Machine.faultClear args s).2 = w.closed := by
  rcases faultClear_cases args s with same | ⟨rs, latched, cleared⟩
  · exact ⟨Work.begun s, ready.idle one, by rw [same, Work.begun_closed]⟩
  · exact ⟨_, ready.clearedLatched latched one, cleared⟩

end Sys2Proof.Machine
end

section
/-! SUPPORT. The events of the Fault Monitor as commands (R124, R133, R134, R140, R144): each ends as an event does that its
state is ready for. -/

namespace Sys2Proof.Machine

section

variable {s : State}

/-- A state that is ready is so with commands taken and frames gone out. -/
theorem State.Ready.around (ready : s.Ready) (hs : List Instr) (l : Link) (o : List Output) :
    State.Ready { s with handed := hs, link := l, out := o } :=
  ⟨ready.quiet, ready.wf, ready.exact, ready.unrecorded, ready.derived⟩

theorem State.reply_frame (s : State) (h : MgmtHead) (code : Byte) (a : Answer) :
    s.reply h code a = { s with link := (s.reply h code a).link, out := (s.reply h code a).out } := by
  apply State.eq_of_fields <;> simp

/-- A request taken here is carried out between its frame and its reply. -/
theorem State.request_between {h : MgmtHead} (receives : s.receives h) (code : Byte) (args : List Byte)
    (carryOut : State → Answer × State) : ∃ l₁ o₁ l₂ o₂,
      s.request h code args carryOut = { (carryOut { s with link := l₁, out := o₁ }).2 with link := l₂, out := o₂ } := by
  obtain ⟨upU, addressed⟩ := receives
  have addressed' : (s.forward (.mgmt h code args)).isAddressed h := by
    simpa [State.isAddressed, State.present] using addressed
  have ran : s.request h code args carryOut =
      (carryOut (s.forward (.mgmt h code args))).2.reply h code (carryOut (s.forward (.mgmt h code args))).1 := by
    simp [State.request, State.arriveMgmt, upU, State.takenHere_addressed addressed']
  rw [State.forward_frame, State.reply_frame] at ran
  exact ⟨_, _, _, _, ran⟩

/-- An event that a command taken in `s` brings. -/
theorem Work.Concludes.taken {hs : List Instr} {w : Work} {one : Prop} (h : w.Concludes { s with handed := hs } one)
    (quiet : s.storage = []) (valid : validate .ambient (s.table .ambient).active = none)
    (notices : hs.count .lZeroNotice = s.handed.count .lZeroNotice) :
    EventShown s { s with handed := hs } w.closed one ∧ w.closed.link = s.link ∧ w.closed.out = s.out := by
  refine ⟨Work.Concludes.shown (l₁ := s.link) (o₁ := s.out) h quiet valid notices, ?_⟩
  rw [Work.closed_only h.tells.only]
  exact ⟨rfl, rfl⟩

/-- What is to be shown of an event of a command. -/
def CommandShown (c : Instr) (s t : State) : Prop :=
  EventShown s (s.taken c) t (∀ e e' es, c ≠ .faultEvaluationDelivery (e :: e' :: es)) ∧
    ((∀ h args, c ≠ .faultClear h args) → t.link = s.link ∧ t.out = s.out)

section

variable {c : Instr} {w : Work}

/-- A delivery that begins an event. -/
theorem State.Ready.delivered (ready : s.Ready) (valid : validate .ambient (s.table .ambient).active = none)
    (other : c ≠ .lZeroNotice) (runs : exec c s = .next w.closed) (taken : s.taken c = { s with handed := s.handed.erase c })
    (concludes : w.Concludes { s with handed := s.handed.erase c } (∀ e e' es, c ≠ .faultEvaluationDelivery (e :: e' :: es))) :
    Completes c s (CommandShown c s) := by
  obtain ⟨shown, apart⟩ := concludes.taken ready.quiet valid (List.count_erase_of_ne other.symm)
  exact ⟨_, runs, taken.symm ▸ shown, fun _ => apart⟩

end

theorem exec_faultEvaluationDelivery (started : s.started = true) (es : List Evaluation) :
    exec (.faultEvaluationDelivery es) s =
      .next (es.foldl Work.evaluation (Work.begun (s.take (.faultEvaluationDelivery es)))).closed :=
  (congrArg Host.Outcome.next (if_pos started)).trans
    (congrArg Host.Outcome.next (State.faultEvent_eq _ fun w => es.foldl Work.evaluation w))

theorem exec_conditionDelivery (started : s.started = true) (x : Condition) (b : Bool) :
    exec (.conditionDelivery x b) s =
      .next ((Work.begun (s.take (.conditionDelivery x b))).carry fun w => w.condition x b).closed :=
  (congrArg Host.Outcome.next (if_pos started)).trans
    (congrArg Host.Outcome.next (State.faultEvent_eq _ fun w => w.carry fun w => w.condition x b))

theorem exec_tableEccDelivery (started : s.started = true) (x : Table) (b : Bool) :
    exec (.tableEccDelivery x b) s =
      .next ((Work.begun (s.take (.tableEccDelivery x b))).carry fun w => w.tableEcc x b).closed :=
  (congrArg Host.Outcome.next (if_pos started)).trans
    (congrArg Host.Outcome.next (State.faultEvent_eq _ fun w => w.carry fun w => w.tableEcc x b))

theorem exec_restoreWindowExpiry : exec .restoreWindowExpiry s =
    .next (if s.windowDue then s.windowPassed.closed else (Work.begun s).closed) := by
  rw [Work.begun_closed]
  show Host.Outcome.next (if s.windowDue then s.faultEvent _ else s) = _
  rw [State.faultEvent_eq]
  rfl

/-- The restore window. -/
theorem State.Ready.windowExpiry (ready : s.Ready) (valid : validate .ambient (s.table .ambient).active = none) :
    Completes .restoreWindowExpiry s (CommandShown .restoreWindowExpiry s) := by
  have concluded {w : Work}
      (concludes : w.Concludes s (∀ e e' es, Instr.restoreWindowExpiry ≠ .faultEvaluationDelivery (e :: e' :: es))) :
      CommandShown .restoreWindowExpiry s w.closed := by
    obtain ⟨shown, apart⟩ := Work.Concludes.taken (hs := s.handed) concludes ready.quiet valid rfl
    exact ⟨shown, fun _ => apart⟩
  refine ⟨_, exec_restoreWindowExpiry, ?_⟩
  split
  · next due => exact concluded (ready.windowPassed due _)
  · exact concluded (ready.idle _)

/-- FAULT-CLEAR, between its frame and its reply. -/
theorem State.Ready.faultClearTaken (ready : s.Ready) (valid : validate .ambient (s.table .ambient).active = none)
    {h : MgmtHead} (receives : s.receives h) (args : List Byte) :
    Completes (.faultClear h args) s (CommandShown (.faultClear h args) s) := by
  obtain ⟨l₁, o₁, l₂, o₂, ran⟩ := State.request_between receives 0x0E args (Machine.faultClear args)
  obtain ⟨w, concludes, cleared⟩ := (ready.around s.handed l₁ o₁).faultClear args
    (∀ e e' es, Instr.faultClear h args ≠ .faultEvaluationDelivery (e :: e' :: es))
  refine ⟨_, congrArg Host.Outcome.next (ran.trans ?_), Work.Concludes.shown (hs := s.handed) (l₂ := l₂) (o₂ := o₂) concludes
    ready.quiet valid rfl, fun other => absurd rfl (other h args)⟩
  rw [← cleared]

/-- Every event of the Fault Monitor that finds a state that is ready. -/
theorem State.Ready.event (ready : s.Ready) (valid : validate .ambient (s.table .ambient).active = none) {c : Instr}
    (event : FaultEvent s c) : Completes c s (CommandShown c s) := by
  have taken := ready.around (s.handed.erase c) s.link s.out
  match c, event with
  | .faultEvaluationDelivery es, ⟨started, debounced⟩ =>
    refine ready.delivered valid nofun (exec_faultEvaluationDelivery started es) rfl ?_
    have concludes := taken.evaluated debounced
    exact { concludes with kept := fun one => concludes.kept fun e e' rest same => one e e' rest (congrArg _ same) }
  | .conditionDelivery x b, ⟨started, other⟩ =>
    exact ready.delivered valid nofun (exec_conditionDelivery started x b) rfl
      (taken.carried (taken.orderly.condition other b) _)
  | .tableEccDelivery x b, started =>
    exact ready.delivered valid nofun (exec_tableEccDelivery started x b) rfl
      (taken.carried (taken.orderly.tableEcc x b) _)
  | .restoreWindowExpiry, _ => exact ready.windowExpiry valid
  | .faultClear h args, receives => exact ready.faultClearTaken valid receives args

end

end Sys2Proof.Machine
end

section
/-! SUPPORT. The deliveries of conditions other than CABINET_DARK (R133, R135), and O43 from its two halves. -/

namespace Sys2Proof.Machine

/-! ## Slots and records found -/

section

variable {f : Faults} {k : FaultKind} {r : FaultRecord}

theorem LowestFree.unique {m n : Nat} (h : LowestFree f m) (k : LowestFree f n) : m = n := by
  obtain ⟨-, free, below⟩ := h
  obtain ⟨-, free', below'⟩ := k
  rcases Nat.lt_trichotomy m n with less | same | more
  · obtain ⟨r, hr, e⟩ := below' m less
    exact absurd e (free r hr)
  · exact same
  · obtain ⟨r, hr, e⟩ := below n more
    exact absurd e (free' r hr)

theorem LowestFree.freeSlot {n : Nat} (h : LowestFree f n) : f.freeSlot = some n := by
  obtain ⟨m, found⟩ := Faults.freeSlot_of_lowestFree h
  rw [found, (Faults.freeSlot_some found).unique h]

/-- A pair has one record at most. -/
theorem Faults.tableWf.unique (wf : f.tableWf) {scope : Option Nat} {q : FaultRecord} (hq : Holds f scope k q)
    (hr : Holds f scope k r) : q = r := by
  have : Std.Symm fun a b : FaultRecord => a.slot ≠ b.slot ∧ ¬ (a.scope = b.scope ∧ a.kind = b.kind) :=
    ⟨fun a b h => ⟨h.1.symm, fun e => h.2 ⟨e.1.symm, e.2.symm⟩⟩⟩
  by_contra ne
  exact (wf.1.forall hq.1 hr.1 ne).2 ⟨hq.2.1.trans hr.2.1.symm, hq.2.2.trans hr.2.2.symm⟩

theorem Faults.tableWf.conditionRecord (wf : f.tableWf) (holds : Holds f none k r) : f.conditionRecord k = some r := by
  cases found : f.conditionRecord k with
  | none => exact absurd holds.2 (Faults.recordOf_none found r holds.1)
  | some q => rw [wf.unique (Faults.recordOf_some found) holds]

theorem HoldsNone.conditionRecord (none : HoldsNone f Option.none k) : f.conditionRecord k = Option.none := by
  cases found : f.conditionRecord k with
  | none => rfl
  | some q =>
    obtain ⟨mem, pair⟩ := Faults.recordOf_some found
    exact absurd pair (none q mem)

end

/-! ## The end of an event at rest -/

section

variable {w : Work} {s : State}

/-- An event that frees no record, and in which no module can be admitted, ends with its transitions. -/
theorem Work.settle_unfreed (rest : w.st.faults.restoreQueue = [] ∨ w.st.faults.history.length = 4) {before : Nat}
    (same : w.st.faults.blankedCount = before) (unfreed : w.freed = false) : w.settle before = w := by
  rw [Work.settle_atRest rest same]
  unfold Work.recordConditions
  rw [if_neg (by simp [unfreed])]

/-- A work with a fault table and reports of conditions recorded since. -/
def Work.withRecorded (w : Work) (g : Faults) (reports : List Report) : Work :=
  { w with st := { w.st with faults := g }, reports := w.reports ++ reports }

/-- The recording of conditions, kind by kind. -/
theorem Work.foldl_recordCondition (ks : List FaultKind) : ∀ {w : Work}, w.st.stamp = s.seen → ∃ reports g,
    ConditionsRecorded s ks w.st.faults reports g ∧ ks.foldl Work.recordCondition w = w.withRecorded g reports := by
  induction ks with
  | nil => exact fun {w} _ => ⟨[], w.st.faults, ⟨rfl, rfl⟩, by simp [Work.withRecorded]⟩
  | cons k ks ih =>
    intro w seen
    rcases w.recordCondition_cases k with ⟨same, why⟩ | ⟨d, n, present, lacks, free, placed⟩
    · obtain ⟨reports, g, recorded, folded⟩ := ih seen
      refine ⟨reports, g, ⟨fun d n present lacks free => ?_, fun _ => recorded⟩, by rw [List.foldl_cons, same, folded]⟩
      rcases why with none | holds | full
      · rw [none] at present
        cases present
      · exact absurd lacks holds
      · exact absurd full free.not_full
    · have seen' : (w.recordCondition k).st.stamp = s.seen := by
        rw [placed]
        exact seen
      obtain ⟨more, g, recorded, folded⟩ := ih seen'
      refine ⟨⟨.raised, some k, none, d⟩ :: more, g, ⟨fun d' n' present' _ free' => ⟨more, ?_, ?_⟩, fun why => ?_⟩, ?_⟩
      · rw [Option.some.inj (present'.symm.trans present)]
      · rw [placed, seen] at recorded
        rw [Option.some.inj (present'.symm.trans present), free'.unique free]
        exact recorded
      · rcases why with none | holds | full
        · rw [none] at present
          cases present
        · exact absurd lacks holds
        · exact absurd free (full n)
      · rw [List.foldl_cons, folded, placed]
        simp [Work.withRecorded]

/-- The end of an event that has freed a record, where no module can be admitted (R135). -/
theorem Work.settle_freeing (rest : w.st.faults.restoreQueue = [] ∨ w.st.faults.history.length = 4) {before : Nat}
    (same : w.st.faults.blankedCount = before) (freed : w.freed = true) (seen : w.st.stamp = s.seen) : ∃ reports g,
    ConditionsRecorded s [.streamLost, .tableEcc, .clockUnset, .storeInvalid, .cabinetDark] w.st.faults reports g ∧
      (w.settle before).closed = { w.st with faults := g }.reported g (w.reports ++ reports) := by
  obtain ⟨reports, g, recorded, folded⟩ := Work.foldl_recordCondition conditionKinds seen
  refine ⟨reports, g, recorded, ?_⟩
  rw [Work.settle_atRest rest same]
  unfold Work.recordConditions
  rw [if_pos freed, folded]
  rfl

/-- Where every condition has its record, none is recorded. -/
theorem Faults.Recorded.recorded_nothing {f g : Faults} (h : f.Recorded) {reports : List Report} {ks : List FaultKind}
    (kinds : ∀ k ∈ ks, k ∈ conditionKinds) (recorded : ConditionsRecorded s ks f reports g) : reports = [] ∧ g = f := by
  induction ks with
  | nil => exact recorded
  | cons k ks ih =>
    refine ih (fun k' hk => kinds k' (by simp [hk])) (recorded.2 ?_)
    cases present : f.presentCondition k with
    | none => exact .inl rfl
    | some d => exact .inr (.inl (h k (kinds k (by simp)) d present))

end

/-! ## A condition delivered -/

section

variable {x : Condition} {w : Work}

theorem Work.condition_starts (other : x ≠ .cabinetDark) (off : w.faults.flags.get x = false) :
    w.condition x true = (w.setFlag x true).raise x.kind .absent := by
  unfold Work.condition
  rw [off]
  exact congrArg (fun v => Work.raise v x.kind .absent) (Work.tellDimming_other other _ _)

theorem Work.condition_again (on : w.faults.flags.get x = true) : w.condition x true = w.refresh x.kind := by
  unfold Work.condition
  rw [on]

theorem Work.condition_ends (other : x ≠ .cabinetDark) (on : w.faults.flags.get x = true) :
    w.condition x false = (w.setFlag x false).clear x.kind := by
  unfold Work.condition
  rw [on]
  exact congrArg (fun v => Work.clear v x.kind) (Work.tellDimming_other other _ _)

theorem Work.condition_absent (off : w.faults.flags.get x = false) : w.condition x false = w := by
  unfold Work.condition
  rw [off]

end

section

variable {s : State} {x : Condition}

/-- The delivery of a condition that frees no record, where no module can be admitted. -/
theorem State.conditionDelivery_unfreed {b : Bool} (started : s.started = true)
    (rest : s.faults.restoreQueue = [] ∨ s.faults.history.length = 4) {f : Faults} {reports : List Report}
    (queue : f.restoreQueue = s.faults.restoreQueue) (history : f.history = s.faults.history)
    (modules : f.modules = s.faults.modules)
    (goes : (Work.begun (s.take (.conditionDelivery x b))).condition x b =
      ⟨{ s.take (.conditionDelivery x b) with faults := f }, reports, false⟩) :
    exec (.conditionDelivery x b) s =
      .next (State.reported (s.take (.conditionDelivery x b)) f reports) := by
  rw [exec_conditionDelivery started]
  unfold Work.carry
  beta_reduce
  rw [goes, Work.settle_unfreed]
  · rfl
  · rw [queue, history]
    exact rest
  · show f.blankedCount = s.faults.blankedCount
    unfold Faults.blankedCount
    rw [modules]
  · rfl

theorem State.reported_none (s : State) (f : Faults) : s.reported f [] = { s with faults := f } := by
  simp [State.reported]

/-- The same, where nothing is reported. -/
theorem State.conditionDelivery_silent {b : Bool} (started : s.started = true)
    (rest : s.faults.restoreQueue = [] ∨ s.faults.history.length = 4) {f : Faults}
    (queue : f.restoreQueue = s.faults.restoreQueue) (history : f.history = s.faults.history)
    (modules : f.modules = s.faults.modules)
    (goes : (Work.begun (s.take (.conditionDelivery x b))).condition x b =
      Work.begun { s.take (.conditionDelivery x b) with faults := f }) :
    exec (.conditionDelivery x b) s = .next { s.take (.conditionDelivery x b) with faults := f } := by
  rw [State.conditionDelivery_unfreed started rest queue history modules goes, State.reported_none]

/-- The conditions present once one has ended. -/
theorem Faults.presentCondition_ended (f : Faults) (x : Condition) (k : FaultKind) :
    { f with flags := f.flags.set x false }.presentCondition k = if k = x.kind then none else f.presentCondition k := by
  cases x <;> cases k <;> rfl

/-- Every condition but the one that ends has its record, where every one had. -/
theorem Faults.atRest.ended {f : Faults} (rest : f.atRest) (wf : f.tableWf) {r : FaultRecord}
    (holds : Holds f none x.kind r) : ({ f with flags := f.flags.set x false }.without r).Recorded := by
  intro k hk d present lacks
  have left : { f with flags := f.flags.set x false }.presentCondition k = some d := present
  rw [Faults.presentCondition_ended] at left
  split at left
  · cases left
  · next ne =>
    refine rest.2 k hk d left fun q hq pair => lacks q ?_ pair
    refine ((Faults.SlotsFit.of_tableWf wf).mem_remove holds.1).2 ⟨hq, ?_⟩
    rintro rfl
    exact ne (pair.2.symm.trans holds.2.2)

/-- A condition ends whose record stands. -/
theorem State.conditionDelivery_ends (started : s.started = true) (other : x ≠ .cabinetDark) (wf : s.faults.tableWf)
    (rest : s.faults.restoreQueue = [] ∨ s.faults.history.length = 4) (on : s.faults.flags.get x = true) {r : FaultRecord}
    (holds : Holds s.faults none x.kind r) : ∃ reports g,
      ConditionsRecorded s [.streamLost, .tableEcc, .clockUnset, .storeInvalid, .cabinetDark]
        ({ s.faults with flags := s.faults.flags.set x false }.without r) reports g ∧
      exec (.conditionDelivery x false) s = .next (State.reported
        (s.take (.conditionDelivery x false)) g (⟨.cleared, some x.kind, none, r.detail⟩ :: reports)) := by
  let w := Work.begun (s.take (.conditionDelivery x false))
  have freed : w.condition x false = ((w.setFlag x false).sayRecord .cleared r).drop r := by
    rw [Work.condition_ends (w := w) other on]
    rcases (w.setFlag x false).clear_cases x.kind with ⟨lacks, -⟩ | ⟨q, own, cleared⟩
    · exact absurd holds.2 (lacks r holds.1)
    · rw [cleared, wf.unique own holds]
  obtain ⟨reports, g, recorded, ends⟩ := Work.settle_freeing (s := s)
    (w := ((w.setFlag x false).sayRecord .cleared r).drop r) (before := s.faults.blankedCount) rest rfl rfl rfl
  refine ⟨reports, g, recorded, ?_⟩
  rw [exec_conditionDelivery started]
  refine congrArg Host.Outcome.next (Eq.trans ?_ (ends.trans ?_))
  · exact congrArg (fun v => Work.closed (v.settle s.faults.blankedCount)) freed
  · simp only [Work.drop, Work.setFaults, Work.sayRecord, Work.say, Work.setFlag, holds.2.1, holds.2.2]
    rfl

/-- A condition starts while a slot is free. -/
theorem State.conditionDelivery_starts (started : s.started = true) (other : x ≠ .cabinetDark)
    (rest : s.faults.restoreQueue = [] ∨ s.faults.history.length = 4) (off : s.faults.flags.get x = false) {n : Nat}
    (free : LowestFree s.faults n) :
    exec (.conditionDelivery x true) s = .next (State.reported (s.take (.conditionDelivery x true))
      { s.faults with flags := s.faults.flags.set x true
                      records := s.faults.records ++ [s.created n none x.kind .active .absent] }
      [⟨.raised, some x.kind, none, .absent⟩]) := by
  refine State.conditionDelivery_unfreed started rest rfl rfl rfl ?_
  have slot : { s.faults with flags := s.faults.flags.set x true }.freeSlot = some n := LowestFree.freeSlot free
  rw [Work.condition_starts (w := Work.begun (s.take _)) other off, Work.raise_free slot]
  rfl

/-- A condition is found present again. -/
theorem State.conditionDelivery_again (started : s.started = true) (wf : s.faults.tableWf)
    (rest : s.faults.restoreQueue = [] ∨ s.faults.history.length = 4) (on : s.faults.flags.get x = true) {r : FaultRecord}
    (holds : Holds s.faults none x.kind r) : exec (.conditionDelivery x true) s = .next
      { s.take (.conditionDelivery x true) with faults := s.faults.updated (s.detected r r.detail) } := by
  refine State.conditionDelivery_silent started rest rfl rfl rfl ?_
  rw [Work.condition_again (w := Work.begun (s.take _)) on]
  unfold Work.refresh
  rw [show (Work.begun (s.take _)).faults.conditionRecord x.kind = some r from wf.conditionRecord holds]
  rfl

/-- A condition is found present again that has no record. -/
theorem State.conditionDelivery_unrecorded (started : s.started = true)
    (rest : s.faults.restoreQueue = [] ∨ s.faults.history.length = 4) (on : s.faults.flags.get x = true)
    (lacks : HoldsNone s.faults none x.kind) :
    exec (.conditionDelivery x true) s = .next (s.take (.conditionDelivery x true)) := by
  refine State.conditionDelivery_silent (f := s.faults) started rest rfl rfl rfl ?_
  rw [Work.condition_again (w := Work.begun (s.take _)) on]
  unfold Work.refresh
  rw [show (Work.begun (s.take _)).faults.conditionRecord x.kind = none from lacks.conditionRecord]
  rfl

/-- A condition ends that has no record. -/
theorem State.conditionDelivery_unrecorded_ends (started : s.started = true) (other : x ≠ .cabinetDark)
    (rest : s.faults.restoreQueue = [] ∨ s.faults.history.length = 4) (on : s.faults.flags.get x = true)
    (lacks : HoldsNone s.faults none x.kind) :
    exec (.conditionDelivery x false) s = .next { s.take (.conditionDelivery x false) with
      faults := { s.faults with flags := s.faults.flags.set x false } } := by
  refine State.conditionDelivery_silent started rest rfl rfl rfl ?_
  rw [Work.condition_ends (w := Work.begun (s.take _)) other on]
  unfold Work.clear
  rw [show ((Work.begun (s.take _)).setFlag x false).faults.conditionRecord x.kind = none from
    lacks.conditionRecord]
  rfl

/-- A condition ends that was not present. -/
theorem State.conditionDelivery_absent (started : s.started = true)
    (rest : s.faults.restoreQueue = [] ∨ s.faults.history.length = 4) (off : s.faults.flags.get x = false) :
    exec (.conditionDelivery x false) s = .next (s.take (.conditionDelivery x false)) := by
  refine State.conditionDelivery_silent (f := s.faults) started rest rfl rfl rfl ?_
  exact Work.condition_absent (w := Work.begun (s.take _)) off

end

/-- Settles O43: every fault event leaves CABINET_DARK as the blanked count has it, since the freeing of records leaves the count
and an admission does not raise it; and the other conditions, delivery by delivery. -/
theorem conditionsAreRaisedAndCleared : Obligations.ConditionsAreRaisedAndCleared := by
  unfold Obligations.ConditionsAreRaisedAndCleared
  refine ⟨fun c s event quiet valid wf dark lacks derived => ?_, fun x s started quiet other wf rest => ?_⟩
  · have exact : s.DarkExact := by
      unfold State.DarkExact
      rw [← State.blankedNow_eq]
      exact dark
    have ready : s.Ready := ⟨quiet, wf, exact, lacks, derived⟩
    obtain ⟨t, runs, ⟨flag, told, recorded, only, kept⟩, apart⟩ := ready.event valid event
    exact ⟨t, runs, flag, told, recorded, only, apart, kept⟩
  · refine ⟨fun off _ n free => State.conditionDelivery_starts started other rest off free,
      fun on r holds => State.conditionDelivery_again started wf rest on holds,
      fun on none => ⟨State.conditionDelivery_unrecorded started rest on none,
        State.conditionDelivery_unrecorded_ends started other rest on none⟩,
      fun on r holds => ?_, State.conditionDelivery_absent started rest⟩
    obtain ⟨reports, g, recorded, ends⟩ := State.conditionDelivery_ends started other wf rest on holds
    refine ⟨fun atRest => ?_, reports, g, recorded, ends⟩
    obtain ⟨rfl, rfl⟩ := (atRest.ended wf holds).recorded_nothing (fun _ hk => hk) recorded
    exact ends

end Sys2Proof.Machine
end
